-- ==== Sys2Proof/Word.lean ====
section
/-! DEFINITION. The word types of the block and their plainest arithmetic (R8, R14). -/

namespace Sys2Proof

/-- A 32-bit word of the command interface (R8, R72). -/
abbrev W := BitVec 32

/-- A command tag (word 0 [23:16] of a submission entry). -/
abbrev Tag := BitVec 8

/-- One byte. -/
abbrev Byte := BitVec 8

/-- A word from a natural number, modulo 2^32. -/
def w32 (n : Nat) : W := BitVec.ofNat 32 n

/-- A word from an integer in two's complement (R8, R14). -/
def wInt (n : Int) : W := BitVec.ofInt 32 n

/-- The low word of a 64-bit quantity (R102: low word first). -/
def wLo (n : Int) : W := BitVec.ofInt 32 n

/-- The high word of a 64-bit quantity. -/
def wHi (n : Int) : W := BitVec.ofInt 32 (n.ediv 4294967296)

/-- Bits `[lo + n - 1 : lo]` of a word as a number. -/
def bitsOf (w : W) (lo n : Nat) : Nat := (w.toNat / 2 ^ lo) % 2 ^ n

/-- One bit of a number. -/
def natBit (n k : Nat) : Bool := n.testBit k

/-- A Boolean as 0 or 1. -/
def b01 (b : Bool) : Nat := if b then 1 else 0

/-- Addition that saturates at `m`. -/
def satAdd (m a b : Nat) : Nat := min m (a + b)

end Sys2Proof
end

