-- ==== Sys2Proof/Syntax.lean ====
section
/-! DEFINITION. The commands and events of the block: one constructor of `Instr` per row of spec/opcode_table.json, with the operands each row needs. -/

namespace Sys2Proof

/-- A command port (chapter 03, "Ports"). -/
inductive Port where | spia | spib | i2c | internal
deriving DecidableEq, Repr

/-- A host port: one with a register window (R70). -/
inductive HPort where | spia | spib | i2c
deriving DecidableEq, Repr

/-- A SPI port. -/
inductive SpiPort where | spia | spib
deriving DecidableEq, Repr

/-- Why a SPI write transaction is discarded (R74). -/
inductive SpiWriteError where
  /-- Command byte neither 0x02 nor 0x03. -/
  | badCommand
  /-- LEN is 0 or above 64. -/
  | badLen
  /-- Ended at a byte count other than 6 + 4 x LEN. -/
  | badCount
  /-- CRC mismatch. -/
  | badCrc
  /-- Address not a multiple of 4, or a word outside a writable region. -/
  | badAddr
deriving DecidableEq, Repr

/-- Why a SPI read returns zeroed data with an inverted trailer (R74). -/
inductive SpiReadError where | badCrc | badAddr
deriving DecidableEq, Repr

/-- Why an I2C write transfer is discarded (R77). -/
inductive I2cWriteError where
  /-- The pointer is not a multiple of 4. -/
  | align
  /-- Not 4 to 256 data bytes, a whole number of words. -/
  | length
  /-- A word outside one writable region. -/
  | region
  /-- A wrong or missing PEC. -/
  | pec
deriving DecidableEq, Repr

/-- The supply that falls, and its voltage in mV (R43). -/
inductive PorCause where | vin (mv : Nat) | vcc5 (mv : Nat) | vddc (mv : Nat)
deriving DecidableEq, Repr

/-- How the current of a source path is known: the forward drop across a DC input's FET pair, uV (R112), or the current sense of a USB
port, mA (chapter 04, "Power path"). -/
inductive InputCurrent where | drop (uv : Nat) | sense (ma : Nat)
deriving DecidableEq, Repr

/-- Supply voltages in mV at a moment (R43). -/
structure Supplies where
  vin : Nat
  vcc5 : Nat
  vddc : Nat
  vddio : Nat
  vbkup : Nat
deriving DecidableEq, Repr

/-- The causes of a chip reset (R52, RSTCAUSE.LAST). -/
inductive ResetCause where
  | rstnShort | heddle | selvedge | safLockstep | clkmon | fwActivate | safeExit | deepSleep
  /-- The chip reset that LC_ADVANCE begins (R422). -/
  | lcAdvance
deriving DecidableEq, Repr

/-- The blocks that can be block-reset (R54). -/
inductive Block where
  | shuttle (i : Fin 6) | pdCore | charger | acq | spia | spib | i2c
deriving DecidableEq, Repr

/-- Which key an image is signed with (R426). -/
inductive ImgKey where | hash0 | hash1 | manufacturing | unknown
deriving DecidableEq, Repr

/-- What verification finds in one image (R425, R426). -/
structure ImgFacts where
  magicOk : Bool
  fits : Bool
  hashOk : Bool
  key : ImgKey
  sigOk : Bool
  version : W
  /-- The Horto version a configuration image was made for: MAJOR [31:24], MINOR [23:16]. -/
  madeFor : W
  rollback : Nat
deriving DecidableEq, Repr

/-- The images FW_ACTIVATE of a bank verifies (R432); `cfgRulesOk`: the configuration image passes every
validity rule that gives BOOT_ERR 0x03 (R426). -/
structure BankFacts where
  horto : ImgFacts
  pd : ImgFacts
  cfg : ImgFacts
  cfgRulesOk : Bool
deriving DecidableEq, Repr

/-- The images of one bank at secure boot (R424, R428). -/
structure BankImages where
  horto : ImgFacts
  pd0 : ImgFacts
  pd1 : ImgFacts
  cfg : ImgFacts
deriving DecidableEq, Repr

/-- The images of both banks at secure boot (R428). -/
structure BootFacts where
  a : BankImages
  b : BankImages
deriving DecidableEq, Repr

/-- The conditions of OTP programming as the controller measures them (R417). `failAfter`: a condition fails
after that many pulsed bits; `badBit`: the asked bit, counted from 0, that does not read 1 after 3 pulses (R416). -/
structure OtpBench where
  vddc : Nat
  vpp : Nat
  vcc5 : Nat
  /-- Hottest die sensor, 0.1 degC. -/
  dieT : Int
  failAfter : Option Nat
  badBit : Option Nat
deriving DecidableEq, Repr

/-- What wakes the device from DEEP SLEEP or SHIP (R64). -/
inductive WakeCause where
  | wakePin | rtcAlarm | source (d : Fin 2) | vbus (u : Fin 2) | gpio (n : Fin 16)
deriving DecidableEq, Repr

/-- An ideal-diode path of R107. -/
inductive Gate where | dca | dcb | bat | snk (u : Fin 2)
deriving DecidableEq, Repr

/-- What SH0 observes over one 100 ms charger tick (R138, R139, R146). -/
structure ChgObs where
  /-- Lowest VBAT of the tick's 10 ms samples, mV. -/
  vMin : Nat
  /-- Highest VBAT of the tick's 10 ms samples, mV. -/
  vMax : Nat
  /-- Current the voltage loop demands, mA. -/
  loopMa : Nat
  /-- Battery current averaged over 1 s, mA, positive into the battery. -/
  avgMa : Int
  /-- Charge current the input limit of step 1 of R122 allows; `none` when it does not bind. -/
  inputMa : Option Nat
  /-- VLINK, mV. -/
  vlink : Nat
  /-- Current that link priority allows while VLINK is at or below CHG.VLINK_MIN_MV (R146), mA. -/
  linkMa : Nat
deriving DecidableEq, Repr

/-- What a phase-loss check finds (R184): the IMON voltage over 2 us, the peak-to-peak current over 64 cycles with the VLINK and the
on-time of those cycles, or the cycle averages over 200 us. -/
inductive LossReading where
  | imon (mv : Nat)
  | ripple (ma vlink tOnNs : Nat)
  | averages (l : List (Fin 24 × Int))
deriving DecidableEq, Repr

/-- A loss as the Power Frame detects it; `same`: in the FRAME cycle of the loss before it (R186). -/
structure LossReport where
  what : LossReading
  same : Bool := false
deriving DecidableEq, Repr

/-- What else falls in the FRAME cycle of a trip (R172): nothing, a disable of the channel, a trip of another kind. -/
inductive SameCycle where | alone | disable | trip
deriving DecidableEq, Repr

/-- An output over-voltage: the remote and the local reading at the output, mV (R176). -/
structure OvTrip where
  remote : Nat
  near : Nat
  co : SameCycle := .alone
deriving DecidableEq, Repr

/-- An output undervoltage: the sensed output, mV (R176). -/
structure UvTrip where
  mv : Nat
  co : SameCycle := .alone
deriving DecidableEq, Repr

/-- Eight trips in current limit on a channel (R180). -/
structure ShortTrip where
  c : Fin 12
  co : SameCycle := .alone
deriving DecidableEq, Repr

/-- The sense pins of a channel (R181): VSNSP less VSNSN, and VLOC, uV. -/
structure SensePins where
  snsUv : Int
  locUv : Int
deriving DecidableEq, Repr

/-- A controlled rail (R198). -/
inductive Rail where
  | vr (n : Fin 12) | ldo (n : Fin 8) | en (n : Fin 16)
deriving DecidableEq, Repr

/-- The capture behind a phase-health estimate (R192). -/
structure HealthMeasure where
  vlinkMv : Nat
  voutMv : Nat
  tOnNs : Nat
  periodNs : Nat
  rippleMa : Nat
  avgMa : Nat
deriving DecidableEq, Repr

/-- Which comparator of a monitor (R202). -/
inductive MonSide where | uv | ov
deriving DecidableEq, Repr

/-- A crossing of a monitor comparator: which, and the monitored voltage that has held for the deglitch time, mV (R202). -/
structure MonEdge where
  side : MonSide
  mv : Nat
deriving DecidableEq, Repr

/-- A battery current step (R240): mA levels before and after, the spread of the current in the 10 ms before
and the 20 ms after, the rise time, and the first voltage jump. -/
structure StepMeasure where
  before : Int
  after : Int
  preLo : Int
  preHi : Int
  postLo : Int
  postHi : Int
  riseUs : Nat
  jumpUv : Nat
deriving DecidableEq, Repr

/-- A completed fit (R241): elements, residual and response, and whether its window holds a gap (R279). -/
structure FitMeasure where
  rs : Nat
  rct : Nat
  cdl : Nat
  rdif : Nat
  cdif : Nat
  residualUv : Nat
  responseUv : Nat
  gap : Bool
  /-- First voltage jump of the captured step, uV, and the step's current, mA (R242). -/
  jumpUv : Nat
  stepMa : Nat
deriving DecidableEq, Repr

/-- What the second's update measures of the load (R257). -/
structure LoadReading where
  /-- Battery current, mA, in the sign of R8. -/
  iBat : Int
  /-- VBAT, mV. -/
  vbat : Nat
  /-- Power of the sources into the link, mW. -/
  srcMw : Nat
  /-- Link-side power of the converter in charging, mW. -/
  convMw : Nat
deriving DecidableEq, Repr

/-- Why the probe hold releases early (R245). -/
inductive HoldRelease where | vbatSag | linkUv | handover
deriving DecidableEq, Repr

/-- Why a probe is cancelled (R246). -/
inductive ProbeCancel where
  | loadChange (ma : Nat) | stateChange | dischargeDemand
deriving DecidableEq, Repr

/-- The estimator tables (R247). -/
inductive TableKind where | ocv | cap | rs
deriving DecidableEq, Repr

/-- The battery direction (R254); codes of EST_READ: 0 REST, 1 CHARGE, 2 DISCHARGE. -/
inductive Direction where | rest | charge | discharge
deriving DecidableEq, Repr

/-- The scheduled tests (R263). -/
inductive TestKind where | function | duration
deriving DecidableEq, Repr

/-- One conversion result of a round or a fast read (R277, R292): value in 1/8 LSB; for a temperature input its
reading in 0.1 degC (R303) and, in diode mode, the forward voltage at 10 uA in mV (R305). -/
structure InputResult where
  code : Fin 112
  value : BitVec 16
  overrange : Bool
  restarted : Bool
  tempC10 : Int
  vfMv : Nat
deriving DecidableEq, Repr

/-- One slice's correction coefficients (R287, R288): offset in 1/8 LSB, gain in ppm, skew in 0.25 ps. -/
structure Coef where
  offset : Int
  gain : Int
  skew : Int
deriving DecidableEq, Repr

/-- A debounced CC attach (R325, R326): the YL960's power role, and whether an Ra is present. -/
structure Attach where
  source : Bool
  ra : Bool
  /-- The attach has passed tCCDebounce; otherwise it is first seen. -/
  settled : Bool
deriving DecidableEq, Repr

/-- The Rp advertisement of a partner source (R327). -/
inductive RpLevel where | dflt | a15 | a30
deriving DecidableEq, Repr

/-- The kind of a PDO a partner offers (R336). -/
inductive PdoKind where | fixed | pps | other
deriving DecidableEq, Repr

/-- One PDO a partner source offers (R336). -/
structure OfferedPdo where
  pos : Nat
  kind : PdoKind
  minMv : Nat
  maxMv : Nat
  ma : Nat
deriving DecidableEq, Repr

/-- What a cable answers on SOP' (R334). -/
structure CableVdo where
  fiveA : Bool
  fiftyV : Bool
  epr : Bool
deriving DecidableEq, Repr

/-- A structured VDM on SOP (R347). -/
inductive Vdm where
  | discoverIdentity | discoverSvids
  | discoverModes (svid : BitVec 16)
  | enterMode (svid : BitVec 16) (mode : Nat)
  | exitMode
  | status (svid : BitVec 16)
  | call (svid : BitVec 16) (vdo : W)
  | other
  | unstructured
deriving DecidableEq, Repr

/-- Type-C and PD timers of the standard (R324, R344). -/
inductive PdTimer where
  | ccDebounce | pdDebounce | tryTimer | tryWait | srcTransition | srcRecover
deriving DecidableEq, Repr

/-- PD messages that no other row takes (R324). -/
inductive PdMessage where
  | accept | psRdy | reject | wait | getSourceCap | getSinkCap | eprGetSourceCap | eprGetSinkCap
  | softReset | eprModeEnter | eprModeExit | eprKeepAlive | unsupported
  | sinkCapabilities (dualRolePower : Bool)
deriving DecidableEq, Repr

/-- The drop across a pair of a port, mV; negative in the reverse direction (R339). -/
structure ReverseDrop where
  sink : Bool
  mv : Int
deriving DecidableEq, Repr

/-- A watched processor (R388). -/
inductive Proc where | cmd | sh (i : Fin 6) | pd | saf
deriving DecidableEq, Repr

/-- A Heddle registration (R390): thread mask, OPEN and CLOSE in us. -/
structure Registration where
  mask : BitVec 16
  openUs : Nat
  closeUs : Nat
deriving DecidableEq, Repr

/-- The cause of KETTLE_LOW (R412). -/
inductive KettleLowCause where | voltage | capacitance
deriving DecidableEq, Repr

/-- The supply whose level locks the RTC out (R439). -/
inductive LockoutSupply where | vcc5 | vddio
deriving DecidableEq, Repr


/-- One constructor per row of the opcode table (operations and events of the part). -/
inductive Instr where
  /-- SESSION_OPEN (R98): Class-0 command that moves the port session to OPEN, increments SNUM, reissues credits and returns the session and bound words. -/
  | sessionOpen (p : Port) (tag : Tag)
  /-- SNAPSHOT (R98): Class-0 command that returns the full-precision snapshot words, or the early words in early service. -/
  | snapshot (p : Port) (tag : Tag)
  /-- EMERGENCY_OFF (R50): Class-0 command that turns off every channel, LDO and enable output at once through the Power Frame, applying configured discharge. -/
  | emergencyOff (p : Port) (tag : Tag)
  /-- SAFE_EXIT (R100): Class-0 command that, in Safe Hold, clears the ladder and Safe Hold flag, posts DONE and begins a chip reset; otherwise completes WRONG_STATE. -/
  | safeExit (p : Port) (tag : Tag)
  /-- POWER_STATE (R67): Command that requests entry to DEEP SLEEP or SHIP, refused unless all groups are down, no contract is held and the device is not in TEST or Safe Hold. -/
  | powerState (p : Port) (tag : Tag)
  /-- TEST_MODE_ENTER (R35): TEST_MODE with word 1 bit 0 set and the confirm word, which moves the device from NORMAL to TEST. -/
  | testModeEnter (p : Port) (tag : Tag)
  /-- TEST_MODE_LEAVE (R35): TEST_MODE with word 1 bit 0 clear, which applies R34 and returns the device to NORMAL. -/
  | testModeLeave (p : Port) (tag : Tag)
  /-- PARAM_GET (R101): Command that returns the live values of the named parameters, or a slice of one TBL parameter. -/
  | paramGet (p : Port) (tag : Tag)
  /-- PARAM_SET (R102): All-or-nothing command that checks every entry and then writes all the named parameter values. -/
  | paramSet (p : Port) (tag : Tag)
  /-- PARAM_COMMIT (R105): Class-3 command that writes every changed NVM-reset parameter to NVM in one transaction. -/
  | paramCommit (p : Port) (tag : Tag) (bad : Option (BitVec 8))
  /-- CHG_START (R153): Command that clears WAIT bit 3 and the absence latch, enters WAIT from OFF, optionally forces a new cycle, and leads to a start check. -/
  | chgStart (p : Port) (tag : Tag)
  /-- CHG_STOP (R153): Command that stops charging within 1 ms and enters OFF while leaving discharge allowed. -/
  | chgStop (p : Port) (tag : Tag)
  /-- RAIL_ON (R222): Command that enables one rail and completes when it is up, or with a refusal, failure or timeout. -/
  | railOn (p : Port) (tag : Tag)
  /-- RAIL_OFF (R222): Command that disables one rail and completes when it is below its off-threshold, or on its stuck bound. -/
  | railOff (p : Port) (tag : Tag)
  /-- GROUP_UP (R223): Command that requests power-up of a group, with the outcome that the group state dictates under R217. -/
  | groupUp (p : Port) (tag : Tag)
  /-- GROUP_DOWN (R223): Command that requests power-down of one group, or of all groups in reverse order. -/
  | groupDown (p : Port) (tag : Tag)
  /-- MARGIN_SET (R225): Command that writes a signed margin for a channel through the frame port and widens the dependent windows. -/
  | marginSet (p : Port) (tag : Tag)
  /-- EST_READ (R270): Command that returns estimator values selected by a selector. -/
  | estRead (p : Port) (tag : Tag)
  /-- CADDY_READ (R270): Command that returns the caddy log entry of a given SEQ. -/
  | caddyRead (p : Port) (tag : Tag)
  /-- TEST_START (R270): Command that starts a function or duration test once the R264 conditions hold, holding the sources off. -/
  | testStart (p : Port) (tag : Tag)
  /-- TEST_ABORT (R270): Command that ends the running test as ABORTED. -/
  | testAbort (p : Port) (tag : Tag)
  /-- TEST_LOG_READ (R270): Command that returns the test log entry of a given SEQ. -/
  | testLogRead (p : Port) (tag : Tag)
  /-- EST_LEARN_RESET (R270): TEST-only command that serves the factory tables, discards learned tables and Q_FULL, and resets sigma_C. -/
  | estLearnReset (p : Port) (tag : Tag)
  /-- GAUGE_STATUS (R262): LEDGER-mode compatibility command that returns VBAT, current, SoC flags and temperature in the Yilah 200 layout. -/
  | gaugeStatus (p : Port) (tag : Tag)
  /-- GAUGE_CAPACITY (R262): LEDGER-mode compatibility command that returns remaining, full, design capacity and cycles. -/
  | gaugeCapacity (p : Port) (tag : Tag)
  /-- GAUGE_TIMES (R262): LEDGER-mode compatibility command that returns time to empty, time to full and average current. -/
  | gaugeTimes (p : Port) (tag : Tag)
  /-- CAPTURE_ARM (R297): Command that validates a capture descriptor, reserves pool space and arms a capture slot. -/
  | captureArm (p : Port) (tag : Tag)
  /-- CAPTURE_DISARM (R296): Command that disarms a slot and truncates a running record. -/
  | captureDisarm (p : Port) (tag : Tag)
  /-- CAPTURE_STATUS (R296): Command that returns the state and counts of a capture slot. -/
  | captureStatus (p : Port) (tag : Tag)
  /-- CAPTURE_READ (R296): Command that returns 12 words of a capture record from a byte offset. -/
  | captureRead (p : Port) (tag : Tag)
  /-- ACQ_TRIGGER (R296): Command that starts every named slot with trigger kind 3. -/
  | acqTrigger (p : Port) (tag : Tag)
  /-- ACQ_READ (R296): Command that returns the latest round results of the named inputs, scaled or raw. -/
  | acqRead (p : Port) (tag : Tag)
  /-- PD_STATUS (R348): Command that returns the Type-C state, roles, contract and currents of a port. -/
  | pdStatus (p : Port) (tag : Tag)
  /-- PD_RESTART (R348): Command that block-resets the PD core and reloads the selected PD image. -/
  | pdRestart (p : Port) (tag : Tag)
  /-- PD_PORT_RESET (R348): Command that sends Hard_Reset on a port or puts it into error recovery. -/
  | pdPortReset (p : Port) (tag : Tag)
  /-- FAULT_READ (R384): Command that returns Selvedge counts, status words, frozen or ring records, or crossing overrun flags by selector. -/
  | faultRead (p : Port) (tag : Tag)
  /-- FAULT_CLEAR (R384): Command that clears the named sticky status bits, or the ERR latch, where their causes are gone, and counts refused clears. -/
  | faultClear (p : Port) (tag : Tag)
  /-- FAULT_LOG_READ (R384): Command that returns 12 words of a saved fault set from NVM. -/
  | faultLogRead (p : Port) (tag : Tag)
  /-- FAULT_INJECT (R369): TEST-only command that arms a one-shot check-bit inversion on a named checker. -/
  | faultInject (p : Port) (tag : Tag)
  /-- EVENT_INJECT (R378): Command that sets the pending bit of an EIC source as if it had fired. -/
  | eventInject (p : Port) (tag : Tag)
  /-- EVENT_READ (R384): Command that returns EIC source counters and flags, optionally clearing them in the same read. -/
  | eventRead (p : Port) (tag : Tag)
  /-- WDG_READ (R402): Command that returns the ladder, violation count, strike timers or evidence records. -/
  | wdgRead (p : Port) (tag : Tag)
  /-- FW_WRITE_ERASE (R431): FW_WRITE with ERASE set, which erases up to 16 sectors of the inactive bank or the unselected PD slot. -/
  | fwWriteErase (p : Port) (tag : Tag)
  /-- FW_WRITE_PROGRAM (R431): FW_WRITE without ERASE, which programs up to 60 words at an offset of the target region. -/
  | fwWriteProgram (p : Port) (tag : Tag)
  /-- FW_ACTIVATE_BANK (R432): FW_ACTIVATE kind 0, which verifies the inactive bank, writes a TRIAL record and begins a chip reset. -/
  | fwActivateBank (p : Port) (tag : Tag) (f : BankFacts)
  /-- FW_ACTIVATE_PD_SLOT (R432): FW_ACTIVATE kind 1, which verifies the unselected PD slot, writes a PD trial record and block-resets the PD core. -/
  | fwActivatePdSlot (p : Port) (tag : Tag) (f : ImgFacts)
  /-- FW_STATUS (R440): Command that returns bank, trial, version and counter status. -/
  | fwStatus (p : Port) (tag : Tag)
  /-- OTP_READ (R415): Command that returns 1 to 12 OTP words. -/
  | otpRead (p : Port) (tag : Tag)
  /-- OTP_PROGRAM (R416): Command that programs OTP bits with timed pulses and verify, subject to life-cycle permission and R417 conditions. -/
  | otpProgram (p : Port) (tag : Tag) (h : OtpBench)
  /-- OTP_FINALISE (R418): Command that computes and burns the digest of an OTP region, finalising it. -/
  | otpFinalise (p : Port) (tag : Tag) (h : OtpBench)
  /-- LC_ADVANCE (R422): Command that burns the life-cycle thermometer to an allowed next state and begins a chip reset. -/
  | lcAdvance (p : Port) (tag : Tag) (h : OtpBench)
  /-- NVM_LOCK_PAGE (R413): Command that permanently locks the NVM identity page by burning ID_LOCK. -/
  | nvmLockPage (p : Port) (tag : Tag) (h : OtpBench)
  /-- NVM_ID_READ (R440): Command that returns words of the NVM identity page. -/
  | nvmIdRead (p : Port) (tag : Tag)
  /-- NVM_ID_WRITE (R413): Command that rewrites words of the identity page in one page write, unless the page is locked. -/
  | nvmIdWrite (p : Port) (tag : Tag)
  /-- EVLOG_READ (R440): Command that returns the event log entry of a given SEQ. -/
  | evlogRead (p : Port) (tag : Tag)
  /-- SQ_DOORBELL (R85): Write of 1 to SQ_DOORBELL.RING, which accepts the presented submission entries while credits last. -/
  | sqDoorbell (p : Port)
  /-- SESSION_RESET (R97): Write of the key to HIF_SESSION, which discards the port's queues, detaches its commands, posts batch and snapshot completions and moves STATE to READY. -/
  | sessionReset (p : HPort) (key : BitVec 16)
  /-- CQ_HEAD_WRITE (R84): Host write of CQ_HEAD that consumes completions or is refused with IDX_ERR. -/
  | cqHeadWrite (p : HPort) (v : W)
  /-- EVQ_HEAD_WRITE (R84): Host write of EVQ_HEAD that consumes events or is refused with IDX_ERR. -/
  | evqHeadWrite (p : HPort) (v : W)
  /-- SQ_TAIL_WRITE (R84): Host write of SQ_TAIL that presents entries or is refused with IDX_ERR. -/
  | sqTailWrite (p : HPort) (v : W)
  /-- WINDOW_REGISTER_WRITE (R10): Committed write to any other window register, applied field by field under its access codes. -/
  | windowRegisterWrite (p : HPort) (addr : BitVec 16) (ws : List W)
  /-- SPI_WRITE_DISCARD (R74): A SPI write transaction that fails framing, address or CRC checks is discarded and flags its error. -/
  | spiWriteDiscard (p : SpiPort) (e : SpiWriteError)
  /-- SPI_READ_CHECK_FAIL (R74): A SPI read with a bad header CRC or misaligned address returns zeroed data with an inverted trailer and flags the error. -/
  | spiReadCheckFail (p : SpiPort) (e : SpiReadError) (addr : BitVec 16) (len : BitVec 8)
  /-- I2C_WRITE_DISCARD (R77): An I2C write transfer that fails alignment, length, region or PEC checks is discarded and flags its error. -/
  | i2cWriteDiscard (e : I2cWriteError)
  /-- SMBUS_TIMEOUT (R78): SCL held low beyond 25 ms makes the target abandon the transfer and release SDA. -/
  | smbusTimeout
  /-- ALERT_RESPONSE_READ (R95): SMBus read of the Alert Response Address, answered with the target address, which releases HIRQC_N. -/
  | alertResponseRead
  /-- RTC_SUBSEC_READ (R435): Read of RTC_SUBSEC that copies the calendar into the port's shadows and starts its freeze. -/
  | rtcSubsecRead (p : HPort)
  /-- RTC_YEAR_READ (R435): Read of RTC_YEAR that ends the port's freeze. -/
  | rtcYearRead (p : HPort)
  /-- RTC_FREEZE_TIMEOUT (R435): A port's RTC freeze ends 1 s after it began. -/
  | rtcFreezeTimeout (p : HPort)
  /-- RTC_TIME_WRITE (R436): Committed write to the RTC time registers, applied together in AON, setting, holding or correcting the calendar. -/
  | rtcTimeWrite (p : HPort) (addr : BitVec 16) (ws : List W)
  /-- RTC_HOLD_TIMEOUT (R436): A calendar hold without RTC_SEC ends after 1 s, resumes counting and sets SET_TIMEOUT. -/
  | rtcHoldTimeout
  /-- RTC_ALARM_WRITE (R438): Write of an RTC alarm register, ignored with WR_ERR when Horto owns the alarm. -/
  | rtcAlarmWrite (p : HPort) (n : Fin 2) (v : W)
  /-- DBG_HALT_WRITE (R423): Write of DBG_HALT that halts or resumes processors at an instruction boundary. -/
  | dbgHaltWrite (p : HPort) (v : W)
  /-- POR_ASSERT (R43): VIN, VCC5 or VDDC falling below its brown-out level asserts POR and stops the Power Frame. -/
  | porAssert (why : PorCause)
  /-- POR_RELEASE (R43): POR is released 100 us after VIN, VCC5 and VDDC are all good, and start-up begins. -/
  | porRelease (resetLow : Bool) (straps : BitVec 2) (sup : Supplies)
  /-- AON_SUPPLY_LOSS (R44): Loss of both VIN and VBKUP resets the RTC, its calibration and its alarms and clears VALID. -/
  | aonSupplyLoss
  /-- RESET_N_SHORT (R56): RESET_N rising after a low of 10 us to under 2 s causes a chip reset. -/
  | resetNShort
  /-- RESET_N_LONG (R57): RESET_N low for 2 s begins an ordered power-down of all groups followed by POR. -/
  | resetNLong
  /-- RSTN_PD_MAX_EXPIRY (R57): SYS.RSTN_PD_MAX_MS expiring during the long form causes POR at once with all outputs off. -/
  | rstnPdMaxExpiry
  /-- RESET_N_RELEASE_HELD (R58): RESET_N rising after being held low at POR release lets start-up continue. -/
  | resetNReleaseHeld
  /-- CHIP_RESET (R19): The digital domain is reset while the Power Frame carries its outputs over. -/
  | chipReset (cause : ResetCause)
  /-- CMD_RESTART (R55): CMD is restarted while the step engine runs on and SAF takes the host queues. -/
  | cmdRestart
  /-- BLOCK_RESET (R53): A block is held in reset for 10 us, its SRAM is reinitialised and it restarts. -/
  | blockReset (b : Block)
  /-- OTP_DIGEST_CHECK (R45): Completion of OTP trim loading, shadowing and finalised-region digest checking. -/
  | otpDigestCheck
  /-- EARLY_SERVICE_OPEN (R50): The host interfaces begin to accept doorbells and the early responder serves its commands. -/
  | earlyServiceOpen
  /-- NVM_RECALL (R409): Completion of the NVM recall that rebuilds the area map and takes copies, slots and ring entries. -/
  | nvmRecall (bad : List Nat)
  /-- SECURE_BOOT (R428): Completion of image verification and loading, with revert and bank fallback. -/
  | secureBoot (f : BootFacts)
  /-- CONFIG_LOAD (R48): Completion of configuration image loading and reconciliation with carried Power Frame settings. -/
  | configLoad (serial : W) (img : List (Nat × List W))
  /-- CREDIT_REALLOCATION (R87): All ports take their image credit allocations in one step once every port's INUSE fits. -/
  | creditReallocation
  /-- FULL_SERVICE (R45): Full service is reached, the mode changes and deferred commands are decided again by admission. -/
  | fullService
  /-- AUTO_START (R46): After the first complete round finds no zone at SHUTDOWN, the auto-start groups begin power-up in order. -/
  | autoStart
  /-- XTAL32_CONFIRM (R45): The 32.768 kHz crystal is confirmed and AON leaves its RC fallback. -/
  | xtal32Confirm
  /-- CLKMON_SYS_FAIL (R59): A SYS clock failure causes a chip reset with carry-over and, for a failed crystal, an LFO reference. -/
  | clkmonSysFail (xtalFailed : Bool)
  /-- CLKMON_ACQ_FAIL (R59): An ACQ clock failure switches ACQ to SYS and flags CLOCK_DEGRADED. -/
  | clkmonAcqFail
  /-- FRAME_CLOCK_LOSS (R59): A missing FRAME edge switches the Power Frame to its backup ring oscillator. -/
  | frameClockLoss
  /-- XTAL32_FAIL (R59): A 32.768 kHz crystal failure keeps AON on its RC fallback. -/
  | xtal32Fail
  /-- CDC_OVERRUN (R62): An event that arrives at a crossing before the previous transfer ends sets OVERRUN and raises a pick. -/
  | cdcOverrun (x : BitVec 5)
  /-- DOZE_ENTRY (R65): Horto enters DOZE when every condition of R65 holds. -/
  | dozeEntry (nextTaskUs : Nat)
  /-- DOZE_WAKE (R64): A wake event restarts the stopped clocks and leaves DOZE. -/
  | dozeWake
  /-- DEEP_SLEEP_WAKE (R68): A wake event ends DEEP SLEEP with a chip reset from POR Power Frame values. -/
  | deepSleepWake (w : WakeCause)
  /-- SHIP_WAKE (R68): WAKE or an RTC alarm ends SHIP with a POR. -/
  | shipWake (w : WakeCause)
  /-- EARLY_SAMPLE (R51): The early converter samples VIN, VLINK, VBAT and die temperature once per millisecond. -/
  | earlySample (vin : Nat) (vlink : Nat) (vbat : Nat) (die : Int)
  /-- DRAFT_BEAT (R30): A 100 us draft beat begins at a fixed point of device time. -/
  | draftBeat (overrun : Option (BitVec 16))
  /-- CONSERVATION_AUDIT (R39): SAF audits the credit, caddy and pick invariants once per draft frame and at each change of mode. -/
  | conservationAudit
  /-- CQ_WAIT_POST (R83): A completion waiting for a free completion queue entry is posted with CQ_WAITED. -/
  | cqWaitPost (p : Port)
  /-- SRC_WINDOW_ENTRY (R109): A DC input enters its window, and qualification and an SRCID read start. -/
  | srcWindowEntry (s : Fin 4) (mv : Nat)
  /-- SRC_WINDOW_EXIT (R109): A deglitched window exit of a source counts a bounce and moves the source and link states. -/
  | srcWindowExit (s : Fin 4) (mv : Nat)
  /-- SRC_QUARANTINE_END (R120): The quarantine timer expires, the history clears and qualification starts. -/
  | srcQuarantineEnd (s : Fin 4)
  /-- SRCID_READ (R111): Completion of two SRCID measurements 1 ms apart that set the source class or mark it unknown. -/
  | srcidRead (d : Fin 2) (c1 : BitVec 8) (c2 : BitVec 8)
  /-- SRC_QUALIFIED (R119): A source completes SRC.QUAL_MS in window and becomes qualified. -/
  | srcQualified (s : Fin 4)
  /-- INPUT_OVP (R110): A DC input above its VMAX turns off its gate within 2 us in hardware. -/
  | inputOvp (d : Fin 2) (mv : Nat)
  /-- STANDBY_TAKEOVER (R114): An enabled source leaving its window makes the Power Frame enable the highest standby source. -/
  | standbyTakeover (leaving : Fin 4)
  /-- HANDOVER_TRIP (R116): The hand-over comparator trips and turns GDBAT on within 1 us. -/
  | handoverTrip (vlink : Nat) (vbat : Nat)
  /-- HO_MAX_EXPIRY (R117): SRC.HO_MAX_MS after HANDOVER entry, the link moves to BATTERY. -/
  | hoMaxExpiry
  /-- IDEAL_DIODE_TURN_ON (R107): A forward drop at or above +20 mV turns the path gate on within 1 us. -/
  | idealDiodeTurnOn (g : Gate) (drop : Int)
  /-- IDEAL_DIODE_REVERSE_OFF (R107): A drop at or below -5 mV turns the path gate off within 1 us. -/
  | idealDiodeReverseOff (g : Gate) (drop : Int)
  /-- RAMP_STEP (R121): The source input limit advances by one 1 % step of the return or join ramp. -/
  | rampStep (s : Fin 4) (demandMa : Nat)
  /-- SUPPLEMENT_START (R122): A measured input excess reduces the charger or starts supplement discharge. -/
  | supplementStart (excessMa : Nat)
  /-- SOURCE_OVERLOAD (R122): An excess that lasts SRC.OVL_DGL_MS raises the SOURCE_OVERLOAD pick and event. -/
  | sourceOverload
  /-- SUPPLEMENT_END (R122): Demand below the enabled limits for SRC.OVL_DGL_MS ends supplement mode and GDBAT is held blocking again. -/
  | supplementEnd
  /-- SRC_LIMITING (R122): A DC input current above limit plus 10 % starts its linear limiter. -/
  | srcLimiting (i : Fin 4) (x : InputCurrent)
  /-- SRC_LIMIT_EXPIRED (R124): Limiter expiry after SRC.LIN_MAX_MS releases or opens the path. -/
  | srcLimitExpired (d : Fin 2)
  /-- CHG_START_CHECK (R136): After 100 ms idle, the start check averages VBAT and chooses the charge state, continuing or beginning a cycle. -/
  | chgStartCheck (vbatAvg : Nat)
  /-- CHG_TICK (R138): The 100 ms charger tick applies phase transitions and adds to the present safety timer. -/
  | chgTick (obs : ChgObs)
  /-- CHARGE_TIMEOUT (R147): A safety timer reaching its limit stops charging, enters SUSPENDED and latches CHARGE_TIMEOUT. -/
  | chargeTimeout
  /-- CHG_TERMINATION (R139): The termination count reaches 60 s and the cycle ends in DONE or FLOAT. -/
  | chgTermination
  /-- DONE_RECHARGE (R140): VBAT below V_RECHG for 10 s in DONE runs a start check that begins a new cycle. -/
  | doneRecharge (vbat : Nat)
  /-- FLOAT_REBULK (R141): A FLOAT current average at or above I_REBULK for 10 s runs a start check for a new cycle. -/
  | floatRebulk (iAvg : Int)
  /-- FLOAT_RECOMPUTE (R142): Each second the compensated VRLA float level is recomputed and slewed. -/
  | floatRecompute
  /-- BATPRES_ABSENT (R149): BATPRES at its absent level after deglitch stops switching and enters BATTERY_ABSENT. -/
  | batpresAbsent
  /-- BATTERY_OV_TRIP (R149): VBAT at or above V_OV times cells stops switching in hardware and counts an OV absence. -/
  | batteryOvTrip (vbat : Nat)
  /-- BATTERY_PRESENT (R150): Presence held for 2 s is confirmed and the start check follows. -/
  | batteryPresent (vbat : Nat) (absentS : Nat)
  /-- OV_ABSENCE_EXPIRY (R150): 600 s without an OV absence clears the OV absence count. -/
  | ovAbsenceExpiry
  /-- COMPARATOR_TRIP (R164): A channel comparator trip is dispatched to the next ready member, which starts an on-time. -/
  | comparatorTrip (c : Fin 12) (imon : List (Fin 24 × Int)) (sensed : Nat) (vlink : Nat)
  /-- ON_TIME_END (R162): A member's computed on-time expires and the phase turns its high side off. -/
  | onTimeEnd (k : Fin 24)
  /-- PEAK_OVER_CURRENT (R176): IMON at or above IPK after blanking truncates the on-time and sets CURRENT_LIMIT. -/
  | peakOverCurrent (k : Fin 24) (ma : Int)
  /-- NEGATIVE_CURRENT (R176): IMON at or below -INEG in off-time puts the phase high-impedance. -/
  | negativeCurrent (k : Fin 24) (ma : Int)
  /-- RAIL_OV (R176): Output over-voltage after 2 us drives the members low, raises RAIL_OV and latches or hiccups. -/
  | railOv (c : Fin 12) (t : OvTrip)
  /-- RAIL_UV (R176): Output undervoltage after blanking reports, hiccups, latches or counts as a short. -/
  | railUv (c : Fin 12) (t : UvTrip)
  /-- RAIL_UV_CLEAR (R176): A reported undervoltage clears when the output recovers above its hysteresis. -/
  | railUvClear (c : Fin 12) (mv : Nat)
  /-- SHORT_DETECT (R180): Eight consecutive trips in current limit below 30 % of reference enter HICCUP. -/
  | shortDetect (t : ShortTrip)
  /-- HICCUP_OFF_EXPIRY (R180): The hiccup off time ends and the channel re-enters SOFTSTART or LATCHED_OFF. -/
  | hiccupOffExpiry (c : Fin 12)
  /-- HICCUP_COUNT_RESET (R180): Ten soft-start times in REGULATE or DEGRADED return the hiccup count to 0. -/
  | hiccupCountReset (c : Fin 12)
  /-- SOFTSTART_COMPLETE (R171): The reference reaches the set point and the channel enters REGULATE or DEGRADED. -/
  | softstartComplete (r : Rail)
  /-- DISCHARGE_COMPLETE (R171): The output falls below OFF_PCT in DISCHARGE and the channel goes OFF. -/
  | dischargeComplete (r : Rail) (mv : Nat)
  /-- DISCH_TIMEOUT (R171): The discharge timeout elapses and the channel goes OFF with a pick. -/
  | dischTimeout (r : Rail)
  /-- ENABLE_HELD_START (R171): A held enable starts soft start once the output falls below OFF_PCT. -/
  | enableHeldStart (r : Rail) (mv : Nat)
  /-- DISCH_VLINK_CROSSING (R175): VLINK crossing VR.DIS_VLINK_MAX_MV suspends or resumes active discharge. -/
  | dischVlinkCrossing (vlink : Nat)
  /-- SENSE_OPEN (R182): A remote-local mismatch above 150 mV for 2 us moves regulation to VLOC and sets SENSE_OPEN. -/
  | senseOpen (c : Fin 12) (v : SensePins)
  /-- VIN_LOW (R176): VLINK below VIN_MIN for 2 us puts the phases high-impedance and sets VIN_LOW. -/
  | vinLow (c : Fin 12) (vlink : Nat)
  /-- VIN_RECOVERY (R179): VLINK recovering to VIN_MIN plus 1 V re-enters SOFTSTART as if pre-biased. -/
  | vinRecovery (c : Fin 12) (vlink : Nat)
  /-- PHASE_LOST (R184): A member loss drops the phase and starts spare takeover or degrades the channel. -/
  | phaseLost (k : Fin 24) (r : LossReport)
  /-- SPARE_IN (R185): After its bootstrap refresh, the spare makes its first on-time in the dropped member's place. -/
  | spareIn (c : Fin 12)
  /-- SPARE_LOST (R183): A standby spare outside its IMON band for 2 us becomes DROPPED. -/
  | spareLost (k : Fin 24) (imonMv : Nat)
  /-- SHARING_UPDATE (R165): Every 50 us the serving Shuttle trims member on-times toward equal current. -/
  | sharingUpdate (c : Fin 12) (avg : List (Fin 24 × Int))
  /-- CURRENT_LIMIT_CLEAR (R178): CURRENT_LIMIT clears after 1 ms without a valley hold or peak truncation. -/
  | currentLimitClear (c : Fin 12)
  /-- RAIL_OVERLOAD (R178): CURRENT_LIMIT set continuously for 10 ms raises RAIL_OVERLOAD. -/
  | railOverload (c : Fin 12)
  /-- PG_CHANGE (R189): A PG pin is released or pulled low after its deglitch, or at once on a state change. -/
  | pgChange (c : Fin 12) (mv : Nat)
  /-- PH_HEALTH (R192): At each VRn.HEALTH_S the phase inductance and resistance are estimated and reported. -/
  | phHealth (k : Fin 24) (m : HealthMeasure)
  /-- LDO_UV (R191): An LDO output below 90 % for 100 us after soft start raises LDO_UV and may latch it off. -/
  | ldoUv (n : Fin 8) (mv : Nat)
  /-- LDO_OVERLOAD (R191): An LDO in current limit for 10 ms raises LDO_OVERLOAD. -/
  | ldoOverload (n : Fin 8)
  /-- MARGIN_WINDOW_NARROW (R227): 1 ms after a margin slew ends, the widened windows narrow to the new set point. -/
  | marginWindowNarrow (c : Fin 12)
  /-- SEQ_TICK (R207): A 10 us step engine tick starts steps, samples WAIT_RAIL conditions and finds rails off. -/
  | seqTick (outs : List (Rail × Nat))
  /-- WAIT_TIME_END (R207): A WAIT_TIME step's delay expires and the next step starts. -/
  | waitTimeEnd (g : Fin 8)
  /-- SEQ_STEP_TIMEOUT (R207): A WAIT_RAIL or WAIT_EVENT timeout continues with a pick or fails the attempt. -/
  | seqStepTimeout (g : Fin 8)
  /-- BACKOFF_EXPIRY (R211): SEQ.BACKOFF_MS after a reversal, a new attempt starts. -/
  | backoffExpiry (g : Fin 8)
  /-- RAIL_STUCK (R213): A rail not off within its bound plus extension raises RAIL_STUCK and continues or halts. -/
  | railStuck (r : Rail)
  /-- HELD_ENABLE_TIMEOUT (R219): A held enable exceeds the rail's discharge bound and is withdrawn. -/
  | heldEnableTimeout (r : Rail)
  /-- EN_OFF_WAIT_EXPIRY (R200): ENn.OFF_WAIT_MS after a disable, an EN rail moves to OFF. -/
  | enOffWaitExpiry (n : Fin 16)
  /-- MON_COMPARATOR_SET (R204): An evaluated monitor's UV or OV comparator sets, raising its pick and actions. -/
  | monComparatorSet (m : Fin 32) (e : MonEdge)
  /-- MON_COMPARATOR_CLEAR (R202): A monitor comparator clears past its hysteresis. -/
  | monComparatorClear (m : Fin 32) (e : MonEdge)
  /-- MON_EVALUATION_START (R203): MONm.BLANK_MS after its rail's enable, a gated monitor begins evaluation. -/
  | monEvaluationStart (m : Fin 32)
  /-- MON_THRESHOLD_WRITE (R229): A changed monitor threshold is written to its DAC, widened first, within 1 ms. -/
  | monThresholdWrite (m : Fin 32)
  /-- LEDGER_SAMPLE (R232): A ledger converter sample is added to ACC_IN or ACC_OUT. -/
  | ledgerSample (code : BitVec 24)
  /-- LEDGER_READ (R233): SH4 converts the change in the accumulator sums to caddy charge. -/
  | ledgerRead
  /-- SELF_DISCHARGE_ACCRUE (R237): Every 60 s self-discharge accrues into the pending term. -/
  | selfDischargeAccrue
  /-- SELF_POST (R237): The pending self-discharge is posted as a SELF caddy entry. -/
  | selfPost
  /-- MODEL_UPDATE (R239): Every 10 ms the impedance model and OCV_est are updated. -/
  | modelUpdate (vbat : Nat) (i : Int)
  /-- NATURAL_STEP (R240): A qualifying battery current step is captured for a fit. -/
  | naturalStep (n : StepMeasure)
  /-- FIT_COMPLETE (R241): A fit of the captured step is accepted and posted, or rejected. -/
  | fitComplete (f : FitMeasure)
  /-- PROBE_DUE (R243): No accepted fit for EST.PROBE_S starts a probe step with the converter. -/
  | probeDue (i : Int)
  /-- PROBE_STEP_END (R245): The 10 ms probe step ends and the probe hold releases. -/
  | probeStepEnd
  /-- PROBE_HOLD_RELEASE (R245): The probe hold releases early on a VLINK sag or a hand-over trip. -/
  | probeHoldRelease (why : HoldRelease)
  /-- PROBE_CANCEL (R246): A probe is cancelled on a load, state or discharge-demand change. -/
  | probeCancel (why : ProbeCancel)
  /-- TABLE_POUR (R250): At a beat boundary, a checked steeping table replaces the served copy. -/
  | tablePour (k : TableKind)
  /-- EST_SECOND_UPDATE (R257): Each second the estimates are arbitrated and the reported values, floors and warnings are updated. -/
  | estSecondUpdate (load : LoadReading)
  /-- DRIFT_REBASE (R253): A gap above REBASE_PCT held for 600 s writes a REBASE_DRIFT entry. -/
  | driftRebase
  /-- DIRECTION_CHANGE (R254): Battery current held past its threshold and time sets DISCHARGE, CHARGE or REST. -/
  | directionChange (d : Direction)
  /-- CUTOFF_SET (R259): VBAT at cut-off for CUT_DGL_MS sets CUTOFF, ends converter discharge and runs CUT_ACT. -/
  | cutoffSet (vbat : Nat)
  /-- CUTOFF_CLEAR (R258): VBAT above cut-off plus hysteresis for 10 s clears CUTOFF. -/
  | cutoffClear
  /-- CUTOFF_WITHHOLD_EXPIRY (R259): The link not in SOURCE within the return allowance carries out the withheld power-down. -/
  | cutoffWithholdExpiry
  /-- QFULL_APPLY (R260): A learned Q_FULL takes effect once the direction is not DISCHARGE. -/
  | qfullApply
  /-- TEST_DUE (R263): An RTC alarm makes a scheduled test due; it starts or is postponed. -/
  | testDue (t : TestKind)
  /-- TEST_END (R267): The test duration elapses and the test ends PASS. -/
  | testEnd
  /-- ROUND_START (R290): A housekeeping round starts at a 10 ms boundary of device time. -/
  | roundStart
  /-- ROUND_RESULT (R292): Each round or fast-read result is written and compared, and changed EIC sources are latched. -/
  | roundResult (r : InputResult)
  /-- ROUND_COMPLETE (R290): A round completes its last input. -/
  | roundComplete (elapsedUs : Nat)
  /-- FAST_THERMAL_READ (R291): At each 1 ms boundary the fast-rate sensors are converted. -/
  | fastThermalRead (rs : List InputResult)
  /-- CROSSING_TRIP (R283): A crossing comparator trips, latches its EIC source and starts its capture. -/
  | crossingTrip (c : Fin 32)
  /-- SLICE_GRANT (R278): A waiting request is granted its slices when they are released. -/
  | sliceGrant (slot : Fin 8)
  /-- ACQ_TIMER_FIRE (R281): An acquisition timer fires and starts one record of its capture. -/
  | acqTimerFire (t : Fin 4)
  /-- CAPTURE_DONE (R294): A capture record completes and its header is written. -/
  | captureDone (slot : Fin 8) (data : List (List (BitVec 16)))
  /-- ACQ_FIFO (R295): A full slot buffer truncates the record and raises ACQ_FIFO. -/
  | acqFifo (slot : Fin 8) (data : List (List (BitVec 16)))
  /-- CC_REARM (R284): After a parameter write, the comparator is re-armed within 1 ms. -/
  | ccRearm (c : Fin 32)
  /-- REF_SETTLED (R285): The selected reference finishes settling and held conversions are served. -/
  | refSettled
  /-- REFIN_OUT_OF_WINDOW (R286): A selected REFIN out of window for 10 us falls back to bandgap A. -/
  | refinOutOfWindow
  /-- CORRECTION_PERIOD (R287): Every 10 ms SH5 computes a steeping set of mismatch coefficients. -/
  | correctionPeriod (coef : List Coef)
  /-- COEF_POUR (R288): A checked coefficient set replaces the served set when no record is in progress or after 100 ms. -/
  | coefPour
  /-- CORR_STALE (R289): The last pour becoming older than 1 s sets CORR_STALE. -/
  | corrStale
  /-- SENSOR_HEALTHY (R305): One second of good reads marks a sensor healthy again. -/
  | sensorHealthy (s : Fin 12)
  /-- DIE_TRIP (R313): A 2-of-4 Power Frame die comparator vote sets the die latch and turns every rail off. -/
  | dieTrip (mask : BitVec 4)
  /-- THRESHOLD_RAW_WRITE (R319): SH5 writes the raw codes of a changed thermal threshold within 20 ms. -/
  | thresholdRawWrite (s : Fin 12)
  /-- DRP_TOGGLE (R325): A DRP port toggles between Rp and Rd on its 75 ms period. -/
  | drpToggle (u : Fin 2)
  /-- TYPEC_ATTACH (R325): A debounced CC attach enters an attached state. -/
  | typecAttach (u : Fin 2) (a : Attach)
  /-- TYPEC_DETACH (R327): Rd absent or VBUS below 3.67 V detaches the port. -/
  | typecDetach (u : Fin 2)
  /-- RP_CHANGE (R327): A debounced Rp change alters the sink input limit. -/
  | rpChange (u : Fin 2) (rp : RpLevel)
  /-- SOURCE_PAIR_ON (R326): Once the linked channel's PG is good and VBUS is low, the source pair turns on. -/
  | sourcePairOn (u : Fin 2) (vbus : Nat)
  /-- VBUS_DISCHARGED (R328): VBUS below 0.8 V turns the source pair off after discharge. -/
  | vbusDischarged (u : Fin 2) (vbus : Nat)
  /-- PD_REQUEST_RECEIVED (R335): A sink Request is accepted and the contract sets the linked channel's set point. -/
  | pdRequestReceived (u : Fin 2) (pos : Nat) (ma : Nat)
  /-- PS_RDY (R335): VBUS within 5 % and PG good sends PS_RDY and posts PD_CONTRACT. -/
  | psRdy (u : Fin 2) (vbus : Nat)
  /-- SOURCE_CAPS_RECEIVED (R336): As sink, the port chooses and sends its request from the offered PDOs. -/
  | sourceCapsReceived (u : Fin 2) (pdos : List OfferedPdo) (epr : Bool)
  /-- PPS_REREQUEST (R336): A PPS request is repeated every 8 s. -/
  | ppsRerequest (u : Fin 2)
  /-- HEADROOM_WITHDRAW (R331): VLINK below V plus HR_MV for HR_DGL_MS withdraws the PDO and sends new capabilities. -/
  | headroomWithdraw (u : Fin 2) (pos : Fin 11) (vlink : Nat)
  /-- HEADROOM_REOFFER (R331): VLINK above the hysteresis for 1 s offers the PDO again. -/
  | headroomReoffer (u : Fin 2) (pos : Fin 11) (vlink : Nat)
  /-- SENDER_RESPONSE_TIMEOUT (R332): No valid request within tSenderResponse makes the port send Hard_Reset. -/
  | senderResponseTimeout (u : Fin 2)
  /-- CONTRACT_VLINK_LOW (R332): VLINK below contract plus 1 V for 1 ms before PS_RDY sends Hard_Reset. -/
  | contractVlinkLow (u : Fin 2) (vlink : Nat)
  /-- HARD_RESET (R344): A Hard Reset is handled, restoring attach roles when it interrupts a PR_Swap. -/
  | hardReset (u : Fin 2) (sent : Bool)
  /-- ERROR_RECOVERY_END (R344): After 30 ms of error recovery the port re-enters its unattached state. -/
  | errorRecoveryEnd (u : Fin 2)
  /-- PR_SWAP (R341): An incoming PR_Swap is accepted, rejected or answered Wait, and the link follows R343. -/
  | prSwap (u : Fin 2) (ownToo : Bool)
  /-- DR_SWAP (R341): An incoming DR_Swap is accepted or rejected. -/
  | drSwap (u : Fin 2) (ownToo : Bool)
  /-- VCONN_SWAP (R341): An incoming VCONN_Swap is accepted or rejected. -/
  | vconnSwap (u : Fin 2) (ownToo : Bool)
  /-- CABLE_DISCOVERY (R334): Discover Identity on SOP' completes or exhausts, setting the cable capability. -/
  | cableDiscovery (u : Fin 2) (r : Option CableVdo)
  /-- VDM_REQUEST (R347): A structured VDM on SOP is answered per the service mode table. -/
  | vdmRequest (u : Fin 2) (v : Vdm)
  /-- PD_OVP (R339): VBUS over-voltage turns both gates off and enters error recovery. -/
  | pdOvp (u : Fin 2) (vbus : Nat)
  /-- PD_OCP (R339): Port over-current after blanking turns the gate off with Hard_Reset or error recovery. -/
  | pdOcp (u : Fin 2) (ma : Nat)
  /-- PD_REVERSE (R339): Reverse current through a port pair turns its gate off. -/
  | pdReverse (u : Fin 2) (d : ReverseDrop)
  /-- PD_VCONN_OC (R339): VCONN over-current turns VCONN off until detach. -/
  | pdVconnOc (u : Fin 2)
  /-- SINK_LIMITER_EXPIRY (R338): The sink pair limiter running SRC.LIN_MAX_MS turns the path off and counts a bounce. -/
  | sinkLimiterExpiry (u : Fin 2)
  /-- PD_CORE_RESTART (R345): The restarted PD core disables linked channels, waits for VBUS low and presents terminations. -/
  | pdCoreRestart (vbusLow : Bool)
  /-- PICK_INTAKE (R354): A checker delivers a pick to the Selvedge intake, or it is dropped when the intake is full. -/
  | pickIntake (src : BitVec 10) (kind : BitVec 6) (detail : BitVec 16)
  /-- PICK_STORE (R355): The Selvedge takes a pick from the intake, stores or merges it and carries out its reactions. -/
  | pickStore
  /-- EIC_EDGE (R372): A filtered edge or set-pending write sets the source pending and counts it. -/
  | eicEdge (n : BitVec 8)
  /-- EIC_DELIVER (R374): A pending source is routed to an available target as an interrupt request. -/
  | eicDeliver (n : BitVec 8)
  /-- EIC_CLAIM (R376): A target's claim register read takes the assigned source and raises its running priority. -/
  | eicClaim (t : Fin 9)
  /-- EIC_COMPLETE (R376): A completion register write restores the running priority, or raises BAD_COMPLETE. -/
  | eicComplete (t : Fin 9) (n : BitVec 8)
  /-- STORM_AUTO_CLEAR (R377): With STORM_AUTO, Horto requests the STORM clear once per second. -/
  | stormAutoClear
  /-- POSTED_EVENT (R379): CMD or SAF posts a host event to the ports whose category mask allows it. -/
  | postedEvent
  /-- PICK_DROPPED (R380): A change of SELV.DROPPED posts PICK_DROPPED at most once per second. -/
  | pickDropped
  /-- GPIO_EDGE (R383): A deglitched GPIO edge to its active level is acted on by its function. -/
  | gpioEdge (n : Fin 16)
  /-- MAINS_BACK (R383): A mains-fail input inactive for 1 s posts MAINS_BACK. -/
  | mainsBack (n : Fin 16)
  /-- FIRE_ALARM_CLEAR (R383): A fire-alarm input inactive for 1 s posts FIRE_ALARM with bit 31 clear. -/
  | fireAlarmClear (n : Fin 16)
  /-- WDG_CHECK_IN (R389): A thread check-in is recorded or judged EARLY or DOUBLE. -/
  | wdgCheckIn (w : Proc) (thread : Fin 16) (cycle : Nat) (pc : W)
  /-- WDG_SERVICE (R389): A service ends the window when in time and complete, possibly with a registration, or is EARLY. -/
  | wdgService (w : Proc) (cycle : Nat) (reg : Option Registration) (pc : W)
  /-- WDG_KEEPALIVE (R388): A SAF keepalive write services its fixed window. -/
  | wdgKeepalive (cycle : Nat) (pc : W)
  /-- WDG_WINDOW_CLOSE (R389): The closing cycle is reached with a thread or the service missing. -/
  | wdgWindowClose (w : Proc) (pc : W)
  /-- WDG_BOOT_WINDOW_CLOSE (R391): A boot window closes without an accepted registration and raises BOOT. -/
  | wdgBootWindowClose (w : Proc) (pc : W)
  /-- STRIKE_CLEAR (R394): WDG.GOOD_S without violation clears a strike and, with the last one, the count. -/
  | strikeClear (w : Proc)
  /-- POWER_FAIL_TRIGGER (R411): VIN or VCC5 falling below its trigger switches in the kettle reserve and starts the save. -/
  | powerFailTrigger
  /-- KETTLE_SAVE_COMPLETE (R411): The kettle set and fault set save completes. -/
  | kettleSaveComplete (bad : Option (BitVec 8))
  /-- POWER_RETURN (R411): VIN restored for 10 ms disconnects the reserve and restarts the held blocks. -/
  | powerReturn
  /-- KETTLE_READY (R412): KETTLE reaching 11.5 V makes the reserve ready. -/
  | kettleReady
  /-- KETTLE_CHECK (R412): Hourly the pump stops for a droop measurement that estimates the capacitance. -/
  | kettleCheck (droopMv : Nat)
  /-- KETTLE_LOW (R412): KETTLE below 11.0 V for 100 ms, or a low capacitance estimate, raises KETTLE_LOW. -/
  | kettleLow (why : KettleLowCause)
  /-- NVM_LOG_WRITE (R407): Staged log entries are written to NVM within 5 s, with write verification. -/
  | nvmLogWrite (bad : Option (BitVec 8))
  /-- LEARNED_DATA_WRITE (R407): At most hourly, learned data is written to NVM. -/
  | learnedDataWrite (bad : Option (BitVec 8))
  /-- TRIAL_CONFIRM (R433): WDG.GOOD_S without a strike in the trial bank confirms the image and burns the counters. -/
  | trialConfirm (h : OtpBench)
  /-- PD_TRIAL_CONFIRM (R433): WDG.GOOD_S without a PD core strike confirms the PD slot. -/
  | pdTrialConfirm (h : OtpBench)
  /-- ROLLBACK_BURN_RETRY (R430): A rollback counter burn that could not run is retried every hour. -/
  | rollbackBurnRetry (h : OtpBench)
  /-- RTC_SECOND (R438): The RTC seconds increment and the alarms are compared. -/
  | rtcSecond
  /-- RC_CORRECTION (R437): Every 10 s Horto measures the RC against the crystal and corrects the calendar. -/
  | rcCorrection (deltaCycles : Int)
  /-- RTC_LOCKOUT_START (R439): A supply below its lock-out level locks RTC writes and allows the move to VBKUP. -/
  | rtcLockoutStart (why : LockoutSupply)
  /-- RTC_LOCKOUT_END (R439): The supply back above its level for 1 ms ends the lock-out. -/
  | rtcLockoutEnd (why : LockoutSupply)
  /-- SYS_PLL_LOCK (R45): The SYS PLL locks, the BUS and PD clocks start running, and NVM recall begins. -/
  | sysPllLock
  /-- ACQ_PLL_LOCK (R59): The ACQ PLL locks, at start-up or after a clock-monitor switch to SYS, and results stop carrying CLOCK_DEGRADED. -/
  | acqPllLock
  /-- MEMBER_READY (R164): A member becomes ready because its minimum off-time elapsed or its valley limit released, and a held comparator trip is dispatched to it. -/
  | memberReady (k : Fin 24)
  /-- OFF_COMPARATOR_CHANGE (R200): A monitor's OFF comparator sets or clears, so that a linked EN rail leaves DISCHARGE for OFF. -/
  | offComparatorChange (m : Fin 32) (below : Bool)
  /-- SLEW_COMPLETE (R226): A channel's reference slew reaches its new set point, and a zero margin then clears MARGINED. -/
  | slewComplete (c : Fin 12)
  /-- DECLARED_WAIT_EXPIRY (R222): The declared wait of a RAIL_ON runs out before the rail is up, and the command completes FAILED_TIMEOUT. -/
  | declaredWaitExpiry (p : Port) (tag : Tag)
  /-- CC_HYSTERESIS_REARM (R283): A crossing comparator's input returns past LEVEL by HYST codes, and the comparator re-arms. -/
  | ccHysteresisRearm (c : Fin 32)
  /-- PD_PROTOCOL_TIMER (R344): A Type-C or PD protocol timer of the standard expires, such as tSrcTransition, tSrcRecover or the Try timers, and the port proceeds. -/
  | pdProtocolTimer (u : Fin 2) (t : PdTimer)
  /-- PD_MESSAGE_RECEIVED (R324): A PD message that no other step takes is received, such as Accept or PS_RDY as sink, Get_Source_Cap, Soft_Reset, EPR_Mode or an unsupported message, and is answered. -/
  | pdMessageReceived (u : Fin 2) (m : PdMessage)
  /-- CONVERTER_MODE_CHANGE (R131): The VLINK to VBAT ratio crosses a band edge, and the charger converter changes between buck, buck-boost and boost at a switching-cycle boundary. -/
  | converterModeChange (vlink : Nat) (vbat : Nat)
  /-- I2C_START (R106): An I2C START or repeated START begins a transfer, and a changed HIF.I2C_PEC takes effect. -/
  | i2cStart
  /-- BKUP_LOW (R434): VBKUP crosses 1.70 V, and RTC_STATUS.BKUP_LOW changes. -/
  | bkupLow (low : Bool)
  /-- DIGEST_PATTERN_TOGGLE (R419): During a digest hold, GPIO3 toggles at 2 Hz, starting 1 ms after the hold begins. -/
  | digestPatternToggle
deriving DecidableEq, Repr

end Sys2Proof
end

