-- ==== Sys2Proof/Config.lean ====
section
/-! DEFINITION. What an implementation fixes and the spec leaves open: opaque constants without a value. A claim
that holds here holds whatever these values are. Each is named in notes/assumptions. -/

namespace Sys2Proof.Config

/-- A fresh free word: what the spec leaves undefined, for the k-th such value of a run (log entry 3). -/
opaque freeWord : Nat → BitVec 32

/-- A fresh free bit (log entry 3): which of two permitted outcomes occurs. -/
opaque freeBit : Nat → Bool

/-- Whether a quotient whose rounding the spec does not state is rounded up, by its operands (log entry 4). -/
opaque roundUp : Int → Int → Bool

/-- Free draft time, in us, that beat `b` of the frame leaves to class-1 to class-3 handlers: the free-capacity table
that CMD writes (b from 0 to 63), or SAF in limp service (b from 64 to 127), whose contents the spec does not give (R32,
R92; log entry 5). -/
opaque draftFreeUs : Nat → Nat

/-- ID_HORTO.BUILD of the release (R2: not fixed by the manual; log entry 6). -/
opaque hortoBuild : BitVec 16

/-- Word `i` of a saved fault set whose counts, time and records are the given words: the layout of its header and
records, which R358 does not give (log entry 10). -/
opaque faultSetWord : List (BitVec 32) → Nat → BitVec 32

/-- Whether 10 ms is not small against a time constant of this resistance and capacitance (R239; log entry 4). -/
opaque pairStiff : Nat → Nat → Bool

end Sys2Proof.Config
end

