-- ==== Sys2Proof/Machine/Sparse.lean ====
section
/-! DEFINITION. Plain data containers: sparse maps in one canonical form (keys strictly rising, no entry equal to
the default), byte memories over `Host.Cell` in the same form, and small vector helpers. -/

namespace Sys2Proof.Machine

/-- A sparse map from numbers: an absent key reads as a default that the reader names. -/
abbrev Sparse (α : Type) := List (Nat × α)

/-- Read key `k` with default `d`. -/
def sget {α : Type} (d : α) : Sparse α → Nat → α
  | [], _ => d
  | (i, v) :: m, k => if i = k then v else sget d m k

/-- Insert `(k, v)` by key order; an existing entry is replaced. -/
def sput {α : Type} (k : Nat) (v : α) : Sparse α → Sparse α
  | [] => [(k, v)]
  | (i, u) :: m =>
    if k < i then (k, v) :: (i, u) :: m
    else if k = i then (k, v) :: m
    else (i, u) :: sput k v m

/-- Remove key `k`. -/
def sdel {α : Type} (k : Nat) : Sparse α → Sparse α
  | [] => []
  | (i, u) :: m => if i = k then m else (i, u) :: sdel k m

/-- Write key `k`: writing the default removes the entry, so that equal maps are equal lists. -/
def sset {α : Type} [DecidableEq α] (d : α) (m : Sparse α) (k : Nat) (v : α) : Sparse α :=
  if v = d then sdel k m else sput k v m

/-- Every key of the map is above `b`, keys rise strictly, and no value is the default. -/
def swfFrom {α : Type} [DecidableEq α] (d : α) : Option Nat → Sparse α → Bool
  | _, [] => true
  | b, (i, v) :: m => (b.all (· < i)) && decide (v ≠ d) && swfFrom d (some i) m

/-- The canonical form of a sparse map. -/
def swf {α : Type} [DecidableEq α] (d : α) (m : Sparse α) : Bool := swfFrom d none m

/-- A byte memory: address and byte pairs (Host.Cell) in canonical form. -/
abbrev Mem := List Host.Cell

/-- The byte memories of the block. -/
inductive Region where
  /-- A port's submission, completion or event queue (R54: cleared by POR and chip reset). -/
  | queue
  /-- The 4 MB flash (R424). -/
  | flash
deriving DecidableEq, Repr

/-- What a byte that nothing has written reads as: 0 in a queue (R29, R54: reinitialised at start); an erased
flash byte reads 0xFF (log entry 7, PRESUMED). -/
def unlisted : Region → Byte
  | .queue => 0
  | .flash => 0xFF

/-- One byte of a memory. -/
def Memory.read (r : Region) (m : Mem) (a : Nat) : Byte := sget (unlisted r) m a

/-- Write one byte. -/
def Memory.write (r : Region) (m : Mem) (a : Nat) (b : Byte) : Mem := sset (unlisted r) m a b

/-- The canonical form of a memory. -/
def Memory.wf (r : Region) (m : Mem) : Bool := swf (unlisted r) m

/-- A word, least-significant byte first (R72, R76). -/
def Memory.readW (r : Region) (m : Mem) (a : Nat) : W :=
  (Memory.read r m (a + 3)) ++ (Memory.read r m (a + 2)) ++ (Memory.read r m (a + 1)) ++ (Memory.read r m a)

/-- Write a word, least-significant byte first. -/
def Memory.writeW (r : Region) (m : Mem) (a : Nat) (w : W) : Mem :=
  Memory.write r (Memory.write r (Memory.write r (Memory.write r m a (w.extractLsb' 0 8)) (a + 1) (w.extractLsb' 8 8))
    (a + 2) (w.extractLsb' 16 8)) (a + 3) (w.extractLsb' 24 8)

/-- Write consecutive words from address `a`. -/
def Memory.writeWs (r : Region) (m : Mem) : Nat → List W → Mem
  | _, [] => m
  | a, w :: ws => Memory.writeWs r (Memory.writeW r m a w) (a + 4) ws

/-- Map over a fixed array. -/
def vmap {α β : Type} {n : Nat} (f : α → β) (v : Vector α n) : Vector β n :=
  ⟨(v.toList.map f).toArray, by simp⟩

/-- Map over a fixed array with the index. -/
def vmapIdx {α β : Type} {n : Nat} (f : Nat → α → β) (v : Vector α n) : Vector β n :=
  ⟨(v.toList.mapIdx f).toArray, by simp⟩

/-- Change element `i` of a fixed array. -/
def vmod {α : Type} {n : Nat} (v : Vector α n) (i : Fin n) (f : α → α) : Vector α n :=
  v.set i (f v[i])

/-- Element `k` of a fixed array, or `d` beyond its end. -/
def vgetD {α : Type} {n : Nat} (d : α) (v : Vector α n) (k : Nat) : α := v.toList.getD k d

/-- A list cut or padded to exactly `n` elements. -/
def padTo {α : Type} (n : Nat) (d : α) (l : List α) : List α :=
  (l ++ List.replicate n d).take n

/-- The newest `n` elements of a list that grows at its end. -/
def newest {α : Type} (n : Nat) (l : List α) : List α := l.drop (l.length - n)

/-- Fold a state change over a list of cases. -/
def foldS {σ α : Type} (f : α → σ → σ) : List α → σ → σ
  | [], s => s
  | a :: l, s => foldS f l (f a s)

/-- All indices below `n`. -/
def allFin (n : Nat) : List (Fin n) := List.finRange n

end Sys2Proof.Machine
end

