-- ==== Sys2Proof/Machine/Codes.lean ====
section
/-! DEFINITION. Check codes of the part: CRC-16/CCITT-FALSE (R72, R247, R408, R427) and SHA-256 (R268, R418). -/

namespace Sys2Proof.Machine

/-- One bit step of CRC-16/CCITT-FALSE, polynomial 0x1021. -/
def crcBit (c : BitVec 16) : BitVec 16 :=
  if c.msb then (c <<< 1) ^^^ 0x1021#16 else c <<< 1

/-- One byte of CRC-16/CCITT-FALSE. -/
def crcByte (c : BitVec 16) (b : Byte) : BitVec 16 :=
  let c0 := c ^^^ ((b.setWidth 16) <<< 8)
  crcBit (crcBit (crcBit (crcBit (crcBit (crcBit (crcBit (crcBit c0)))))))

/-- CRC-16/CCITT-FALSE: initial value 0xFFFF, no reflection, final XOR 0 (R72). -/
def crc16 (bs : List Byte) : BitVec 16 := bs.foldl crcByte 0xFFFF#16

/-- A CRC as it is sent: [15:8] then [7:0] (R72). -/
def crcBytes (c : BitVec 16) : List Byte := [c.extractLsb' 8 8, c.extractLsb' 0 8]

/-- The first four bytes of a SPI transaction (R72). -/
def spiHeader (cmd : Byte) (addr : BitVec 16) (len : BitVec 8) : List Byte := [cmd, addr.extractLsb' 8 8, addr.extractLsb' 0 8, len]

/-- One bit step of the SMBus PEC, CRC-8 with polynomial 0x07. -/
def pecBit (c : Byte) : Byte := if c.msb then (c <<< 1) ^^^ 0x07#8 else c <<< 1

/-- One byte of the PEC. -/
def pecByte (c b : Byte) : Byte := pecBit (pecBit (pecBit (pecBit (pecBit (pecBit (pecBit (pecBit (c ^^^ b))))))))

/-- SMBus PEC over bytes: initial value 0 (R77; PRESUMED: SMBus, log entry 57). -/
def pec (bs : List Byte) : Byte := bs.foldl pecByte 0

/-- The bytes of a word, least-significant first. -/
def bytesLe (w : W) : List Byte :=
  [w.extractLsb' 0 8, w.extractLsb' 8 8, w.extractLsb' 16 8, w.extractLsb' 24 8]

/-- The bytes of words, each least-significant byte first. -/
def wordsLe (ws : List W) : List Byte := ws.flatMap bytesLe

/-- CRC over words, each least-significant byte first (R408, R427). -/
def crcWords (ws : List W) : BitVec 16 := crc16 (wordsLe ws)

/-- The largest number below `2 ^ bits + r` whose `k`-th power is at most `n`, found bit by bit from the top. -/
def rootBits (k n : Nat) : Nat → Nat → Nat
  | 0, r => r
  | b + 1, r => rootBits k n b (if (r + 2 ^ b) ^ k ≤ n then r + 2 ^ b else r)

/-- The first 32 bits of the fraction of the `k`-th root of `p`: how SHA-256 draws its words. -/
def rootWord (k p : Nat) : W := w32 (rootBits k (p * 2 ^ (32 * k)) 36 0)

/-- The primes below `n`. -/
def primesTo (n : Nat) : List Nat := (List.range n).filter (fun p => 2 ≤ p && (List.range p).all (fun d => d < 2 || p % d != 0))

/-- The round words of SHA-256, one for each of the 64 primes up to 311. -/
def shaK : List W := (primesTo 312).map (rootWord 3)

/-- The eight working words of SHA-256; a hash begins with the square roots of the first eight primes. -/
structure ShaState where
  a : W := rootWord 2 2
  b : W := rootWord 2 3
  c : W := rootWord 2 5
  d : W := rootWord 2 7
  e : W := rootWord 2 11
  f : W := rootWord 2 13
  g : W := rootWord 2 17
  h : W := rootWord 2 19
deriving DecidableEq, Repr

/-- Extend a message schedule, newest word first, by `n` words. -/
def shaExtend : Nat → List W → List W
  | 0, ws => ws
  | n + 1, ws =>
    let w2 := ws.getD 1 0
    let w7 := ws.getD 6 0
    let w15 := ws.getD 14 0
    let w16 := ws.getD 15 0
    let s0 := w15.rotateRight 7 ^^^ w15.rotateRight 18 ^^^ (w15 >>> 3)
    let s1 := w2.rotateRight 17 ^^^ w2.rotateRight 19 ^^^ (w2 >>> 10)
    shaExtend n ((w16 + s0 + w7 + s1) :: ws)

/-- One round of SHA-256. -/
def shaRound (x : ShaState) (kw : W × W) : ShaState :=
  let s1 := x.e.rotateRight 6 ^^^ x.e.rotateRight 11 ^^^ x.e.rotateRight 25
  let ch := (x.e &&& x.f) ^^^ (~~~x.e &&& x.g)
  let t1 := x.h + s1 + ch + kw.1 + kw.2
  let s0 := x.a.rotateRight 2 ^^^ x.a.rotateRight 13 ^^^ x.a.rotateRight 22
  let maj := (x.a &&& x.b) ^^^ (x.a &&& x.c) ^^^ (x.b &&& x.c)
  { a := t1 + s0 + maj, b := x.a, c := x.b, d := x.c, e := x.d + t1, f := x.e, g := x.f, h := x.g }

/-- One 64-byte block, as 16 big-endian words. -/
def shaBlock (x : ShaState) (ws : List W) : ShaState :=
  let sched := (shaExtend 48 ws.reverse).reverse
  let y := (shaK.zip sched).foldl shaRound x
  { a := x.a + y.a, b := x.b + y.b, c := x.c + y.c, d := x.d + y.d,
    e := x.e + y.e, f := x.f + y.f, g := x.g + y.g, h := x.h + y.h }

/-- Four bytes as a big-endian word. -/
def beWord : List Byte → W
  | [p, q, r, s] => p ++ q ++ r ++ s
  | _ => 0

/-- Split a byte list into words, big-endian, with fuel. -/
def beWords : Nat → List Byte → List W
  | 0, _ => []
  | n + 1, bs => if bs.isEmpty then [] else beWord (bs.take 4) :: beWords n (bs.drop 4)

/-- Run the blocks of a padded message. -/
def shaBlocks : Nat → ShaState → List W → ShaState
  | 0, x, _ => x
  | n + 1, x, ws => if ws.isEmpty then x else shaBlocks n (shaBlock x (ws.take 16)) (ws.drop 16)

/-- The padding of a message of `n` bytes. -/
def shaPad (n : Nat) : List Byte :=
  [0x80] ++ List.replicate ((119 - n % 64) % 64) 0 ++
    (List.range 8).map (fun i => BitVec.ofNat 8 ((8 * n) / 256 ^ (7 - i)))

/-- SHA-256 of a byte string: 32 bytes. -/
def sha256 (bs : List Byte) : List Byte :=
  let m := bs ++ shaPad bs.length
  let ws := beWords (m.length / 4 + 1) m
  let x := shaBlocks (ws.length / 16 + 1) {} ws
  [x.a, x.b, x.c, x.d, x.e, x.f, x.g, x.h].flatMap (fun w => (bytesLe w).reverse)

/-- A word from up to four bytes, least-significant first. -/
def leWord (bs : List Byte) : W := beWord (padTo 4 0 bs).reverse

end Sys2Proof.Machine
end

