-- ==== Sys2Proof/Machine/ParamTable.lean ====
section
/-! DEFINITION. The parameter tables of the manual (R69, R106, R128, R157, R194, R196, R228 to R230, R271, R301, R318,
R349, R385, R403, R441): identifiers, types, ranges, defaults, reset and set classes, and the lookup of R462. -/

namespace Sys2Proof.Machine

/-- Parameter types (R14). -/
inductive PType where | bool | u8 | u16 | u32 | u64 | s16 | s32 | enum | tbl
deriving DecidableEq, Repr

/-- Where a parameter's value comes from after a reset (R15). -/
inductive PReset where | por | chip | nvm | img
deriving DecidableEq, Repr

/-- Set classes (R16). -/
inductive PClass where | c0 | c1 | c2 | c3 | img | ro
deriving DecidableEq, Repr

/-- One row of a parameter table: `id` is the ID, or the offset within an instance. A value is in range when it lies
in `lo` to `hi` and is a multiple of `step`, or is one of `extra`. -/
structure PInfo where
  id : Nat
  ty : PType
  lo : Int
  hi : Int
  extra : List Int
  step : Nat
  dflt : Int
  rst : PReset
  cls : PClass
  words : Nat
deriving DecidableEq, Repr


/-- Parameter ID of the manual's SYS_DOZE_EN. -/
def Pid.SYS_DOZE_EN : Nat := 0x10
/-- Parameter ID of the manual's SYS_DOZE_MIN_US. -/
def Pid.SYS_DOZE_MIN_US : Nat := 0x11
/-- Parameter ID of the manual's SYS_RSTN_PD_MAX_MS. -/
def Pid.SYS_RSTN_PD_MAX_MS : Nat := 0x12
/-- Parameter ID of the manual's HIF_CRED_SPIA. -/
def Pid.HIF_CRED_SPIA : Nat := 0x20
/-- Parameter ID of the manual's HIF_CRED_SPIB. -/
def Pid.HIF_CRED_SPIB : Nat := 0x21
/-- Parameter ID of the manual's HIF_CRED_I2C. -/
def Pid.HIF_CRED_I2C : Nat := 0x22
/-- Parameter ID of the manual's HIF_CRED_INT. -/
def Pid.HIF_CRED_INT : Nat := 0x23
/-- Parameter ID of the manual's HIF_WAIT_MAX_S. -/
def Pid.HIF_WAIT_MAX_S : Nat := 0x24
/-- Parameter ID of the manual's HIF_I2C_PEC. -/
def Pid.HIF_I2C_PEC : Nat := 0x25
/-- Parameter ID of the manual's SRC_QUAL_MS. -/
def Pid.SRC_QUAL_MS : Nat := 0x1001
/-- Parameter ID of the manual's SRC_BOUNCE_MAX. -/
def Pid.SRC_BOUNCE_MAX : Nat := 0x1002
/-- Parameter ID of the manual's SRC_QUAR_S. -/
def Pid.SRC_QUAR_S : Nat := 0x1003
/-- Parameter ID of the manual's SRC_RAMP_MS. -/
def Pid.SRC_RAMP_MS : Nat := 0x1004
/-- Parameter ID of the manual's SRC_PRIORITY. -/
def Pid.SRC_PRIORITY : Nat := 0x1005
/-- Parameter ID of the manual's SRC_OR_DEPTH. -/
def Pid.SRC_OR_DEPTH : Nat := 0x1006
/-- Parameter ID of the manual's SRC_VLINK_UV_MV. -/
def Pid.SRC_VLINK_UV_MV : Nat := 0x1007
/-- Parameter ID of the manual's SRC_RETURN_MARGIN_MV. -/
def Pid.SRC_RETURN_MARGIN_MV : Nat := 0x1008
/-- Parameter ID of the manual's SRC_HO_MAX_MS. -/
def Pid.SRC_HO_MAX_MS : Nat := 0x1009
/-- Parameter ID of the manual's SRC_OVL_DGL_MS. -/
def Pid.SRC_OVL_DGL_MS : Nat := 0x100a
/-- Parameter ID of the manual's SRC_LIN_MAX_MS. -/
def Pid.SRC_LIN_MAX_MS : Nat := 0x100b
/-- Parameter ID of the manual's SRC_LIN_EXPIRE. -/
def Pid.SRC_LIN_EXPIRE : Nat := 0x100c
/-- Parameter ID of the manual's SRC_ILIM_UNKNOWN_MA. -/
def Pid.SRC_ILIM_UNKNOWN_MA : Nat := 0x100d
/-- Parameter ID of the manual's SRC_WIN_DGL_US. -/
def Pid.SRC_WIN_DGL_US : Nat := 0x100e
/-- Parameter ID of the manual's instanced SRC_DC_VMIN_MV. -/
def Pid.SRC_DC_VMIN_MV (n : Nat) : Nat := 0x1010 + 16 * n
/-- Parameter ID of the manual's instanced SRC_DC_VMAX_MV. -/
def Pid.SRC_DC_VMAX_MV (n : Nat) : Nat := 0x1011 + 16 * n
/-- Parameter ID of the manual's instanced SRC_DC_HYST_MV. -/
def Pid.SRC_DC_HYST_MV (n : Nat) : Nat := 0x1012 + 16 * n
/-- Parameter ID of the manual's instanced SRC_DC_RPATH_UOHM. -/
def Pid.SRC_DC_RPATH_UOHM (n : Nat) : Nat := 0x1013 + 16 * n
/-- Parameter ID of the manual's instanced SRC_DC_RPATH_TC. -/
def Pid.SRC_DC_RPATH_TC (n : Nat) : Nat := 0x1014 + 16 * n
/-- Parameter ID of the manual's instanced SRC_DC_TSNS. -/
def Pid.SRC_DC_TSNS (n : Nat) : Nat := 0x1015 + 16 * n
/-- Parameter ID of the manual's instanced SRC_DC_ILIM_MA. -/
def Pid.SRC_DC_ILIM_MA (n : Nat) : Nat := 0x1016 + 16 * n
/-- Parameter ID of the manual's instanced SRC_DC_EN. -/
def Pid.SRC_DC_EN (n : Nat) : Nat := 0x1017 + 16 * n
/-- Parameter ID of the manual's instanced SRC_DC_CLASS. -/
def Pid.SRC_DC_CLASS (n : Nat) : Nat := 0x1018 + 16 * n
/-- Parameter ID of the manual's instanced SRC_DC_STATE. -/
def Pid.SRC_DC_STATE (n : Nat) : Nat := 0x1019 + 16 * n
/-- Parameter ID of the manual's SRC_STATE. -/
def Pid.SRC_STATE : Nat := 0x1030
/-- Parameter ID of the manual's SRC_TRANSFERS. -/
def Pid.SRC_TRANSFERS : Nat := 0x1031
/-- Parameter ID of the manual's CHG_EN. -/
def Pid.CHG_EN : Nat := 0x2001
/-- Parameter ID of the manual's CHG_CHEM. -/
def Pid.CHG_CHEM : Nat := 0x2002
/-- Parameter ID of the manual's CHG_CELLS. -/
def Pid.CHG_CELLS : Nat := 0x2003
/-- Parameter ID of the manual's CHG_CAP_MAH. -/
def Pid.CHG_CAP_MAH : Nat := 0x2004
/-- Parameter ID of the manual's CHG_RSNS_UOHM. -/
def Pid.CHG_RSNS_UOHM : Nat := 0x2005
/-- Parameter ID of the manual's CHG_FSW_KHZ. -/
def Pid.CHG_FSW_KHZ : Nat := 0x2006
/-- Parameter ID of the manual's CHG_I_CC_MA. -/
def Pid.CHG_I_CC_MA : Nat := 0x2007
/-- Parameter ID of the manual's CHG_TRK_PCT. -/
def Pid.CHG_TRK_PCT : Nat := 0x2008
/-- Parameter ID of the manual's CHG_PRE_PCT. -/
def Pid.CHG_PRE_PCT : Nat := 0x2009
/-- Parameter ID of the manual's CHG_I_TERM_MA. -/
def Pid.CHG_I_TERM_MA : Nat := 0x200a
/-- Parameter ID of the manual's CHG_I_REBULK_MA. -/
def Pid.CHG_I_REBULK_MA : Nat := 0x200b
/-- Parameter ID of the manual's CHG_I_DIS_MAX_MA. -/
def Pid.CHG_I_DIS_MAX_MA : Nat := 0x200c
/-- Parameter ID of the manual's CHG_V_TRK. -/
def Pid.CHG_V_TRK : Nat := 0x2010
/-- Parameter ID of the manual's CHG_V_PRE. -/
def Pid.CHG_V_PRE : Nat := 0x2011
/-- Parameter ID of the manual's CHG_V_CV. -/
def Pid.CHG_V_CV : Nat := 0x2012
/-- Parameter ID of the manual's CHG_V_FLOAT. -/
def Pid.CHG_V_FLOAT : Nat := 0x2013
/-- Parameter ID of the manual's CHG_V_RECHG. -/
def Pid.CHG_V_RECHG : Nat := 0x2014
/-- Parameter ID of the manual's CHG_V_OV. -/
def Pid.CHG_V_OV : Nat := 0x2015
/-- Parameter ID of the manual's CHG_V_PRESENT. -/
def Pid.CHG_V_PRESENT : Nat := 0x2016
/-- Parameter ID of the manual's CHG_V_HYST. -/
def Pid.CHG_V_HYST : Nat := 0x2017
/-- Parameter ID of the manual's CHG_TCOMP_UV_C. -/
def Pid.CHG_TCOMP_UV_C : Nat := 0x2018
/-- Parameter ID of the manual's CHG_TCOMP_TMIN. -/
def Pid.CHG_TCOMP_TMIN : Nat := 0x2019
/-- Parameter ID of the manual's CHG_TCOMP_TMAX. -/
def Pid.CHG_TCOMP_TMAX : Nat := 0x201a
/-- Parameter ID of the manual's CHG_TSNS. -/
def Pid.CHG_TSNS : Nat := 0x201b
/-- Parameter ID of the manual's CHG_T_CHG_MIN. -/
def Pid.CHG_T_CHG_MIN : Nat := 0x201c
/-- Parameter ID of the manual's CHG_T_CHG_MAX. -/
def Pid.CHG_T_CHG_MAX : Nat := 0x201d
/-- Parameter ID of the manual's CHG_TMR_TRK_S. -/
def Pid.CHG_TMR_TRK_S : Nat := 0x2020
/-- Parameter ID of the manual's CHG_TMR_PRE_S. -/
def Pid.CHG_TMR_PRE_S : Nat := 0x2021
/-- Parameter ID of the manual's CHG_TMR_CCCV_S. -/
def Pid.CHG_TMR_CCCV_S : Nat := 0x2022
/-- Parameter ID of the manual's CHG_TMO_REST_S. -/
def Pid.CHG_TMO_REST_S : Nat := 0x2023
/-- Parameter ID of the manual's CHG_VLINK_MIN_MV. -/
def Pid.CHG_VLINK_MIN_MV : Nat := 0x2024
/-- Parameter ID of the manual's CHG_BATPRES. -/
def Pid.CHG_BATPRES : Nat := 0x2030
/-- Parameter ID of the manual's CHG_BATPRES_POL. -/
def Pid.CHG_BATPRES_POL : Nat := 0x2031
/-- Parameter ID of the manual's CHG_ABS_RETRY_MAX. -/
def Pid.CHG_ABS_RETRY_MAX : Nat := 0x2032
/-- Parameter ID of the manual's CHG_SAFEHOLD. -/
def Pid.CHG_SAFEHOLD : Nat := 0x2033
/-- Parameter ID of the manual's CHG_AUTOSTART. -/
def Pid.CHG_AUTOSTART : Nat := 0x2034
/-- Parameter ID of the manual's CHG_STATE. -/
def Pid.CHG_STATE : Nat := 0x2040
/-- Parameter ID of the manual's CHG_WAIT_CAUSE. -/
def Pid.CHG_WAIT_CAUSE : Nat := 0x2041
/-- Parameter ID of the manual's CHG_TMR_ACC. -/
def Pid.CHG_TMR_ACC : Nat := 0x2042
/-- Parameter ID of the manual's CHG_TIMEOUT_PHASE. -/
def Pid.CHG_TIMEOUT_PHASE : Nat := 0x2043
/-- Parameter ID of the manual's CHG_CYCLES. -/
def Pid.CHG_CYCLES : Nat := 0x2044
/-- Parameter ID of the manual's instanced VR_VOUT_MV. -/
def Pid.VR_VOUT_MV (n : Nat) : Nat := 0x3001 + 256 * n
/-- Parameter ID of the manual's instanced VR_ATT. -/
def Pid.VR_ATT (n : Nat) : Nat := 0x3002 + 256 * n
/-- Parameter ID of the manual's instanced VR_DIV. -/
def Pid.VR_DIV (n : Nat) : Nat := 0x3003 + 256 * n
/-- Parameter ID of the manual's instanced VR_DIV_LOC. -/
def Pid.VR_DIV_LOC (n : Nat) : Nat := 0x3004 + 256 * n
/-- Parameter ID of the manual's instanced VR_RTH_OHM. -/
def Pid.VR_RTH_OHM (n : Nat) : Nat := 0x3005 + 256 * n
/-- Parameter ID of the manual's instanced VR_SNS_MODE. -/
def Pid.VR_SNS_MODE (n : Nat) : Nat := 0x3006 + 256 * n
/-- Parameter ID of the manual's instanced VR_RDIST_UOHM. -/
def Pid.VR_RDIST_UOHM (n : Nat) : Nat := 0x3007 + 256 * n
/-- Parameter ID of the manual's instanced VR_FSW_KHZ. -/
def Pid.VR_FSW_KHZ (n : Nat) : Nat := 0x3008 + 256 * n
/-- Parameter ID of the manual's instanced VR_TOFF_MIN_NS. -/
def Pid.VR_TOFF_MIN_NS (n : Nat) : Nat := 0x3009 + 256 * n
/-- Parameter ID of the manual's instanced VR_INJ_MV. -/
def Pid.VR_INJ_MV (n : Nat) : Nat := 0x300a + 256 * n
/-- Parameter ID of the manual's instanced VR_INJ_TAU_US. -/
def Pid.VR_INJ_TAU_US (n : Nat) : Nat := 0x300b + 256 * n
/-- Parameter ID of the manual's instanced VR_VIN_NOM_MV. -/
def Pid.VR_VIN_NOM_MV (n : Nat) : Nat := 0x300c + 256 * n
/-- Parameter ID of the manual's instanced VR_VIN_MIN_MV. -/
def Pid.VR_VIN_MIN_MV (n : Nat) : Nat := 0x300d + 256 * n
/-- Parameter ID of the manual's instanced VR_TSS_US. -/
def Pid.VR_TSS_US (n : Nat) : Nat := 0x3010 + 256 * n
/-- Parameter ID of the manual's instanced VR_PREBIAS. -/
def Pid.VR_PREBIAS (n : Nat) : Nat := 0x3011 + 256 * n
/-- Parameter ID of the manual's instanced VR_DISCH. -/
def Pid.VR_DISCH (n : Nat) : Nat := 0x3012 + 256 * n
/-- Parameter ID of the manual's instanced VR_DIS_TMO_MS. -/
def Pid.VR_DIS_TMO_MS (n : Nat) : Nat := 0x3013 + 256 * n
/-- Parameter ID of the manual's instanced VR_OFF_PCT. -/
def Pid.VR_OFF_PCT (n : Nat) : Nat := 0x3014 + 256 * n
/-- Parameter ID of the manual's instanced VR_SLEW_UV_US. -/
def Pid.VR_SLEW_UV_US (n : Nat) : Nat := 0x3015 + 256 * n
/-- Parameter ID of the manual's instanced VR_IVAL_MA. -/
def Pid.VR_IVAL_MA (n : Nat) : Nat := 0x3020 + 256 * n
/-- Parameter ID of the manual's instanced VR_IPK_MA. -/
def Pid.VR_IPK_MA (n : Nat) : Nat := 0x3021 + 256 * n
/-- Parameter ID of the manual's instanced VR_IPK_BLANK_NS. -/
def Pid.VR_IPK_BLANK_NS (n : Nat) : Nat := 0x3022 + 256 * n
/-- Parameter ID of the manual's instanced VR_INEG_MA. -/
def Pid.VR_INEG_MA (n : Nat) : Nat := 0x3023 + 256 * n
/-- Parameter ID of the manual's instanced VR_OV_PCT. -/
def Pid.VR_OV_PCT (n : Nat) : Nat := 0x3024 + 256 * n
/-- Parameter ID of the manual's instanced VR_OV_ACT. -/
def Pid.VR_OV_ACT (n : Nat) : Nat := 0x3025 + 256 * n
/-- Parameter ID of the manual's instanced VR_UV_PCT. -/
def Pid.VR_UV_PCT (n : Nat) : Nat := 0x3026 + 256 * n
/-- Parameter ID of the manual's instanced VR_UV_BLANK_US. -/
def Pid.VR_UV_BLANK_US (n : Nat) : Nat := 0x3027 + 256 * n
/-- Parameter ID of the manual's instanced VR_UV_ACT. -/
def Pid.VR_UV_ACT (n : Nat) : Nat := 0x3028 + 256 * n
/-- Parameter ID of the manual's instanced VR_HICCUP_MAX. -/
def Pid.VR_HICCUP_MAX (n : Nat) : Nat := 0x3029 + 256 * n
/-- Parameter ID of the manual's instanced VR_MIN_PH. -/
def Pid.VR_MIN_PH (n : Nat) : Nat := 0x302a + 256 * n
/-- Parameter ID of the manual's instanced VR_PG_UV. -/
def Pid.VR_PG_UV (n : Nat) : Nat := 0x3030 + 256 * n
/-- Parameter ID of the manual's instanced VR_PG_OV. -/
def Pid.VR_PG_OV (n : Nat) : Nat := 0x3031 + 256 * n
/-- Parameter ID of the manual's instanced VR_PG_HYST. -/
def Pid.VR_PG_HYST (n : Nat) : Nat := 0x3032 + 256 * n
/-- Parameter ID of the manual's instanced VR_PG_DGL_US. -/
def Pid.VR_PG_DGL_US (n : Nat) : Nat := 0x3033 + 256 * n
/-- Parameter ID of the manual's instanced VR_HEALTH_S. -/
def Pid.VR_HEALTH_S (n : Nat) : Nat := 0x3038 + 256 * n
/-- Parameter ID of the manual's instanced VR_STATE. -/
def Pid.VR_STATE (n : Nat) : Nat := 0x3040 + 256 * n
/-- Parameter ID of the manual's instanced VR_FLAGS. -/
def Pid.VR_FLAGS (n : Nat) : Nat := 0x3041 + 256 * n
/-- Parameter ID of the manual's instanced VR_PH_ACTIVE. -/
def Pid.VR_PH_ACTIVE (n : Nat) : Nat := 0x3042 + 256 * n
/-- Parameter ID of the manual's instanced VR_HICCUPS. -/
def Pid.VR_HICCUPS (n : Nat) : Nat := 0x3043 + 256 * n
/-- Parameter ID of the manual's instanced VR_TRIM. -/
def Pid.VR_TRIM (n : Nat) : Nat := 0x3044 + 256 * n
/-- Parameter ID of the manual's instanced PH_IMON_GAIN_UV_A. -/
def Pid.PH_IMON_GAIN_UV_A (n : Nat) : Nat := 0x3d00 + 8 * n
/-- Parameter ID of the manual's instanced PH_IMON_REF_MV. -/
def Pid.PH_IMON_REF_MV (n : Nat) : Nat := 0x3d01 + 8 * n
/-- Parameter ID of the manual's instanced PH_L_NH. -/
def Pid.PH_L_NH (n : Nat) : Nat := 0x3d02 + 8 * n
/-- Parameter ID of the manual's instanced PH_R_UOHM. -/
def Pid.PH_R_UOHM (n : Nat) : Nat := 0x3d03 + 8 * n
/-- Parameter ID of the manual's instanced PH_L_EST. -/
def Pid.PH_L_EST (n : Nat) : Nat := 0x3d04 + 8 * n
/-- Parameter ID of the manual's instanced PH_R_EST. -/
def Pid.PH_R_EST (n : Nat) : Nat := 0x3d05 + 8 * n
/-- Parameter ID of the manual's instanced PH_STATE. -/
def Pid.PH_STATE (n : Nat) : Nat := 0x3d06 + 8 * n
/-- Parameter ID of the manual's instanced LDO_VOUT_MV. -/
def Pid.LDO_VOUT_MV (n : Nat) : Nat := 0x3c00 + 16 * n
/-- Parameter ID of the manual's instanced LDO_SRC. -/
def Pid.LDO_SRC (n : Nat) : Nat := 0x3c01 + 16 * n
/-- Parameter ID of the manual's instanced LDO_TSS_US. -/
def Pid.LDO_TSS_US (n : Nat) : Nat := 0x3c02 + 16 * n
/-- Parameter ID of the manual's instanced LDO_DISCH. -/
def Pid.LDO_DISCH (n : Nat) : Nat := 0x3c03 + 16 * n
/-- Parameter ID of the manual's instanced LDO_UV_ACT. -/
def Pid.LDO_UV_ACT (n : Nat) : Nat := 0x3c04 + 16 * n
/-- Parameter ID of the manual's instanced LDO_STATE. -/
def Pid.LDO_STATE (n : Nat) : Nat := 0x3c05 + 16 * n
/-- Parameter ID of the manual's VR_ASSIGN. -/
def Pid.VR_ASSIGN : Nat := 0x3f00
/-- Parameter ID of the manual's VR_L_TOL_PCT. -/
def Pid.VR_L_TOL_PCT : Nat := 0x3f01
/-- Parameter ID of the manual's VR_R_TOL_PCT. -/
def Pid.VR_R_TOL_PCT : Nat := 0x3f02
/-- Parameter ID of the manual's VR_DIS_VLINK_MAX_MV. -/
def Pid.VR_DIS_VLINK_MAX_MV : Nat := 0x3f03
/-- Parameter ID of the manual's SEQ_RETRIES. -/
def Pid.SEQ_RETRIES : Nat := 0x4001
/-- Parameter ID of the manual's SEQ_BACKOFF_MS. -/
def Pid.SEQ_BACKOFF_MS : Nat := 0x4002
/-- Parameter ID of the manual's SEQ_DOWN_EXT_MS. -/
def Pid.SEQ_DOWN_EXT_MS : Nat := 0x4003
/-- Parameter ID of the manual's SEQ_STUCK_ACT. -/
def Pid.SEQ_STUCK_ACT : Nat := 0x4004
/-- Parameter ID of the manual's SEQ_MARGIN_ALLOW. -/
def Pid.SEQ_MARGIN_ALLOW : Nat := 0x4005
/-- Parameter ID of the manual's SEQ_MARGIN_LIM. -/
def Pid.SEQ_MARGIN_LIM : Nat := 0x4006
/-- Parameter ID of the manual's SEQ_ORDER. -/
def Pid.SEQ_ORDER : Nat := 0x4007
/-- Parameter ID of the manual's SEQ_GROUPS. -/
def Pid.SEQ_GROUPS : Nat := 0x4010
/-- Parameter ID of the manual's SEQ_STEPS. -/
def Pid.SEQ_STEPS : Nat := 0x4011
/-- Parameter ID of the manual's SEQ_G_STATE. -/
def Pid.SEQ_G_STATE : Nat := 0x4020
/-- Parameter ID of the manual's SEQ_ATTEMPTS. -/
def Pid.SEQ_ATTEMPTS : Nat := 0x4021
/-- Parameter ID of the manual's instanced MON_DIV. -/
def Pid.MON_DIV (n : Nat) : Nat := 0x4100 + 16 * n
/-- Parameter ID of the manual's instanced MON_UV_MV. -/
def Pid.MON_UV_MV (n : Nat) : Nat := 0x4101 + 16 * n
/-- Parameter ID of the manual's instanced MON_OV_MV. -/
def Pid.MON_OV_MV (n : Nat) : Nat := 0x4102 + 16 * n
/-- Parameter ID of the manual's instanced MON_HYST_MV. -/
def Pid.MON_HYST_MV (n : Nat) : Nat := 0x4103 + 16 * n
/-- Parameter ID of the manual's instanced MON_OFF_MV. -/
def Pid.MON_OFF_MV (n : Nat) : Nat := 0x4104 + 16 * n
/-- Parameter ID of the manual's instanced MON_DGL_US. -/
def Pid.MON_DGL_US (n : Nat) : Nat := 0x4105 + 16 * n
/-- Parameter ID of the manual's instanced MON_ACT. -/
def Pid.MON_ACT (n : Nat) : Nat := 0x4106 + 16 * n
/-- Parameter ID of the manual's instanced MON_GROUP. -/
def Pid.MON_GROUP (n : Nat) : Nat := 0x4107 + 16 * n
/-- Parameter ID of the manual's instanced MON_RAIL. -/
def Pid.MON_RAIL (n : Nat) : Nat := 0x4108 + 16 * n
/-- Parameter ID of the manual's instanced MON_BLANK_MS. -/
def Pid.MON_BLANK_MS (n : Nat) : Nat := 0x4109 + 16 * n
/-- Parameter ID of the manual's instanced MON_STATE. -/
def Pid.MON_STATE (n : Nat) : Nat := 0x410a + 16 * n
/-- Parameter ID of the manual's instanced EN_DRIVE. -/
def Pid.EN_DRIVE (n : Nat) : Nat := 0x4400 + 8 * n
/-- Parameter ID of the manual's instanced EN_POL. -/
def Pid.EN_POL (n : Nat) : Nat := 0x4401 + 8 * n
/-- Parameter ID of the manual's instanced EN_MON. -/
def Pid.EN_MON (n : Nat) : Nat := 0x4402 + 8 * n
/-- Parameter ID of the manual's instanced EN_OFF_WAIT_MS. -/
def Pid.EN_OFF_WAIT_MS (n : Nat) : Nat := 0x4403 + 8 * n
/-- Parameter ID of the manual's instanced EN_ON_TMO_MS. -/
def Pid.EN_ON_TMO_MS (n : Nat) : Nat := 0x4404 + 8 * n
/-- Parameter ID of the manual's instanced EN_STATE. -/
def Pid.EN_STATE (n : Nat) : Nat := 0x4405 + 8 * n
/-- Parameter ID of the manual's EST_MODE. -/
def Pid.EST_MODE : Nat := 0x5001
/-- Parameter ID of the manual's EST_RSHUNT_UOHM. -/
def Pid.EST_RSHUNT_UOHM : Nat := 0x5002
/-- Parameter ID of the manual's EST_LEDGER_GAIN_PPM. -/
def Pid.EST_LEDGER_GAIN_PPM : Nat := 0x5003
/-- Parameter ID of the manual's EST_DIS_THR. -/
def Pid.EST_DIS_THR : Nat := 0x5004
/-- Parameter ID of the manual's EST_REST_S. -/
def Pid.EST_REST_S : Nat := 0x5005
/-- Parameter ID of the manual's EST_PROBE_EN. -/
def Pid.EST_PROBE_EN : Nat := 0x5006
/-- Parameter ID of the manual's EST_PROBE_S. -/
def Pid.EST_PROBE_S : Nat := 0x5007
/-- Parameter ID of the manual's EST_PROBE_PCT. -/
def Pid.EST_PROBE_PCT : Nat := 0x5008
/-- Parameter ID of the manual's EST_PROBE_MIN_MA. -/
def Pid.EST_PROBE_MIN_MA : Nat := 0x5009
/-- Parameter ID of the manual's EST_C_LINK_UF. -/
def Pid.EST_C_LINK_UF : Nat := 0x500a
/-- Parameter ID of the manual's EST_PROBE_SAG_MV. -/
def Pid.EST_PROBE_SAG_MV : Nat := 0x500b
/-- Parameter ID of the manual's EST_V_CUT. -/
def Pid.EST_V_CUT : Nat := 0x500c
/-- Parameter ID of the manual's EST_CUT_HYST. -/
def Pid.EST_CUT_HYST : Nat := 0x500d
/-- Parameter ID of the manual's EST_CUT_DGL_MS. -/
def Pid.EST_CUT_DGL_MS : Nat := 0x500e
/-- Parameter ID of the manual's EST_CUT_ACT. -/
def Pid.EST_CUT_ACT : Nat := 0x500f
/-- Parameter ID of the manual's EST_RATED_MA. -/
def Pid.EST_RATED_MA : Nat := 0x5010
/-- Parameter ID of the manual's EST_RATED_DUR_MIN. -/
def Pid.EST_RATED_DUR_MIN : Nat := 0x5011
/-- Parameter ID of the manual's EST_WARN_EARLY_MIN. -/
def Pid.EST_WARN_EARLY_MIN : Nat := 0x5012
/-- Parameter ID of the manual's EST_WARN_LOW_MIN. -/
def Pid.EST_WARN_LOW_MIN : Nat := 0x5013
/-- Parameter ID of the manual's EST_WARN_CRIT_MIN. -/
def Pid.EST_WARN_CRIT_MIN : Nat := 0x5014
/-- Parameter ID of the manual's EST_WARN_HYST_MIN. -/
def Pid.EST_WARN_HYST_MIN : Nat := 0x5015
/-- Parameter ID of the manual's EST_SELF_PPM_DAY. -/
def Pid.EST_SELF_PPM_DAY : Nat := 0x5016
/-- Parameter ID of the manual's EST_SELF_POST_H. -/
def Pid.EST_SELF_POST_H : Nat := 0x5017
/-- Parameter ID of the manual's EST_REBASE_PCT. -/
def Pid.EST_REBASE_PCT : Nat := 0x5018
/-- Parameter ID of the manual's EST_LOAD_AVG_S. -/
def Pid.EST_LOAD_AVG_S : Nat := 0x5019
/-- Parameter ID of the manual's EST_RS_MAX_UOHM. -/
def Pid.EST_RS_MAX_UOHM : Nat := 0x501a
/-- Parameter ID of the manual's EST_OCV_FACT. -/
def Pid.EST_OCV_FACT : Nat := 0x5020
/-- Parameter ID of the manual's EST_CAP_FACT. -/
def Pid.EST_CAP_FACT : Nat := 0x5021
/-- Parameter ID of the manual's EST_RS_FACT. -/
def Pid.EST_RS_FACT : Nat := 0x5022
/-- Parameter ID of the manual's EST_OCV. -/
def Pid.EST_OCV : Nat := 0x5024
/-- Parameter ID of the manual's EST_CAP. -/
def Pid.EST_CAP : Nat := 0x5025
/-- Parameter ID of the manual's EST_RS. -/
def Pid.EST_RS : Nat := 0x5026
/-- Parameter ID of the manual's EST_SOC. -/
def Pid.EST_SOC : Nat := 0x5030
/-- Parameter ID of the manual's EST_SOC_INT. -/
def Pid.EST_SOC_INT : Nat := 0x5031
/-- Parameter ID of the manual's EST_FLOOR_S. -/
def Pid.EST_FLOOR_S : Nat := 0x5032
/-- Parameter ID of the manual's EST_FLOOR_RATED_S. -/
def Pid.EST_FLOOR_RATED_S : Nat := 0x5033
/-- Parameter ID of the manual's EST_QFULL_MAH. -/
def Pid.EST_QFULL_MAH : Nat := 0x5034
/-- Parameter ID of the manual's EST_FLAGS. -/
def Pid.EST_FLAGS : Nat := 0x5035
/-- Parameter ID of the manual's EST_FIT_AGE_S. -/
def Pid.EST_FIT_AGE_S : Nat := 0x5036
/-- Parameter ID of the manual's EST_SOH_FADE. -/
def Pid.EST_SOH_FADE : Nat := 0x5037
/-- Parameter ID of the manual's EST_SOH_RS. -/
def Pid.EST_SOH_RS : Nat := 0x5038
/-- Parameter ID of the manual's EST_FT_EN. -/
def Pid.EST_FT_EN : Nat := 0x5040
/-- Parameter ID of the manual's EST_FT_DUR_S. -/
def Pid.EST_FT_DUR_S : Nat := 0x5041
/-- Parameter ID of the manual's EST_FT_DAY. -/
def Pid.EST_FT_DAY : Nat := 0x5042
/-- Parameter ID of the manual's EST_FT_TIME. -/
def Pid.EST_FT_TIME : Nat := 0x5043
/-- Parameter ID of the manual's EST_DT_EN. -/
def Pid.EST_DT_EN : Nat := 0x5044
/-- Parameter ID of the manual's EST_DT_DUR. -/
def Pid.EST_DT_DUR : Nat := 0x5045
/-- Parameter ID of the manual's EST_DT_MONTH. -/
def Pid.EST_DT_MONTH : Nat := 0x5046
/-- Parameter ID of the manual's EST_DT_DAY. -/
def Pid.EST_DT_DAY : Nat := 0x5047
/-- Parameter ID of the manual's EST_DT_TIME. -/
def Pid.EST_DT_TIME : Nat := 0x5048
/-- Parameter ID of the manual's EST_RECHARGE_H. -/
def Pid.EST_RECHARGE_H : Nat := 0x5049
/-- Parameter ID of the manual's EST_POSTPONE_D. -/
def Pid.EST_POSTPONE_D : Nat := 0x504a
/-- Parameter ID of the manual's EST_TEST_ABORT_GPIO. -/
def Pid.EST_TEST_ABORT_GPIO : Nat := 0x504b
/-- Parameter ID of the manual's ACQ_RATE_HALF. -/
def Pid.ACQ_RATE_HALF : Nat := 0x6001
/-- Parameter ID of the manual's ACQ_REF_SEL. -/
def Pid.ACQ_REF_SEL : Nat := 0x6002
/-- Parameter ID of the manual's ACQ_REF_AUTO. -/
def Pid.ACQ_REF_AUTO : Nat := 0x6003
/-- Parameter ID of the manual's ACQ_ROUND_SLICE. -/
def Pid.ACQ_ROUND_SLICE : Nat := 0x6004
/-- Parameter ID of the manual's ACQ_RING_SLICES. -/
def Pid.ACQ_RING_SLICES : Nat := 0x6005
/-- Parameter ID of the manual's ACQ_SETTLE_NS. -/
def Pid.ACQ_SETTLE_NS : Nat := 0x6006
/-- Parameter ID of the manual's ACQ_ROUND_AVG. -/
def Pid.ACQ_ROUND_AVG : Nat := 0x6007
/-- Parameter ID of the manual's ACQ_GANG_MAX_US. -/
def Pid.ACQ_GANG_MAX_US : Nat := 0x6008
/-- Parameter ID of the manual's ACQ_CORR_EN. -/
def Pid.ACQ_CORR_EN : Nat := 0x6009
/-- Parameter ID of the manual's ACQ_STATUS. -/
def Pid.ACQ_STATUS : Nat := 0x600a
/-- Parameter ID of the manual's ACQ_COEF_VER. -/
def Pid.ACQ_COEF_VER : Nat := 0x600b
/-- Parameter ID of the manual's ACQ_TMR0_NS. -/
def Pid.ACQ_TMR0_NS : Nat := 0x6010
/-- Parameter ID of the manual's ACQ_TMR1_NS. -/
def Pid.ACQ_TMR1_NS : Nat := 0x6011
/-- Parameter ID of the manual's ACQ_TMR2_NS. -/
def Pid.ACQ_TMR2_NS : Nat := 0x6012
/-- Parameter ID of the manual's ACQ_TMR3_NS. -/
def Pid.ACQ_TMR3_NS : Nat := 0x6013
/-- Parameter ID of the manual's instanced ACQ_CC_INPUT. -/
def Pid.ACQ_CC_INPUT (n : Nat) : Nat := 0x6100 + 8 * n
/-- Parameter ID of the manual's instanced ACQ_CC_LEVEL. -/
def Pid.ACQ_CC_LEVEL (n : Nat) : Nat := 0x6101 + 8 * n
/-- Parameter ID of the manual's instanced ACQ_CC_HYST. -/
def Pid.ACQ_CC_HYST (n : Nat) : Nat := 0x6102 + 8 * n
/-- Parameter ID of the manual's instanced ACQ_CC_DIR. -/
def Pid.ACQ_CC_DIR (n : Nat) : Nat := 0x6103 + 8 * n
/-- Parameter ID of the manual's instanced ACQ_CC_DGL_NS. -/
def Pid.ACQ_CC_DGL_NS (n : Nat) : Nat := 0x6104 + 8 * n
/-- Parameter ID of the manual's instanced ACQ_CC_CAPTURE. -/
def Pid.ACQ_CC_CAPTURE (n : Nat) : Nat := 0x6105 + 8 * n
/-- Parameter ID of the manual's instanced ACQ_CC_STATE. -/
def Pid.ACQ_CC_STATE (n : Nat) : Nat := 0x6106 + 8 * n
/-- Parameter ID of the manual's instanced ACQ_RW_INPUT. -/
def Pid.ACQ_RW_INPUT (n : Nat) : Nat := 0x6200 + 4 * n
/-- Parameter ID of the manual's instanced ACQ_RW_LOW. -/
def Pid.ACQ_RW_LOW (n : Nat) : Nat := 0x6201 + 4 * n
/-- Parameter ID of the manual's instanced ACQ_RW_HIGH. -/
def Pid.ACQ_RW_HIGH (n : Nat) : Nat := 0x6202 + 4 * n
/-- Parameter ID of the manual's instanced ACQ_RW_STATE. -/
def Pid.ACQ_RW_STATE (n : Nat) : Nat := 0x6203 + 4 * n
/-- Parameter ID of the manual's THERM_DIE_WARN. -/
def Pid.THERM_DIE_WARN : Nat := 0x7001
/-- Parameter ID of the manual's THERM_DIE_THROT. -/
def Pid.THERM_DIE_THROT : Nat := 0x7002
/-- Parameter ID of the manual's THERM_DIE_SHUT. -/
def Pid.THERM_DIE_SHUT : Nat := 0x7003
/-- Parameter ID of the manual's THERM_DIE_WARN_HYST. -/
def Pid.THERM_DIE_WARN_HYST : Nat := 0x7004
/-- Parameter ID of the manual's THERM_DIE_THROT_HYST. -/
def Pid.THERM_DIE_THROT_HYST : Nat := 0x7005
/-- Parameter ID of the manual's THERM_DIE_SHUT_HYST. -/
def Pid.THERM_DIE_SHUT_HYST : Nat := 0x7006
/-- Parameter ID of the manual's THERM_DIE_ACT. -/
def Pid.THERM_DIE_ACT : Nat := 0x7007
/-- Parameter ID of the manual's THERM_DIE_CHG_PCT. -/
def Pid.THERM_DIE_CHG_PCT : Nat := 0x7008
/-- Parameter ID of the manual's THERM_PD_THROT_MW. -/
def Pid.THERM_PD_THROT_MW : Nat := 0x7009
/-- Parameter ID of the manual's THERM_ZSTATE. -/
def Pid.THERM_ZSTATE : Nat := 0x7010
/-- Parameter ID of the manual's THERM_DIE_STATE. -/
def Pid.THERM_DIE_STATE : Nat := 0x7011
/-- Parameter ID of the manual's THERM_FAST. -/
def Pid.THERM_FAST : Nat := 0x7012
/-- Parameter ID of the manual's THERM_BROKEN. -/
def Pid.THERM_BROKEN : Nat := 0x7013
/-- Parameter ID of the manual's instanced TSNS_KIND. -/
def Pid.TSNS_KIND (n : Nat) : Nat := 0x7100 + 16 * n
/-- Parameter ID of the manual's instanced TSNS_R25_OHM. -/
def Pid.TSNS_R25_OHM (n : Nat) : Nat := 0x7101 + 16 * n
/-- Parameter ID of the manual's instanced TSNS_BETA. -/
def Pid.TSNS_BETA (n : Nat) : Nat := 0x7102 + 16 * n
/-- Parameter ID of the manual's instanced TSNS_IDEAL. -/
def Pid.TSNS_IDEAL (n : Nat) : Nat := 0x7103 + 16 * n
/-- Parameter ID of the manual's instanced TSNS_WARN. -/
def Pid.TSNS_WARN (n : Nat) : Nat := 0x7104 + 16 * n
/-- Parameter ID of the manual's instanced TSNS_THROT. -/
def Pid.TSNS_THROT (n : Nat) : Nat := 0x7105 + 16 * n
/-- Parameter ID of the manual's instanced TSNS_SHUT. -/
def Pid.TSNS_SHUT (n : Nat) : Nat := 0x7106 + 16 * n
/-- Parameter ID of the manual's instanced TSNS_WARN_HYST. -/
def Pid.TSNS_WARN_HYST (n : Nat) : Nat := 0x7107 + 16 * n
/-- Parameter ID of the manual's instanced TSNS_THROT_HYST. -/
def Pid.TSNS_THROT_HYST (n : Nat) : Nat := 0x7108 + 16 * n
/-- Parameter ID of the manual's instanced TSNS_SHUT_HYST. -/
def Pid.TSNS_SHUT_HYST (n : Nat) : Nat := 0x7109 + 16 * n
/-- Parameter ID of the manual's instanced TSNS_STATE. -/
def Pid.TSNS_STATE (n : Nat) : Nat := 0x710a + 16 * n
/-- Parameter ID of the manual's instanced THERM_Z_SNS. -/
def Pid.THERM_Z_SNS (n : Nat) : Nat := 0x7200 + 8 * n
/-- Parameter ID of the manual's instanced THERM_Z_RAILS. -/
def Pid.THERM_Z_RAILS (n : Nat) : Nat := 0x7201 + 8 * n
/-- Parameter ID of the manual's instanced THERM_Z_ACT. -/
def Pid.THERM_Z_ACT (n : Nat) : Nat := 0x7202 + 8 * n
/-- Parameter ID of the manual's instanced THERM_Z_CHG_PCT. -/
def Pid.THERM_Z_CHG_PCT (n : Nat) : Nat := 0x7203 + 8 * n
/-- Parameter ID of the manual's PD_HR_MV. -/
def Pid.PD_HR_MV : Nat := 0x8001
/-- Parameter ID of the manual's PD_HR_HYST_MV. -/
def Pid.PD_HR_HYST_MV : Nat := 0x8002
/-- Parameter ID of the manual's PD_HR_DGL_MS. -/
def Pid.PD_HR_DGL_MS : Nat := 0x8003
/-- Parameter ID of the manual's PD_SVID. -/
def Pid.PD_SVID : Nat := 0x8004
/-- Parameter ID of the manual's instanced PD_ROLE. -/
def Pid.PD_ROLE (n : Nat) : Nat := 0x8101 + 256 * n
/-- Parameter ID of the manual's instanced PD_TRY. -/
def Pid.PD_TRY (n : Nat) : Nat := 0x8102 + 256 * n
/-- Parameter ID of the manual's instanced PD_VR. -/
def Pid.PD_VR (n : Nat) : Nat := 0x8103 + 256 * n
/-- Parameter ID of the manual's instanced PD_SRC_PDO. -/
def Pid.PD_SRC_PDO (n : Nat) : Nat := 0x8104 + 256 * n
/-- Parameter ID of the manual's instanced PD_SRC_MAX_MW. -/
def Pid.PD_SRC_MAX_MW (n : Nat) : Nat := 0x8105 + 256 * n
/-- Parameter ID of the manual's instanced PD_SNK_VMIN_MV. -/
def Pid.PD_SNK_VMIN_MV (n : Nat) : Nat := 0x8106 + 256 * n
/-- Parameter ID of the manual's instanced PD_SNK_VMAX_MV. -/
def Pid.PD_SNK_VMAX_MV (n : Nat) : Nat := 0x8107 + 256 * n
/-- Parameter ID of the manual's instanced PD_SNK_IMAX_MA. -/
def Pid.PD_SNK_IMAX_MA (n : Nat) : Nat := 0x8108 + 256 * n
/-- Parameter ID of the manual's instanced PD_SNK_PMIN_MW. -/
def Pid.PD_SNK_PMIN_MW (n : Nat) : Nat := 0x8109 + 256 * n
/-- Parameter ID of the manual's instanced PD_PPS_EN. -/
def Pid.PD_PPS_EN (n : Nat) : Nat := 0x810a + 256 * n
/-- Parameter ID of the manual's instanced PD_EPR_EN. -/
def Pid.PD_EPR_EN (n : Nat) : Nat := 0x810b + 256 * n
/-- Parameter ID of the manual's instanced PD_RPATH_SRC_UOHM. -/
def Pid.PD_RPATH_SRC_UOHM (n : Nat) : Nat := 0x810c + 256 * n
/-- Parameter ID of the manual's instanced PD_RPATH_SNK_UOHM. -/
def Pid.PD_RPATH_SNK_UOHM (n : Nat) : Nat := 0x810d + 256 * n
/-- Parameter ID of the manual's instanced PD_OCP_PCT. -/
def Pid.PD_OCP_PCT (n : Nat) : Nat := 0x810e + 256 * n
/-- Parameter ID of the manual's instanced PD_OCP_BLANK_US. -/
def Pid.PD_OCP_BLANK_US (n : Nat) : Nat := 0x810f + 256 * n
/-- Parameter ID of the manual's instanced PD_PRS_ACCEPT. -/
def Pid.PD_PRS_ACCEPT (n : Nat) : Nat := 0x8110 + 256 * n
/-- Parameter ID of the manual's instanced PD_DRS_ACCEPT. -/
def Pid.PD_DRS_ACCEPT (n : Nat) : Nat := 0x8111 + 256 * n
/-- Parameter ID of the manual's instanced PD_VCS_ACCEPT. -/
def Pid.PD_VCS_ACCEPT (n : Nat) : Nat := 0x8112 + 256 * n
/-- Parameter ID of the manual's instanced PD_FAULT_MAX. -/
def Pid.PD_FAULT_MAX (n : Nat) : Nat := 0x8113 + 256 * n
/-- Parameter ID of the manual's instanced PD_SVC_EN. -/
def Pid.PD_SVC_EN (n : Nat) : Nat := 0x8114 + 256 * n
/-- Parameter ID of the manual's instanced PD_STATE. -/
def Pid.PD_STATE (n : Nat) : Nat := 0x8120 + 256 * n
/-- Parameter ID of the manual's instanced PD_CONTRACT_MV. -/
def Pid.PD_CONTRACT_MV (n : Nat) : Nat := 0x8121 + 256 * n
/-- Parameter ID of the manual's instanced PD_CONTRACT_MA. -/
def Pid.PD_CONTRACT_MA (n : Nat) : Nat := 0x8122 + 256 * n
/-- Parameter ID of the manual's instanced PD_FLAGS. -/
def Pid.PD_FLAGS (n : Nat) : Nat := 0x8123 + 256 * n
/-- Parameter ID of the manual's SELV_REACT. -/
def Pid.SELV_REACT : Nat := 0x9001
/-- Parameter ID of the manual's SELV_MERGE_US. -/
def Pid.SELV_MERGE_US : Nat := 0x9002
/-- Parameter ID of the manual's SELV_RECEIVED. -/
def Pid.SELV_RECEIVED : Nat := 0x9003
/-- Parameter ID of the manual's SELV_STORED. -/
def Pid.SELV_STORED : Nat := 0x9004
/-- Parameter ID of the manual's SELV_DROPPED. -/
def Pid.SELV_DROPPED : Nat := 0x9005
/-- Parameter ID of the manual's SELV_CLEAR_REFUSED. -/
def Pid.SELV_CLEAR_REFUSED : Nat := 0x9006
/-- Parameter ID of the manual's SELV_FI_ARMED. -/
def Pid.SELV_FI_ARMED : Nat := 0x9007
/-- Parameter ID of the manual's EIC_STORM_PER_MS. -/
def Pid.EIC_STORM_PER_MS : Nat := 0x9010
/-- Parameter ID of the manual's EIC_STORM_AUTO. -/
def Pid.EIC_STORM_AUTO : Nat := 0x9011
/-- Parameter ID of the manual's EVT_CAT_SPIA. -/
def Pid.EVT_CAT_SPIA : Nat := 0x9020
/-- Parameter ID of the manual's EVT_CAT_SPIB. -/
def Pid.EVT_CAT_SPIB : Nat := 0x9021
/-- Parameter ID of the manual's EVT_CAT_I2C. -/
def Pid.EVT_CAT_I2C : Nat := 0x9022
/-- Parameter ID of the manual's instanced EIC_SRC. -/
def Pid.EIC_SRC (n : Nat) : Nat := 0x9100 + 1 * n
/-- Parameter ID of the manual's instanced GPIO_CFG. -/
def Pid.GPIO_CFG (n : Nat) : Nat := 0x9400 + 1 * n
/-- Parameter ID of the manual's instanced GPIO_OUT. -/
def Pid.GPIO_OUT (n : Nat) : Nat := 0x9410 + 1 * n
/-- Parameter ID of the manual's WDG_GOOD_S. -/
def Pid.WDG_GOOD_S : Nat := 0xa001
/-- Parameter ID of the manual's WDG_TRIES_N. -/
def Pid.WDG_TRIES_N : Nat := 0xa002
/-- Parameter ID of the manual's WDG_BOOT_MS. -/
def Pid.WDG_BOOT_MS : Nat := 0xa003
/-- Parameter ID of the manual's WDG_LADDER. -/
def Pid.WDG_LADDER : Nat := 0xa010
/-- Parameter ID of the manual's WDG_VIOLATIONS. -/
def Pid.WDG_VIOLATIONS : Nat := 0xa011
/-- Parameter ID of the manual's NVM_PF_MV. -/
def Pid.NVM_PF_MV : Nat := 0xb001
/-- Parameter ID of the manual's NVM_EVLOG_CAT. -/
def Pid.NVM_EVLOG_CAT : Nat := 0xb002
/-- Parameter ID of the manual's NVM_RETIRED. -/
def Pid.NVM_RETIRED : Nat := 0xb003
/-- Parameter ID of the manual's KETTLE_C_MIN_UF. -/
def Pid.KETTLE_C_MIN_UF : Nat := 0xb004
/-- Parameter ID of the manual's KETTLE_C_EST_UF. -/
def Pid.KETTLE_C_EST_UF : Nat := 0xb005
/-- Parameter ID of the manual's OTP_VPP_SRC. -/
def Pid.OTP_VPP_SRC : Nat := 0xb010
/-- Parameter ID of the manual's FW_STATE. -/
def Pid.FW_STATE : Nat := 0xb020
/-- Parameter ID of the manual's RTC_RC_TRIM_EN. -/
def Pid.RTC_RC_TRIM_EN : Nat := 0xc001

/-- Parameter rows, block sys. -/
def rowsGlobalSys : List PInfo :=
  [
    ⟨0x10, .bool, 0, 1, [], 1, 0, .img, .c2, 1⟩,
    ⟨0x11, .u32, 200, 100000, [], 1, 1000, .img, .c2, 1⟩,
    ⟨0x12, .u32, 100, 60000, [], 1, 10000, .img, .img, 1⟩]

/-- Parameter rows, block hif. -/
def rowsGlobalHif : List PInfo :=
  [
    ⟨0x20, .u8, 16, 176, [], 1, 128, .img, .img, 1⟩,
    ⟨0x21, .u8, 0, 176, [], 1, 64, .img, .img, 1⟩,
    ⟨0x22, .u8, 0, 64, [], 1, 16, .img, .img, 1⟩,
    ⟨0x23, .u8, 48, 48, [], 1, 48, .por, .ro, 1⟩,
    ⟨0x24, .u16, 1, 600, [], 1, 120, .img, .c2, 1⟩,
    ⟨0x25, .bool, 0, 1, [], 1, 0, .img, .c2, 1⟩]

/-- Parameter rows, block src. -/
def rowsGlobalSrc : List PInfo :=
  [
    ⟨0x1001, .u32, 10, 5000, [], 1, 100, .img, .c2, 1⟩,
    ⟨0x1002, .u8, 1, 50, [], 1, 5, .img, .c2, 1⟩,
    ⟨0x1003, .u32, 10, 86400, [], 1, 300, .img, .c2, 1⟩,
    ⟨0x1004, .u32, 10, 10000, [], 1, 500, .img, .c2, 1⟩,
    ⟨0x1005, .u16, 0, 0x3333, [], 1, 12816, .img, .c2, 1⟩,
    ⟨0x1006, .u8, 1, 4, [], 1, 2, .img, .c2, 1⟩,
    ⟨0x1007, .u32, 8000, 70000, [], 1, 9000, .img, .c2, 1⟩,
    ⟨0x1008, .u16, 100, 5000, [], 1, 500, .img, .c2, 1⟩,
    ⟨0x1009, .u16, 1, 1000, [], 1, 20, .img, .c2, 1⟩,
    ⟨0x100a, .u16, 1, 1000, [], 1, 5, .img, .c2, 1⟩,
    ⟨0x100b, .u16, 1, 100, [], 1, 20, .img, .c2, 1⟩,
    ⟨0x100c, .enum, 0, 1, [], 1, 0, .img, .c2, 1⟩,
    ⟨0x100d, .u32, 500, 40000, [], 1, 2000, .img, .c2, 1⟩,
    ⟨0x100e, .u16, 10, 10000, [], 1, 50, .img, .c2, 1⟩,
    ⟨0x1030, .enum, 0, 255, [], 1, 0, .chip, .ro, 1⟩,
    ⟨0x1031, .u32, 0, 4294967295, [], 1, 0, .nvm, .ro, 1⟩]

/-- Parameter rows, block SRC_DC. -/
def rowsSrcDc : List PInfo :=
  [
    ⟨0x0, .u32, 6000, 75000, [], 1, 9000, .img, .c2, 1⟩,
    ⟨0x1, .u32, 6000, 75000, [], 1, 75000, .img, .c2, 1⟩,
    ⟨0x2, .u16, 100, 5000, [], 1, 500, .img, .c2, 1⟩,
    ⟨0x3, .u32, 100, 100000, [], 1, 2000, .img, .c2, 1⟩,
    ⟨0x4, .u16, 0, 10000, [], 1, 4000, .img, .c2, 1⟩,
    ⟨0x5, .enum, 0, 7, [255], 1, 255, .img, .c2, 1⟩,
    ⟨0x6, .u32, 0, 40000, [], 1, 0, .img, .c2, 1⟩,
    ⟨0x7, .bool, 0, 1, [], 1, 1, .img, .c1, 1⟩,
    ⟨0x8, .u8, 0, 7, [255], 1, 255, .chip, .ro, 1⟩,
    ⟨0x9, .enum, 0, 255, [], 1, 0, .chip, .ro, 1⟩]

/-- Parameter rows, block chg. -/
def rowsGlobalChg : List PInfo :=
  [
    ⟨0x2001, .bool, 0, 1, [], 1, 1, .img, .c1, 1⟩,
    ⟨0x2002, .enum, 0, 1, [], 1, 0, .img, .img, 1⟩,
    ⟨0x2003, .u8, 4, 24, [], 1, 16, .img, .img, 1⟩,
    ⟨0x2004, .u32, 1000, 2000000, [], 1, 100000, .img, .c2, 1⟩,
    ⟨0x2005, .u32, 100, 100000, [], 1, 1000, .img, .img, 1⟩,
    ⟨0x2006, .u16, 100, 500, [], 1, 200, .img, .img, 1⟩,
    ⟨0x2007, .u32, 100, 90000, [], 1, 10000, .img, .c1, 1⟩,
    ⟨0x2008, .u8, 1, 20, [], 1, 2, .img, .c2, 1⟩,
    ⟨0x2009, .u8, 2, 50, [], 1, 10, .img, .c2, 1⟩,
    ⟨0x200a, .u32, 0, 20000, [], 1, 0, .img, .c2, 1⟩,
    ⟨0x200b, .u32, 0, 40000, [], 1, 0, .img, .c2, 1⟩,
    ⟨0x200c, .u32, 0, 90000, [], 1, 20000, .img, .c2, 1⟩,
    ⟨0x2010, .u16, 1000, 3000, [0], 1, 0, .img, .c2, 1⟩,
    ⟨0x2011, .u16, 1500, 3300, [0], 1, 0, .img, .c2, 1⟩,
    ⟨0x2012, .u16, 2000, 3650, [0], 1, 0, .img, .c2, 1⟩,
    ⟨0x2013, .u16, 2100, 2350, [0], 1, 0, .img, .c2, 1⟩,
    ⟨0x2014, .u16, 2800, 3500, [0], 1, 0, .img, .c2, 1⟩,
    ⟨0x2015, .u16, 2200, 3900, [0], 1, 0, .img, .c2, 1⟩,
    ⟨0x2016, .u16, 500, 2000, [0], 1, 0, .img, .c2, 1⟩,
    ⟨0x2017, .u16, 10, 200, [0], 1, 0, .img, .c2, 1⟩,
    ⟨0x2018, .s32, -6000, 0, [], 1, -3000, .img, .c2, 1⟩,
    ⟨0x2019, .s16, -400, 250, [], 1, 0, .img, .c2, 1⟩,
    ⟨0x201a, .s16, 250, 600, [], 1, 450, .img, .c2, 1⟩,
    ⟨0x201b, .enum, 0, 7, [255], 1, 0, .img, .c2, 1⟩] ++
  [
    ⟨0x201c, .s16, -400, 200, [], 1, 0, .img, .c2, 1⟩,
    ⟨0x201d, .s16, 200, 650, [], 1, 450, .img, .c2, 1⟩,
    ⟨0x2020, .u32, 60, 36000, [], 1, 3600, .img, .c2, 1⟩,
    ⟨0x2021, .u32, 60, 36000, [], 1, 7200, .img, .c2, 1⟩,
    ⟨0x2022, .u32, 3600, 172800, [], 1, 43200, .img, .c2, 1⟩,
    ⟨0x2023, .u32, 60, 86400, [], 1, 1800, .img, .c2, 1⟩,
    ⟨0x2024, .u32, 8000, 70000, [], 1, 9000, .img, .c2, 1⟩,
    ⟨0x2030, .enum, 0, 15, [255], 1, 255, .img, .img, 1⟩,
    ⟨0x2031, .enum, 0, 1, [], 1, 0, .img, .img, 1⟩,
    ⟨0x2032, .u8, 1, 10, [], 1, 3, .img, .c2, 1⟩,
    ⟨0x2033, .enum, 0, 1, [], 1, 0, .img, .c2, 1⟩,
    ⟨0x2034, .bool, 0, 1, [], 1, 1, .img, .c2, 1⟩,
    ⟨0x2040, .enum, 0, 255, [], 1, 0, .por, .ro, 1⟩,
    ⟨0x2041, .u8, 0, 255, [], 1, 0, .por, .ro, 1⟩,
    ⟨0x2042, .u32, 0, 4294967295, [], 1, 0, .por, .ro, 1⟩,
    ⟨0x2043, .enum, 1, 3, [0], 1, 0, .nvm, .ro, 1⟩,
    ⟨0x2044, .u32, 0, 4294967295, [], 1, 0, .nvm, .ro, 1⟩]

/-- Parameter rows, block VR. -/
def rowsVr : List PInfo :=
  [
    ⟨0x1, .u32, 300, 60000, [], 1, 1200, .img, .c1, 1⟩,
    ⟨0x2, .enum, 1, 2, [4], 1, 1, .img, .img, 1⟩,
    ⟨0x3, .u32, 1000, 20000, [], 1, 1000, .img, .img, 1⟩,
    ⟨0x4, .u32, 1000, 20000, [], 1, 1000, .img, .img, 1⟩,
    ⟨0x5, .u16, 0, 2000, [], 1, 0, .img, .img, 1⟩,
    ⟨0x6, .enum, 0, 1, [], 1, 0, .img, .img, 1⟩,
    ⟨0x7, .u32, 0, 100000, [], 1, 0, .img, .c2, 1⟩,
    ⟨0x8, .u16, 100, 2000, [], 1, 500, .img, .img, 1⟩,
    ⟨0x9, .u16, 40, 1000, [], 1, 80, .img, .img, 1⟩,
    ⟨0xa, .u8, 8, 96, [], 8, 32, .img, .c2, 1⟩,
    ⟨0xb, .u8, 1, 64, [], 1, 10, .img, .c2, 1⟩,
    ⟨0xc, .u32, 8000, 75000, [], 1, 48000, .img, .c2, 1⟩,
    ⟨0xd, .u32, 6000, 75000, [], 1, 9000, .img, .c2, 1⟩,
    ⟨0x10, .u32, 100, 50000, [], 1, 2000, .img, .c2, 1⟩,
    ⟨0x11, .bool, 0, 1, [], 1, 0, .img, .c2, 1⟩,
    ⟨0x12, .enum, 0, 1, [], 1, 1, .img, .c2, 1⟩,
    ⟨0x13, .u16, 1, 60000, [], 1, 1000, .img, .c2, 1⟩,
    ⟨0x14, .u8, 1, 50, [], 1, 10, .img, .c2, 1⟩,
    ⟨0x15, .u32, 10, 30000, [], 1, 1000, .img, .c2, 1⟩,
    ⟨0x20, .u32, 500, 100000, [], 1, 10000, .img, .c2, 1⟩,
    ⟨0x21, .u32, 500, 120000, [], 1, 15000, .img, .c2, 1⟩,
    ⟨0x22, .u16, 20, 200, [], 1, 40, .img, .c2, 1⟩,
    ⟨0x23, .u32, 0, 50000, [], 1, 5000, .img, .c2, 1⟩,
    ⟨0x24, .u8, 5, 30, [], 1, 12, .img, .c2, 1⟩] ++
  [
    ⟨0x25, .enum, 0, 1, [], 1, 0, .img, .c2, 1⟩,
    ⟨0x26, .u8, 5, 50, [], 1, 20, .img, .c2, 1⟩,
    ⟨0x27, .u16, 10, 10000, [], 1, 100, .img, .c2, 1⟩,
    ⟨0x28, .enum, 0, 2, [], 1, 1, .img, .c2, 1⟩,
    ⟨0x29, .u8, 0, 15, [], 1, 7, .img, .c2, 1⟩,
    ⟨0x2a, .u8, 1, 8, [], 1, 1, .img, .c2, 1⟩,
    ⟨0x30, .u16, 10, 300, [], 1, 80, .img, .c2, 1⟩,
    ⟨0x31, .u16, 10, 300, [], 1, 80, .img, .c2, 1⟩,
    ⟨0x32, .u16, 0, 100, [], 1, 20, .img, .c2, 1⟩,
    ⟨0x33, .u16, 1, 1000, [], 1, 16, .img, .c2, 1⟩,
    ⟨0x38, .u32, 0, 604800, [], 1, 3600, .img, .c2, 1⟩,
    ⟨0x40, .enum, 0, 255, [], 1, 0, .por, .ro, 1⟩,
    ⟨0x41, .u32, 0, 4294967295, [], 1, 0, .por, .ro, 1⟩,
    ⟨0x42, .u32, 0, 4294967295, [], 1, 0, .por, .ro, 1⟩,
    ⟨0x43, .u8, 0, 255, [], 1, 0, .por, .ro, 1⟩,
    ⟨0x44, .tbl, 0, 4294967295, [], 1, 0, .por, .ro, 8⟩]

/-- Parameter rows, block PH. -/
def rowsPh : List PInfo :=
  [
    ⟨0x0, .u32, 500, 20000, [], 1, 5000, .img, .img, 1⟩,
    ⟨0x1, .u16, 200, 1500, [], 1, 800, .img, .img, 1⟩,
    ⟨0x2, .u32, 50, 100000, [], 1, 1000, .img, .img, 1⟩,
    ⟨0x3, .u32, 100, 100000, [], 1, 2000, .img, .img, 1⟩,
    ⟨0x4, .u32, 0, 4294967295, [], 1, 0, .nvm, .ro, 1⟩,
    ⟨0x5, .u32, 0, 4294967295, [], 1, 0, .nvm, .ro, 1⟩,
    ⟨0x6, .enum, 0, 255, [], 1, 0, .por, .ro, 1⟩]

/-- Parameter rows, block LDO. -/
def rowsLdo : List PInfo :=
  [
    ⟨0x0, .u16, 800, 3300, [], 10, 1800, .img, .c1, 1⟩,
    ⟨0x1, .enum, 0, 1, [], 1, 0, .img, .img, 1⟩,
    ⟨0x2, .u16, 100, 5000, [], 1, 500, .img, .c2, 1⟩,
    ⟨0x3, .bool, 0, 1, [], 1, 1, .img, .c2, 1⟩,
    ⟨0x4, .enum, 0, 1, [], 1, 0, .img, .c2, 1⟩,
    ⟨0x5, .enum, 0, 255, [], 1, 0, .por, .ro, 1⟩]

/-- Parameter rows, block vr. -/
def rowsGlobalVr : List PInfo :=
  [
    ⟨0x3f00, .tbl, 0, 4294967295, [], 1, 0, .img, .img, 12⟩,
    ⟨0x3f01, .u8, 5, 100, [], 1, 25, .img, .c2, 1⟩,
    ⟨0x3f02, .u8, 10, 200, [], 1, 50, .img, .c2, 1⟩,
    ⟨0x3f03, .u32, 10000, 75000, [], 1, 70000, .img, .c2, 1⟩]

/-- Parameter rows, block seq. -/
def rowsGlobalSeq : List PInfo :=
  [
    ⟨0x4001, .u8, 0, 7, [], 1, 2, .img, .c2, 1⟩,
    ⟨0x4002, .u32, 0, 60000, [], 1, 1000, .img, .c2, 1⟩,
    ⟨0x4003, .u32, 0, 60000, [], 1, 1000, .img, .c2, 1⟩,
    ⟨0x4004, .enum, 0, 1, [], 1, 0, .img, .c2, 1⟩,
    ⟨0x4005, .bool, 0, 1, [], 1, 0, .img, .img, 1⟩,
    ⟨0x4006, .u8, 0, 40, [], 1, 40, .img, .img, 1⟩,
    ⟨0x4007, .u32, 0, 4294967295, [], 1, 1985229328, .img, .c2, 1⟩,
    ⟨0x4010, .tbl, 0, 4294967295, [], 1, 0, .img, .img, 8⟩,
    ⟨0x4011, .tbl, 0, 4294967295, [], 1, 0, .img, .img, 256⟩,
    ⟨0x4020, .u32, 0, 4294967295, [], 1, 4294967295, .chip, .ro, 1⟩,
    ⟨0x4021, .u32, 0, 8, [], 1, 0, .chip, .ro, 1⟩]

/-- Parameter rows, block MON. -/
def rowsMon : List PInfo :=
  [
    ⟨0x0, .u32, 1000, 40000, [], 1, 1000, .img, .img, 1⟩,
    ⟨0x1, .u32, 0, 81840, [], 1, 0, .img, .c2, 1⟩,
    ⟨0x2, .u32, 0, 81840, [], 1, 0, .img, .c2, 1⟩,
    ⟨0x3, .u16, 0, 5000, [], 1, 20, .img, .c2, 1⟩,
    ⟨0x4, .u32, 2, 81840, [], 1, 100, .img, .c2, 1⟩,
    ⟨0x5, .u16, 0, 1000, [], 1, 0, .img, .c2, 1⟩,
    ⟨0x6, .u8, 0, 7, [], 1, 0, .img, .c2, 1⟩,
    ⟨0x7, .u8, 0, 7, [], 1, 0, .img, .c2, 1⟩,
    ⟨0x8, .u8, 0, 0x2F, [0xFF], 1, 255, .img, .c2, 1⟩,
    ⟨0x9, .u16, 0, 60000, [], 1, 10, .img, .c2, 1⟩,
    ⟨0xa, .u8, 0, 255, [], 1, 0, .por, .ro, 1⟩]

/-- Parameter rows, block EN. -/
def rowsEn : List PInfo :=
  [
    ⟨0x0, .enum, 0, 1, [], 1, 0, .img, .img, 1⟩,
    ⟨0x1, .enum, 0, 1, [], 1, 0, .img, .img, 1⟩,
    ⟨0x2, .u8, 0, 31, [255], 1, 255, .img, .img, 1⟩,
    ⟨0x3, .u16, 1, 60000, [], 1, 100, .img, .c2, 1⟩,
    ⟨0x4, .u16, 1, 60000, [], 1, 100, .img, .c2, 1⟩,
    ⟨0x5, .enum, 0, 0, [1, 3], 1, 0, .por, .ro, 1⟩]

/-- Parameter rows, block est. -/
def rowsGlobalEst : List PInfo :=
  [
    ⟨0x5001, .enum, 0, 1, [], 1, 0, .img, .img, 1⟩,
    ⟨0x5002, .u32, 50, 10000, [], 1, 500, .img, .img, 1⟩,
    ⟨0x5003, .s32, -5000, 5000, [], 1, 0, .img, .c2, 1⟩,
    ⟨0x5004, .u32, 10, 10000, [], 1, 200, .img, .c2, 1⟩,
    ⟨0x5005, .u16, 10, 3600, [], 1, 60, .img, .c2, 1⟩,
    ⟨0x5006, .bool, 0, 1, [], 1, 1, .img, .c2, 1⟩,
    ⟨0x5007, .u16, 1, 600, [], 1, 2, .img, .c2, 1⟩,
    ⟨0x5008, .u8, 2, 10, [], 1, 5, .img, .c2, 1⟩,
    ⟨0x5009, .u32, 500, 10000, [], 1, 500, .img, .c2, 1⟩,
    ⟨0x500a, .u32, 100, 1000000, [], 1, 10000, .img, .img, 1⟩,
    ⟨0x500b, .u16, 100, 5000, [], 1, 1000, .img, .c2, 1⟩,
    ⟨0x500c, .u16, 1500, 3000, [0], 1, 0, .img, .c2, 1⟩,
    ⟨0x500d, .u16, 10, 500, [], 1, 100, .img, .c2, 1⟩,
    ⟨0x500e, .u16, 10, 10000, [], 1, 1000, .img, .c2, 1⟩,
    ⟨0x500f, .enum, 0, 2, [], 1, 1, .img, .c2, 1⟩,
    ⟨0x5010, .u32, 100, 200000, [], 1, 10000, .img, .c2, 1⟩,
    ⟨0x5011, .u16, 30, 480, [], 1, 180, .img, .c2, 1⟩,
    ⟨0x5012, .u16, 1, 480, [], 1, 60, .img, .c2, 1⟩,
    ⟨0x5013, .u16, 1, 480, [], 1, 20, .img, .c2, 1⟩,
    ⟨0x5014, .u16, 1, 480, [], 1, 5, .img, .c2, 1⟩,
    ⟨0x5015, .u16, 1, 60, [], 1, 5, .img, .c2, 1⟩,
    ⟨0x5016, .u32, 0, 10000, [], 1, 1000, .img, .c2, 1⟩,
    ⟨0x5017, .u16, 1, 168, [], 1, 24, .img, .c2, 1⟩,
    ⟨0x5018, .u16, 100, 2000, [], 1, 500, .img, .c2, 1⟩] ++
  [
    ⟨0x5019, .u16, 1, 600, [], 1, 60, .img, .c2, 1⟩,
    ⟨0x501a, .u32, 1000, 2000000, [], 1, 500000, .img, .c2, 1⟩,
    ⟨0x5020, .tbl, 0, 4294967295, [], 1, 0, .img, .img, 86⟩,
    ⟨0x5021, .tbl, 0, 4294967295, [], 1, 0, .img, .img, 26⟩,
    ⟨0x5022, .tbl, 0, 4294967295, [], 1, 0, .img, .img, 46⟩,
    ⟨0x5024, .tbl, 0, 4294967295, [], 1, 0, .nvm, .ro, 86⟩,
    ⟨0x5025, .tbl, 0, 4294967295, [], 1, 0, .nvm, .ro, 26⟩,
    ⟨0x5026, .tbl, 0, 4294967295, [], 1, 0, .nvm, .ro, 46⟩,
    ⟨0x5030, .u16, 0, 10000, [], 1, 0, .nvm, .ro, 1⟩,
    ⟨0x5031, .u16, 0, 10000, [], 1, 0, .nvm, .ro, 1⟩,
    ⟨0x5032, .u32, 0, 4294967295, [], 1, 0, .nvm, .ro, 1⟩,
    ⟨0x5033, .u32, 0, 4294967295, [], 1, 0, .nvm, .ro, 1⟩,
    ⟨0x5034, .u32, 1000, 2000000, [], 1, 0, .nvm, .ro, 1⟩,
    ⟨0x5035, .u32, 0, 4294967295, [], 1, 0, .nvm, .ro, 1⟩,
    ⟨0x5036, .u32, 0, 4294967295, [], 1, 0, .por, .ro, 1⟩,
    ⟨0x5037, .s16, -10000, 10000, [], 1, 0, .nvm, .ro, 1⟩,
    ⟨0x5038, .s16, -10000, 32767, [], 1, 0, .nvm, .ro, 1⟩,
    ⟨0x5040, .bool, 0, 1, [], 1, 1, .img, .c2, 1⟩,
    ⟨0x5041, .u16, 10, 600, [], 1, 30, .img, .c2, 1⟩,
    ⟨0x5042, .u8, 1, 28, [], 1, 1, .img, .c2, 1⟩,
    ⟨0x5043, .u16, 0, 1439, [], 1, 600, .img, .c2, 1⟩,
    ⟨0x5044, .bool, 0, 1, [], 1, 1, .img, .c2, 1⟩,
    ⟨0x5045, .enum, 0, 1, [], 1, 1, .img, .c2, 1⟩,
    ⟨0x5046, .u8, 1, 12, [], 1, 3, .img, .c2, 1⟩] ++
  [
    ⟨0x5047, .u8, 1, 28, [], 1, 1, .img, .c2, 1⟩,
    ⟨0x5048, .u16, 0, 1439, [], 1, 600, .img, .c2, 1⟩,
    ⟨0x5049, .u8, 1, 72, [], 1, 24, .img, .c2, 1⟩,
    ⟨0x504a, .u8, 1, 28, [], 1, 7, .img, .c2, 1⟩,
    ⟨0x504b, .u16, 0, 65535, [], 1, 0, .img, .c2, 1⟩]

/-- Parameter rows, block acq. -/
def rowsGlobalAcq : List PInfo :=
  [
    ⟨0x6001, .bool, 0, 1, [], 1, 0, .img, .img, 1⟩,
    ⟨0x6002, .enum, 0, 3, [], 1, 0, .img, .c2, 1⟩,
    ⟨0x6003, .bool, 0, 1, [], 1, 1, .img, .c2, 1⟩,
    ⟨0x6004, .u8, 0, 15, [], 1, 15, .img, .img, 1⟩,
    ⟨0x6005, .u16, 0, 65535, [], 1, 768, .img, .img, 1⟩,
    ⟨0x6006, .u16, 200, 10000, [], 1, 1000, .img, .c2, 1⟩,
    ⟨0x6007, .enum, 1, 1, [4, 16, 64], 1, 16, .img, .c2, 1⟩,
    ⟨0x6008, .u16, 1, 250, [], 1, 200, .img, .c2, 1⟩,
    ⟨0x6009, .bool, 0, 1, [], 1, 1, .img, .c2, 1⟩,
    ⟨0x600a, .u32, 0, 4294967295, [], 1, 0, .chip, .ro, 1⟩,
    ⟨0x600b, .u16, 0, 65535, [], 1, 0, .chip, .ro, 1⟩,
    ⟨0x6010, .u32, 100, 4000000000, [], 1, 1000000, .img, .c2, 1⟩,
    ⟨0x6011, .u32, 100, 4000000000, [], 1, 1000000, .img, .c2, 1⟩,
    ⟨0x6012, .u32, 100, 4000000000, [], 1, 1000000, .img, .c2, 1⟩,
    ⟨0x6013, .u32, 100, 4000000000, [], 1, 1000000, .img, .c2, 1⟩]

/-- Parameter rows, block ACQ_CC. -/
def rowsAcqCc : List PInfo :=
  [
    ⟨0x0, .u8, 0, 111, [255], 1, 255, .img, .c2, 1⟩,
    ⟨0x1, .u16, 0, 1023, [], 1, 512, .img, .c2, 1⟩,
    ⟨0x2, .u16, 0, 255, [], 1, 8, .img, .c2, 1⟩,
    ⟨0x3, .enum, 0, 1, [], 1, 0, .img, .c2, 1⟩,
    ⟨0x4, .u16, 0, 1000, [], 1, 0, .img, .c2, 1⟩,
    ⟨0x5, .u8, 0, 7, [255], 1, 255, .img, .c2, 1⟩,
    ⟨0x6, .u8, 0, 255, [], 1, 0, .chip, .ro, 1⟩]

/-- Parameter rows, block ACQ_RW. -/
def rowsAcqRw : List PInfo :=
  [
    ⟨0x0, .u8, 0, 111, [255], 1, 255, .img, .c2, 1⟩,
    ⟨0x1, .s16, -16384, 32767, [], 1, -16384, .img, .c2, 1⟩,
    ⟨0x2, .s16, -16384, 32767, [], 1, 32767, .img, .c2, 1⟩,
    ⟨0x3, .u8, 0, 255, [], 1, 0, .chip, .ro, 1⟩]

/-- Parameter rows, block therm. -/
def rowsGlobalTherm : List PInfo :=
  [
    ⟨0x7001, .s16, 850, 1400, [], 1, 1150, .img, .c2, 1⟩,
    ⟨0x7002, .s16, 950, 1450, [], 1, 1250, .img, .c2, 1⟩,
    ⟨0x7003, .s16, 1250, 1650, [], 1, 1500, .img, .img, 1⟩,
    ⟨0x7004, .u16, 10, 200, [], 1, 50, .img, .c2, 1⟩,
    ⟨0x7005, .u16, 10, 200, [], 1, 50, .img, .c2, 1⟩,
    ⟨0x7006, .u16, 10, 200, [], 1, 50, .img, .img, 1⟩,
    ⟨0x7007, .u8, 0, 7, [], 1, 7, .img, .c2, 1⟩,
    ⟨0x7008, .u8, 10, 90, [], 1, 50, .img, .c2, 1⟩,
    ⟨0x7009, .u32, 15000, 240000, [], 1, 60000, .img, .c2, 1⟩,
    ⟨0x7010, .u32, 0, 4294967295, [], 1, 0, .por, .ro, 1⟩,
    ⟨0x7011, .u8, 0, 255, [], 1, 0, .por, .ro, 1⟩,
    ⟨0x7012, .u16, 0, 65535, [], 1, 0, .chip, .ro, 1⟩,
    ⟨0x7013, .u16, 0, 65535, [], 1, 0, .chip, .ro, 1⟩]

/-- Parameter rows, block TSNS. -/
def rowsTsns : List PInfo :=
  [
    ⟨0x0, .enum, 0, 2, [], 1, 0, .img, .img, 1⟩,
    ⟨0x1, .u32, 1000, 100000, [], 1, 10000, .img, .img, 1⟩,
    ⟨0x2, .u16, 2000, 6000, [], 1, 3435, .img, .img, 1⟩,
    ⟨0x3, .u16, 1000, 1100, [], 1, 1008, .img, .img, 1⟩,
    ⟨0x4, .s16, -400, 1500, [], 1, 600, .img, .c2, 1⟩,
    ⟨0x5, .s16, -400, 1500, [], 1, 700, .img, .c2, 1⟩,
    ⟨0x6, .s16, -400, 1500, [], 1, 850, .img, .c2, 1⟩,
    ⟨0x7, .u16, 10, 200, [], 1, 50, .img, .c2, 1⟩,
    ⟨0x8, .u16, 10, 200, [], 1, 50, .img, .c2, 1⟩,
    ⟨0x9, .u16, 10, 200, [], 1, 50, .img, .c2, 1⟩,
    ⟨0xa, .u8, 0, 255, [], 1, 0, .chip, .ro, 1⟩]

/-- Parameter rows, block THERM_Z. -/
def rowsThermZ : List PInfo :=
  [
    ⟨0x0, .u16, 0, 65535, [], 1, 65535, .img, .img, 1⟩,
    ⟨0x1, .u64, 0, 281474976710655, [], 1, 0, .img, .img, 2⟩,
    ⟨0x2, .u8, 0, 7, [], 1, 1, .img, .c2, 1⟩,
    ⟨0x3, .u8, 10, 90, [], 1, 50, .img, .c2, 1⟩]

/-- Parameter rows, block pd. -/
def rowsGlobalPd : List PInfo :=
  [
    ⟨0x8001, .u16, 4000, 10000, [], 1, 4000, .img, .c2, 1⟩,
    ⟨0x8002, .u16, 100, 5000, [], 1, 500, .img, .c2, 1⟩,
    ⟨0x8003, .u16, 10, 1000, [], 1, 20, .img, .c2, 1⟩,
    ⟨0x8004, .u16, 0, 65535, [], 1, 0, .por, .ro, 1⟩]

/-- Parameter rows, block PD. -/
def rowsPd : List PInfo :=
  [
    ⟨0x1, .enum, 0, 3, [], 1, 0, .img, .img, 1⟩,
    ⟨0x2, .enum, 0, 2, [], 1, 2, .img, .c2, 1⟩,
    ⟨0x3, .u8, 0, 11, [255], 1, 255, .img, .img, 1⟩,
    ⟨0x4, .tbl, 0, 4294967295, [], 1, 0, .img, .img, 11⟩,
    ⟨0x5, .u32, 15000, 240000, [], 1, 100000, .img, .c2, 1⟩,
    ⟨0x6, .u32, 5000, 48000, [], 1, 5000, .img, .c2, 1⟩,
    ⟨0x7, .u32, 5000, 48000, [], 1, 48000, .img, .c2, 1⟩,
    ⟨0x8, .u32, 500, 5000, [], 1, 5000, .img, .c2, 1⟩,
    ⟨0x9, .u32, 0, 240000, [], 1, 0, .img, .c2, 1⟩,
    ⟨0xa, .bool, 0, 1, [], 1, 1, .img, .c2, 1⟩,
    ⟨0xb, .bool, 0, 1, [], 1, 1, .img, .c2, 1⟩,
    ⟨0xc, .u32, 1000, 100000, [], 1, 10000, .img, .img, 1⟩,
    ⟨0xd, .u32, 1000, 100000, [], 1, 10000, .img, .img, 1⟩,
    ⟨0xe, .u8, 110, 200, [], 1, 125, .img, .c2, 1⟩,
    ⟨0xf, .u16, 10, 1000, [], 1, 100, .img, .c2, 1⟩,
    ⟨0x10, .bool, 0, 1, [], 1, 1, .img, .c2, 1⟩,
    ⟨0x11, .bool, 0, 1, [], 1, 1, .img, .c2, 1⟩,
    ⟨0x12, .bool, 0, 1, [], 1, 1, .img, .c2, 1⟩,
    ⟨0x13, .u8, 1, 15, [], 1, 3, .img, .c2, 1⟩,
    ⟨0x14, .bool, 0, 1, [], 1, 1, .img, .c2, 1⟩,
    ⟨0x20, .enum, 0, 255, [], 1, 0, .chip, .ro, 1⟩,
    ⟨0x21, .u32, 0, 48000, [], 1, 0, .chip, .ro, 1⟩,
    ⟨0x22, .u32, 0, 5000, [], 1, 0, .chip, .ro, 1⟩,
    ⟨0x23, .u32, 0, 4294967295, [], 1, 0, .chip, .ro, 1⟩]

/-- Parameter rows, block selv. -/
def rowsGlobalSelv : List PInfo :=
  [
    ⟨0x9001, .tbl, 0, 4294967295, [], 1, 0x00010001, .img, .img, 272⟩,
    ⟨0x9002, .u16, 0, 10000, [], 1, 1000, .img, .c2, 1⟩,
    ⟨0x9003, .u32, 0, 4294967295, [], 1, 0, .por, .ro, 1⟩,
    ⟨0x9004, .u32, 0, 4294967295, [], 1, 0, .por, .ro, 1⟩,
    ⟨0x9005, .u32, 0, 4294967295, [], 1, 0, .por, .ro, 1⟩,
    ⟨0x9006, .u32, 0, 4294967295, [], 1, 0, .por, .ro, 1⟩,
    ⟨0x9007, .u8, 0, 4, [], 1, 0, .chip, .ro, 1⟩]

/-- Parameter rows, block eic. -/
def rowsGlobalEic : List PInfo :=
  [
    ⟨0x9010, .u8, 1, 255, [], 1, 50, .img, .c2, 1⟩,
    ⟨0x9011, .bool, 0, 1, [], 1, 1, .img, .c2, 1⟩]

/-- Parameter rows, block evt. -/
def rowsGlobalEvt : List PInfo :=
  [
    ⟨0x9020, .u16, 0, 0x1FFF, [], 1, 8191, .img, .c2, 1⟩,
    ⟨0x9021, .u16, 0, 0x1FFF, [], 1, 8191, .img, .c2, 1⟩,
    ⟨0x9022, .u16, 0, 0x1FFF, [], 1, 8191, .img, .c2, 1⟩]

/-- Parameter rows, block EIC_SRC. -/
def rowsEicSrc : List PInfo :=
  [
    ⟨0x0, .u32, 0, 4294967295, [], 1, 0, .img, .c2, 1⟩]

/-- Parameter rows, block GPIO_CFG. -/
def rowsGpioCfg : List PInfo :=
  [
    ⟨0x0, .u32, 0, 4294967295, [], 1, 0, .img, .img, 1⟩]

/-- Parameter rows, block GPIO_OUT. -/
def rowsGpioOut : List PInfo :=
  [
    ⟨0x0, .bool, 0, 1, [], 1, 0, .img, .c1, 1⟩]

/-- Parameter rows, block wdg. -/
def rowsGlobalWdg : List PInfo :=
  [
    ⟨0xa001, .u32, 1, 3600, [], 1, 60, .img, .c2, 1⟩,
    ⟨0xa002, .u8, 1, 15, [], 1, 3, .img, .img, 1⟩,
    ⟨0xa003, .u16, 10, 1000, [], 1, 100, .img, .img, 1⟩,
    ⟨0xa010, .u32, 0, 4294967295, [], 1, 0, .por, .ro, 1⟩,
    ⟨0xa011, .u32, 0, 4294967295, [], 1, 0, .por, .ro, 1⟩]

/-- Parameter rows, block nvm. -/
def rowsGlobalNvm : List PInfo :=
  [
    ⟨0xb001, .u32, 6000, 20000, [], 1, 8000, .img, .img, 1⟩,
    ⟨0xb002, .u16, 0, 0x1FFF, [], 1, 3743, .img, .c2, 1⟩,
    ⟨0xb003, .u8, 0, 17, [], 1, 0, .nvm, .ro, 1⟩]

/-- Parameter rows, block kettle. -/
def rowsGlobalKettle : List PInfo :=
  [
    ⟨0xb004, .u16, 51, 10000, [], 1, 51, .img, .c2, 1⟩,
    ⟨0xb005, .u16, 0, 65535, [], 1, 0, .chip, .ro, 1⟩]

/-- Parameter rows, block otp. -/
def rowsGlobalOtp : List PInfo :=
  [
    ⟨0xb010, .enum, 0, 1, [], 1, 0, .img, .c2, 1⟩]

/-- Parameter rows, block fw. -/
def rowsGlobalFw : List PInfo :=
  [
    ⟨0xb020, .u32, 0, 4294967295, [], 1, 0, .chip, .ro, 1⟩]

/-- Parameter rows, block rtc. -/
def rowsGlobalRtc : List PInfo :=
  [
    ⟨0xc001, .bool, 0, 1, [], 1, 1, .img, .c2, 1⟩]

/-- The parameters that are not instanced. -/
def rowsGlobal : List PInfo :=
  rowsGlobalSys ++ rowsGlobalHif ++ rowsGlobalSrc ++ rowsGlobalChg ++ rowsGlobalVr ++ rowsGlobalSeq ++ rowsGlobalEst ++ rowsGlobalAcq ++ rowsGlobalTherm ++ rowsGlobalPd ++ rowsGlobalSelv ++ rowsGlobalEic ++ rowsGlobalEvt ++ rowsGlobalWdg ++ rowsGlobalNvm ++ rowsGlobalKettle ++ rowsGlobalOtp ++ rowsGlobalFw ++ rowsGlobalRtc

/-- The row of offset `off` in an instance's table. -/
def rowAt (rows : List PInfo) (off : Nat) : Option PInfo := rows.find? (·.id == off)

/-- An instance of a strided table: base, stride, number of instances (R462). -/
def inInst (id base stride n : Nat) : Bool := decide (base ≤ id) && decide (id < base + stride * n)

/-- The row of a parameter ID; `none` for an ID that no table names (R462). -/
def paramInfo (id : Nat) : Option PInfo :=
  if inInst id 0x1010 0x10 2 then rowAt rowsSrcDc ((id - 0x1010) % 0x10)
  else if inInst id 0x3000 0x100 12 then rowAt rowsVr ((id - 0x3000) % 0x100)
  else if inInst id 0x3C00 0x10 8 then rowAt rowsLdo ((id - 0x3C00) % 0x10)
  else if inInst id 0x3D00 0x08 24 then rowAt rowsPh ((id - 0x3D00) % 0x08)
  else if inInst id 0x4100 0x10 32 then rowAt rowsMon ((id - 0x4100) % 0x10)
  else if inInst id 0x4400 0x08 16 then rowAt rowsEn ((id - 0x4400) % 0x08)
  else if inInst id 0x6100 0x08 32 then rowAt rowsAcqCc ((id - 0x6100) % 0x08)
  else if inInst id 0x6200 0x04 16 then rowAt rowsAcqRw ((id - 0x6200) % 0x04)
  else if inInst id 0x7100 0x10 8 then rowAt rowsTsns ((id - 0x7100) % 0x10)
  else if inInst id 0x7200 0x08 8 then rowAt rowsThermZ ((id - 0x7200) % 0x08)
  else if inInst id 0x8100 0x100 2 then rowAt rowsPd ((id - 0x8100) % 0x100)
  else if inInst id 0x9100 1 256 then rowAt rowsEicSrc 0
  else if inInst id 0x9400 1 16 then rowAt rowsGpioCfg 0
  else if inInst id 0x9410 1 16 then rowAt rowsGpioOut 0
  else rowAt rowsGlobal id

end Sys2Proof.Machine
end

