-- ==== Sys2Proof/Machine/StateHost.lean ====
section
/-! DEFINITION. State of the host interface and of the system: ports, slots, modes, start-up progress, resets, clocks,
power states, the draft (chapters 01, 02, 03). Every docstring ends with width, rule, file and reset value. -/

namespace Sys2Proof.Machine

/-- Device modes, codes of HIF_STATUS.MODE (chapter 03). -/
inductive Mode where | startUp | normal | test | recovery
deriving DecidableEq, Repr

/-- Services, codes of HIF_STATUS.SERVICE; `limpSafe` is limp service in Safe Hold (chapter 03). -/
inductive Service where | early | full | limp | limpSafe
deriving DecidableEq, Repr

/-- Session states, codes of HIF_SESSION.STATE (chapter 03). -/
inductive SessState where | closed | resetting | ready | opened
deriving DecidableEq, Repr

/-- Power states (R64). -/
inductive PowerState where | run | doze | deepSleep | ship
deriving DecidableEq, Repr

/-- The states POWER_STATE and CUTOFF ask for (R464, R259). -/
inductive SleepKind where | deepSleep | ship
deriving DecidableEq, Repr

/-- Where a command slot stands. -/
inductive SlotStatus where
  /-- Marked deferred by admission (R90, R92). -/
  | deferred
  /-- Admitted; its handler has not run. -/
  | admitted
  /-- Its effect has begun; its completion waits for the sequencer, a rail or a reset. -/
  | running
  /-- Finished; the completion waits for a free completion queue entry (R83). -/
  | finished (ws : List W)
deriving DecidableEq, Repr

/-- One of the 256 command slots (R85, R86). -/
structure Slot where
  /-- The port that submitted the command. -/
  port : Port
  /-- Tag, opcode, class and NOTIFY of word 0. -/
  tag : Tag
  op : Nat
  cls : Nat
  notify : Bool
  /-- Payload words found at acceptance (R84). -/
  payload : List W
  /-- Device time of acceptance, us. -/
  tAcc : Nat
  /-- The completion carries DEFERRED (R90). -/
  deferred : Bool
  /-- Declared wait computed at acceptance, in 10 us ticks (R89, R224). -/
  waitTicks : Nat
  status : SlotStatus
deriving DecidableEq, Repr

/-- What each port has of its own (R70). The internal port has slots and credits, and no window. -/
structure PortState where
  /-- HIF_SESSION.STATE. [4; R80, 03; reset CLOSED] -/
  sess : SessState := .closed
  /-- HIF_SESSION.SNUM. [8; R80, 03; reset 0] -/
  snum : BitVec 8 := 0
  /-- HIF_STATUS.BUSY. [1; R97, 03; reset 0] -/
  busy : Bool := false
  /-- HIF_STATUS.CQ_WAIT. [1; R83, 03; reset 0] -/
  cqWait : Bool := false
  /-- HIF_STATUS.EVQ_DROP. [1; R82, 03; reset 0] -/
  evqDrop : Bool := false
  /-- HIF_STATUS.NOCREDIT. [1; R85, 03; reset 0] -/
  noCredit : Bool := false
  /-- HIF_STATUS.IDX_ERR. [1; R84, 03; reset 0] -/
  idxErr : Bool := false
  /-- HIF_STATUS.ADDR_ERR. [1; R74, 03; reset 0] -/
  addrErr : Bool := false
  /-- HIF_STATUS.FRM_ERR. [1; R74, 03; reset 0] -/
  frmErr : Bool := false
  /-- HIF_STATUS.CRC_ERR. [1; R74, 03; reset 0] -/
  crcErr : Bool := false
  /-- HIF_STATUS.PEC_ERR. [1; R77, 03; reset 0] -/
  pecErr : Bool := false
  /-- HIF_STATUS.CRC_COUNT. [8, saturating; R74, 03; reset 0] -/
  crcCount : Nat := 0
  /-- HIF_CREDITS.ALLOC. [8; R87, 03; reset port default 128, 64, 16, 48] -/
  alloc : Nat := 0
  /-- HIF_CREDITS.AVAIL. [8; R86, 03; reset port default] -/
  avail : Nat := 0
  /-- SQ_TAIL.TAIL. [6; R84, 03; reset 0] -/
  sqTail : BitVec 6 := 0
  /-- SQ_DOORBELL.HEAD. [6; R85, 03; reset 0] -/
  sqHead : BitVec 6 := 0
  /-- CQ_HEAD.HEAD. [6; R84, 03; reset 0] -/
  cqHead : BitVec 6 := 0
  /-- CQ_TAIL.TAIL. [6; R83, 03; reset 0] -/
  cqTail : BitVec 6 := 0
  /-- EVQ_HEAD.HEAD. [6; R84, 03; reset 0] -/
  evqHead : BitVec 6 := 0
  /-- EVQ_TAIL.TAIL. [6; R82, 03; reset 0] -/
  evqTail : BitVec 6 := 0
  /-- EVQ_TAIL.DROPPED. [8, saturating; R82, 03; reset 0] -/
  dropped : Nat := 0
  /-- Event sequence number of the next event. [16; R82, 03; reset 0] -/
  evSeq : BitVec 16 := 0
  /-- IRQ_MASK. [6; R95, 03; reset 0x25] -/
  irqMask : BitVec 6 := 0x25
  /-- Submission queue, 64 entries of 64 bytes. [4 KB; R81, 03; reset cleared] -/
  sqMem : Mem := []
  /-- Completion queue, 64 entries of 64 bytes. [4 KB; R83, 03; reset cleared] -/
  cqMem : Mem := []
  /-- Event queue, 64 entries of 16 bytes. [1 KB; R82, 03; reset cleared] -/
  evqMem : Mem := []
  /-- TAIL as of the last doorbell: the entries from HEAD up to it are presented (R84, R85). [6; R85, 03; reset 0] -/
  sqPres : BitVec 6 := 0
  /-- Old values of submission words rewritten while presented: word index to old word (R84). [sparse; R84, 03;
  reset empty] -/
  sqOld : Sparse W := []
  /-- Which posted completion entries belong to a command with NOTIFY. [64; R95, 03; reset 0] -/
  cqNotify : BitVec 64 := 0
  /-- Which posted completion entries are system-generated. [64; R95, 03; reset 0] -/
  cqSysgen : BitVec 64 := 0
  /-- Trailer the port last drove for a failed read check (R74); `none` before any. [16; R74, 03; reset none] -/
  badTrailer : Option (BitVec 16) := none
  /-- A chip-reset notice is still to be posted (R96). [1; R96, 03; reset false] -/
  noticeDue : Bool := false
deriving DecidableEq, Repr

/-- A raised host event that is not yet posted (R379). -/
structure RaisedEvent where
  code : Nat
  detail : W
  time : Nat
deriving DecidableEq, Repr

/-- The host interface (chapter 03). -/
structure Hif where
  /-- SPI A port. [struct; R70, 03] -/
  spia : PortState := { alloc := 128, avail := 128 }
  /-- SPI B port. [struct; R70, 03] -/
  spib : PortState := { alloc := 64, avail := 64 }
  /-- I2C/SMBus target. [struct; R70, 03] -/
  i2c : PortState := { alloc := 16, avail := 16 }
  /-- Internal port: credits and slots only. [struct; R87, 03] -/
  internal : PortState := { alloc := 48, avail := 48 }
  /-- Command slots in use, in acceptance order over all ports. [at most 256; R85, R94, 03; reset empty] -/
  slots : List Slot := []
  /-- Host events raised and not yet posted, oldest first. [list; R379, 12; reset empty] -/
  events : List RaisedEvent := []
  /-- I2C byte pointer. [16; R76, 03; reset DESIGN CHOICE 0 (log 1)] -/
  i2cPtr : BitVec 16 := 0
  /-- I2C target address straps ADDR1, ADDR0, sampled at POR release. [2; R76, 03; reset strap, DESIGN CHOICE 0
  until the first release (log 1)] -/
  straps : BitVec 2 := 0
  /-- HIF.I2C_PEC as in effect on the bus (R106). [1; R106, 03; reset 0] -/
  pecOn : Bool := false
  /-- An I2C transfer is in progress (R78). [1; R78, 03; reset false] -/
  i2cBusy : Bool := false
  /-- HIRQC_N was released by an Alert Response read and waits for a new reason (R95). [1; R95, 03; reset false] -/
  alertReleased : Bool := false
  /-- The address the target last answered to an Alert Response read (R95); `none` before any. [7; R95, 03; reset none] -/
  alertAnswer : Option (BitVec 7) := none
  /-- The loaded image's allocations wait for every INUSE to fit (R87). [1; R87, 03; reset false] -/
  allocPending : Bool := false
deriving DecidableEq, Repr

/-- Boot progress after POR or chip reset (R45): the stages reached. -/
structure Boot where
  /-- OTP trims loaded, shadows taken, digests checked. [1; R45, 02; reset false] -/
  otpDone : Bool := false
  /-- Host interfaces accept doorbells. [1; R50, 02; reset false] -/
  earlyOpen : Bool := false
  /-- SYS PLL locked; BUS and PD clocks run. [1; R45, 02; reset false] -/
  sysLocked : Bool := false
  /-- NVM recall complete. [1; R409, 14; reset false] -/
  recallDone : Bool := false
  /-- Secure boot complete. [1; R428, 14; reset false] -/
  bootDone : Bool := false
  /-- Configuration image loaded and reconciled. [1; R48, 02; reset false] -/
  cfgLoaded : Bool := false
  /-- ACQ PLL locked, reference settled. [1; R45, 02; reset false] -/
  acqLocked : Bool := false
  /-- Full service has been reached since the restart. [1; R45, 02; reset false] -/
  full : Bool := false
  /-- Complete rounds since the restart (R46). [1; R45, 02; reset false] -/
  firstRound : Bool := false
  /-- This start follows POR or DEEP SLEEP, so auto-start groups are due (R215). [1; R215, 07; reset true] -/
  autoDue : Bool := true
  /-- Recall found a START entry newer than the kettle set (R410). [1; R410, 14; reset false] -/
  staleRun : Bool := false
  /-- This start follows POR, so a START entry is due (R410). [1; R410, 14; reset true] -/
  startEntryDue : Bool := true
deriving DecidableEq, Repr

/-- The marks of the clock monitor on the watched clocks: their stop is planned and is ignored (R59). -/
structure PlannedStops where
  /-- SYS, and BUS and PD through it. [1; R59, 02; reset false] -/
  sys : Bool := false
  /-- ACQ. [1; R59, 02; reset false] -/
  acq : Bool := false
  /-- FRAME. [1; R59, 02; reset false] -/
  frame : Bool := false
deriving DecidableEq, Repr

/-- The system block: modes, resets, clocks, power, the draft (chapters 01, 02). -/
structure Sys where
  /-- Device mode. [2; R35, 01; reset START-UP] -/
  mode : Mode := .startUp
  /-- Service. [2; R50, R99, 02; reset early] -/
  service : Service := .early
  /-- EARLY_STAGE.STAGE. [8; R51, 02; reset 0x01] -/
  stage : BitVec 8 := 0x01
  /-- EARLY_STAGE.BOOT_ERR. [8; R51, 02; reset 0x00] -/
  bootErr : BitVec 8 := 0x00
  /-- Power state. [enum; R64, 02; reset RUN] -/
  power : PowerState := .run
  /-- Entry to DEEP SLEEP or SHIP accepted, save under way (R67). [option; R67, 02; reset none] -/
  sleepReq : Option SleepKind := none
  /-- Device time, us since POR (R8). [64; R8, 00; reset 0] -/
  devTime : Nat := 0
  /-- Last moment of each periodic row, plus one (log 2). [sparse; R30, 01; reset empty; the model's own] -/
  ticks : Sparse Nat := []
  /-- POR is asserted and waits for good supplies (R43). [1; R43, 02; reset false] -/
  porActive : Bool := false
  /-- Cause of the POR in progress or the last one, code of RSTCAUSE.LAST. [4; RSTCAUSE, 02; reset 0] -/
  porCause : Nat := 0
  /-- RESET_N was low at POR release (R58). [1; R58, 02; reset false] -/
  resetHeld : Bool := false
  /-- The digital domain is in reset (R49). [1; R49, 02; reset false] -/
  inReset : Bool := false
  /-- A chip reset that has begun and has not yet taken hold (R362). [option; R362, 12; reset none] -/
  resetBegun : Option ResetCause := none
  /-- Start-up progress. [struct; R45, 02] -/
  boot : Boot := {}
  /-- Digest hold: region code of the lowest mismatching region (R47). [option; R47, 02; reset none] -/
  digestHold : Option Nat := none
  /-- Level of GPIO3 in the digest pattern (R419). [1; R419, 14; reset false] -/
  digestToggle : Bool := false
  /-- The digest pattern drives GPIO0 to GPIO3 (R419). [1; R419, 14; reset false] -/
  digestPattern : Bool := false
  /-- RESET_N long form in progress (R57). [1; R57, 02; reset false] -/
  rstnLong : Bool := false
  /-- CMD is being restarted, or is held in reset (R55, R398). [1; R55, 02; reset false] -/
  cmdDown : Bool := false
  /-- RSTCAUSE cause bits [15:0]. [16; RSTCAUSE, 02; reset 0x0001: POR_VIN, set as the last
  step of the POR] -/
  rstBits : BitVec 16 := 0
  /-- RSTCAUSE.LAST. [4; RSTCAUSE, 02; reset 0] -/
  rstLast : BitVec 4 := 0
  /-- RSTCAUSE.CHIP_COUNT. [8, saturating; RSTCAUSE, 02; reset 0] -/
  chipCount : Nat := 0
  /-- Device time of the last chip reset (R96). [64; R96, 03; reset 0] -/
  resetTime : Nat := 0
  /-- Clock monitor failure flag SYS. [1; R22, 01; reset false] -/
  sysFail : Bool := false
  /-- Clock monitor failure flag ACQ. [1; R22, 01; reset false] -/
  acqFail : Bool := false
  /-- Clock monitor failure flag FRAME. [1; R22, 01; reset false] -/
  frameFail : Bool := false
  /-- The 25 MHz crystal has failed: PLLs lock to the LFO (R59). [1; R59, 02; reset false] -/
  xtalFailed : Bool := false
  /-- FRAME runs on its backup ring oscillator (R59). [1; R59, 02; reset false] -/
  frameBackup : Bool := false
  /-- Stops of watched clocks marked planned in the clock monitor (R59). [3; R59, 02; reset none] -/
  planned : PlannedStops := {}
  /-- Crossing OVERRUN flags, bit per ID. [20; R62, 02; reset 0] -/
  overrun : BitVec 20 := 0
  /-- Crossing event counters of IDs 0x02, 0x05, 0x08, 0x0C. [4 x 8, saturating; R62, 02; reset 0] -/
  overrunCount : Sparse Nat := []
  /-- EARLY_PWR bytes VIN, VLINK, VBAT, DIE_T. [32; R51, 02; reset 0] -/
  earlyPwr : W := 0
  /-- Power Frame running (EARLY_SUP.FRAME_RUN). [1; R20, 01; reset true: the Power Frame runs from its POR values,
  DEDUCED (log 8)] -/
  frameRun : Bool := true
  /-- Regulation part of the Power Frame stopped until POR (R20). [1; R20, 01; reset false] -/
  regStopped : Bool := false
  /-- The die shutdown of R313 is turning rails off. [1; R313, 10; reset false] -/
  dieStopping : Bool := false
  /-- Class-0 starts in the present beat (R31). [2; R31, 01; reset 0] -/
  class0Starts : Nat := 0
  /-- Draft time promised to accepted work: absolute beat to us (R32, R92). [sparse; R32, 01; reset empty] -/
  reserved : Sparse Nat := []
  /-- Suspended draft tasks (R33). [list; R33, 01; reset empty] -/
  suspended : List (BitVec 16) := []
  /-- Device time until which the NVM and the flash are busy, us: the NVM busy time of admission (R92, R405). [number;
  R405, 14; reset 0] -/
  nvmBusy : Nat := 0
  /-- Supplies as last known: VIN, VCC5, VDDC, VDDIO, VBKUP, mV. [5 numbers; R43, 02; reset DESIGN CHOICE: VIN 48 V,
  VCC5 5 V, VDDC 0.8 V, VDDIO 3.3 V, VBKUP 3 V (log 1)] -/
  sup : Supplies := { vin := 48000, vcc5 := 5000, vddc := 800, vddio := 3300, vbkup := 3000 }
  /-- DBG_HALT.HALT. [9; R423, 14; reset 0] -/
  dbgHalt : BitVec 9 := 0
  /-- ID_HORTO is valid: a Horto image runs. [1; R80, 03; reset false] -/
  hortoRuns : Bool := false
  /-- ID_PDFW. [32; R80, 03; reset 0] -/
  pdfw : W := 0
  /-- ID_CFG.CFG_SERIAL. [32; R80, 03; reset 0] -/
  cfgSerial : W := 0
  /-- ID_HORTO as of the booted image. [32; R80, 03; reset 0] -/
  hortoVer : W := 0
  /-- SH0 to SH5, the PD core and the acquisition are held in block reset by a power failure (R411). [1; R411, 14;
  reset false] -/
  pfHeld : Bool := false
  /-- A save is in progress (R411). [1; R411, 14; reset false] -/
  saving : Bool := false
  /-- The last audit found every invariant intact after the last violation (R364). [1; R364, 12; reset true] -/
  auditClean : Bool := true
  /-- Number of free values taken so far: the model's own counter, no state of the part (log 3). [model's own; reset
  DESIGN CHOICE 0] -/
  free : Nat := 0
deriving DecidableEq, Repr

end Sys2Proof.Machine
end

