-- ==== Sys2Proof/Machine/StateFault.lean ====
section
/-! DEFINITION. State of the Selvedge, the event controller, the GPIOs and the Heddle watchdog (chapters 12, 13). -/

namespace Sys2Proof.Machine

/-- A pick (R351): source, kind, detail. -/
structure Pick where
  src : BitVec 10
  kind : BitVec 6
  detail : BitVec 16
deriving DecidableEq, Repr

/-- A pick waiting in the Selvedge intake (R354). -/
structure IntakePick where
  pick : Pick
  /-- Posted after a chip reset from a carried flag (R26, R362). -/
  carried : Bool
  /-- Device time of its detection; for a carried pick, the time at which the flag was read (R355). -/
  time : Nat
deriving DecidableEq, Repr

/-- A Selvedge record (R355). -/
structure SelvRec where
  pick : Pick
  rpt : Nat
  done : BitVec 8
  carried : Bool
  injected : Bool
  limp : Bool
  note : Bool
  time : Nat
deriving DecidableEq, Repr

/-- An armed fault injection (R369): checker, inversion mask, reaction mode 1, byte offset. -/
structure Injection where
  checker : Nat
  mask : Byte
  mode1 : Bool
  off : W
deriving DecidableEq, Repr

/-- A Power Frame sticky flag raised while the digital domain was in reset (R26): the pick it becomes and the host
event that goes with it. -/
structure FrameFlag where
  pick : Pick
  event : Option RaisedEvent
deriving DecidableEq, Repr

/-- The Selvedge (chapter 12). -/
structure Selv where
  /-- Intake, oldest first. [at most 16 picks; R354, 12; reset empty] -/
  intake : List IntakePick := []
  /-- Ring, oldest first. [at most 64 records; R357, 12; reset empty] -/
  ring : List SelvRec := []
  /-- Ring index of the newest record. [6; R384, 12; reset 63, so that the first record takes index 0: DESIGN CHOICE
  (log 1)] -/
  ringIdx : BitVec 6 := 63
  /-- Frozen store. [at most 16 records; R357, 12; reset empty] -/
  frozen : List SelvRec := []
  /-- The newest ring record is also the newest frozen record (R357). [1; R357, 12; reset false] -/
  newestFrozen : Bool := false
  /-- SELV.RECEIVED. [32, saturating; R357, 12; reset 0] -/
  received : Nat := 0
  /-- SELV.STORED. [32, saturating; R357, 12; reset 0] -/
  stored : Nat := 0
  /-- SELV.DROPPED. [32, saturating; R357, 12; reset 0] -/
  dropped : Nat := 0
  /-- SELV.CLEAR_REFUSED. [32, saturating; R365, 12; reset 0] -/
  clearRefused : Nat := 0
  /-- SELV.DROPPED as last posted (R380). [32; R380, 12; reset 0] -/
  droppedPosted : Nat := 0
  /-- Sticky status words by source ID. [544 x 64; R363, 12; reset 0] -/
  status : Sparse (BitVec 64) := []
  /-- Status bits that a carried pick has set (STICKY_SUMMARY.CARRIED). [544 x 64; R80, 03; reset 0] -/
  carriedBits : Sparse (BitVec 64) := []
  /-- Refused clears by source ID. [544 x 8, saturating; R365, 12; reset 0] -/
  refused : Sparse Nat := []
  /-- ERR latch. [1; R367, 12; reset 0] -/
  errLatch : Bool := false
  /-- Armed injections. [at most 4; R368, R369, 12; reset empty] -/
  injections : List Injection := []
  /-- Power Frame sticky flags waiting for the next reader (R26). [list; R26, 01; reset empty] -/
  frameFlags : List FrameFlag := []
deriving DecidableEq, Repr

/-- One EIC source (R372). -/
structure EicSrc where
  /-- Pending bit. [1; R372, 12; reset 0] -/
  pending : Bool := false
  /-- Event counter. [8; R372, 12; reset 0] -/
  count : Nat := 0
  /-- SAT. [1; R372, 12; reset 0] -/
  sat : Bool := false
  /-- Storm mask. [1; R377, 12; reset 0] -/
  storm : Bool := false
  /-- INJECTED. [1; R378, 12; reset 0] -/
  injected : Bool := false
  /-- Edges per 1 ms window of the last 100 ms: window number and count, oldest first (R364, R377). [list; R377, 12;
  reset empty] -/
  wins : List (Nat × Nat) := []
deriving DecidableEq, Repr

/-- One event target (R374, R376): claimed sources with the running priority held before each claim, newest first. -/
structure EicTarget where
  /-- Running priority. [4; R374, 12; reset 0] -/
  running : Nat := 0
  /-- Claimed sources, newest first, with the running priority before the claim. [at most 15; R376, 12; reset empty] -/
  claims : List (Nat × Nat) := []
  /-- The source the target is notified of. [option 8; R374, 12; reset none] -/
  assigned : Option Nat := none
deriving DecidableEq, Repr

/-- The event controller (chapter 12). -/
structure Eic where
  /-- The 256 sources. [256 structs; R371, 12; reset clear] -/
  src : Sparse EicSrc := []
  /-- The nine targets. [9 structs; R374, 12] -/
  tgt : Vector EicTarget 9 := Vector.replicate 9 {}
deriving DecidableEq, Repr

/-- One GPIO (R383). -/
structure Gpio where
  /-- The output is high-impedance. [1; R383, 12; reset true] -/
  hiZ : Bool := true
  /-- Its first evaluation after the image or the EIC restarted is still to come (R383). [1; R383, 12; reset true] -/
  fresh : Bool := true
  /-- MAINS_FAIL or FIRE_ALARM has been posted and its clearing has not (R383). [1; R383, 12; reset false] -/
  alarmed : Bool := false
deriving DecidableEq, Repr

/-- One evidence record (R393). -/
structure Evidence where
  viol : Nat
  proc : Nat
  ladder : Nat
  count : Nat
  mask : BitVec 16
  pc : W
  last : Nat
  at_ : Nat
deriving DecidableEq, Repr

/-- The windows and the strike of one watched processor (R388 to R394). -/
structure Watch where
  /-- Boot window armed: device time of its opening, us, and its length, ms (R391). [option; R391, 13; reset none: armed
  at release] -/
  boot : Option (Nat × Nat) := none
  /-- Registration in force. [mask 16, OPEN, CLOSE; R390, 13; reset none] -/
  reg : Option Registration := none
  /-- Windows armed. [1; R389, 13; reset false] -/
  armed : Bool := false
  /-- S: the SYS cycle at which the previous window ended. [number; R389, 13; reset 0] -/
  start : Nat := 0
  /-- Threads checked in in this window. [16; R389, 13; reset 0] -/
  checked : BitVec 16 := 0
  /-- Device time of the last accepted service or registration since release, 0 when none. [64; R393, 13; reset 0] -/
  last : Nat := 0
  /-- Strike. [1; R394, 13; reset 0] -/
  strike : Bool := false
  /-- Clean device time the strike still needs, us, and since when it counts; `none`: not registered since its restart
  (R394). [option; R394, 13; reset none] -/
  good : Option (Nat × Nat) := none
deriving DecidableEq, Repr

/-- The Heddle (chapter 13). -/
structure Heddle where
  /-- Watched processors in code order: CMD, SH0 to SH5, PD core, SAF. [9 structs; R388, 13] -/
  w : Vector Watch 9 := Vector.replicate 9 {}
  /-- Chip-reset count (WDG.LADDER [3:0]). [4; R394, 13; reset 0] -/
  count : Nat := 0
  /-- Safe Hold flag (WDG.LADDER [4]). [1; R400, 13; reset 0] -/
  safeHold : Bool := false
  /-- SAFE_N asserted. [1; R399, 13; reset false] -/
  safeN : Bool := false
  /-- WDG.VIOLATIONS. [32, saturating; R393, 13; reset 0] -/
  violations : Nat := 0
  /-- First evidence record since POR. [option; R393, 13; reset none] -/
  first : Option Evidence := none
  /-- The three most recent evidence records, oldest first. [at most 3; R393, 13; reset empty] -/
  recent : List Evidence := []
deriving DecidableEq, Repr

end Sys2Proof.Machine
end

