-- ==== Sys2Proof/Machine/StateMeas.lean ====
section
/-! DEFINITION. State of the battery estimator, the acquisition and the temperature zones (chapters 08 to 10). -/

namespace Sys2Proof.Machine

/-- A copy of one estimator table (R247): version counter, CRC of the factory table it derives from (0 in a factory
copy) and its U16 entries. -/
structure EstTable where
  ver : Nat
  factCrc : Nat
  entries : List Nat
deriving DecidableEq, Repr

/-- One of the three tables with its copies (R249). -/
structure TableSet where
  /-- Served copy; `none` until the image is loaded. [table; R249, 08; reset factory] -/
  served : Option EstTable := none
  /-- Steeping copy; `none`: learning has changed nothing since the served copy. [table; R249, 08; reset none] -/
  steep : Option (List Nat) := none
  /-- Device time of the last pour of this table. [option; R250, 08; reset none] -/
  pourAt : Option Nat := none
deriving DecidableEq, Repr

/-- A discharge that may teach Q_FULL (R260). -/
structure LearnRun where
  /-- SoC at its start, 0.01 %. -/
  soc0 : Nat
  /-- Q_OUT at its start, mC. -/
  q0 : Int
  /-- Sums of temperature (0.1 degC) and current (mA), and the number of seconds summed. -/
  tSum : Int
  iSum : Int
  n : Nat
deriving DecidableEq, Repr

/-- A running test (R266). -/
structure RunTest where
  kind : TestKind
  /-- Start timestamp, s since 2000 (R268). -/
  ts : Nat
  /-- Device time of the start, us. -/
  at_ : Nat
  planned : Nat
  lowMv : Nat
  v0 : Nat
  q0 : Int
  soc0 : Nat
  floor0 : Nat
  forced : Bool
  manual : Bool
  mainsLost : Bool
  /-- Groups that were UP at the start. -/
  up0 : BitVec 8
deriving DecidableEq, Repr

/-- Direction of a probe step (R244): the charge current reduced or raised, a discharge into the link, or the battery's discharge reduced. -/
inductive ProbeDir where | chargeLess | chargeMore | discharge | dischargeLess
deriving DecidableEq, Repr

/-- A probe step under way (R243, R244). -/
structure ProbeRun where
  /-- Amplitude, mA. -/
  ma : Nat
  /-- Direction of the step (R244). -/
  dir : ProbeDir
  /-- In BATTERY, with the probe hold (R245). -/
  hold : Bool
  /-- The 10 ms step has ended and its fit is awaited. -/
  ended : Bool
deriving DecidableEq, Repr

/-- The accepted fit in force (R241): uOhm, mF, uV. -/
structure FitElems where
  /-- RS. [uOhm; R239, 08; reset DESIGN CHOICE 0: no fit yet (log 1)] -/
  rs : Nat := 0
  /-- RCT. [uOhm; R239, 08; reset DESIGN CHOICE 0 (log 1)] -/
  rct : Nat := 0
  /-- CDL. [mF; R239, 08; reset DESIGN CHOICE 0 (log 1)] -/
  cdl : Nat := 0
  /-- RDIF. [uOhm; R239, 08; reset DESIGN CHOICE 0 (log 1)] -/
  rdif : Nat := 0
  /-- CDIF. [mF; R239, 08; reset DESIGN CHOICE 0 (log 1)] -/
  cdif : Nat := 0
  /-- Fit residual. [uV; R270, 08; reset DESIGN CHOICE 0 (log 1)] -/
  residual : Nat := 0
deriving DecidableEq, Repr

/-- The ledger converter's accumulator and SH4's reading of it (R233). -/
structure Ledger where
  /-- ACC_IN. [64, saturating; R233, 08; reset 0] -/
  accIn : Nat := 0
  /-- ACC_OUT. [64, saturating; R233, 08; reset 0] -/
  accOut : Nat := 0
  /-- ACC_IN as last read. [64; R269, 08; reset 0] -/
  lastIn : Nat := 0
  /-- ACC_OUT as last read. [64; R269, 08; reset 0] -/
  lastOut : Nat := 0
  /-- Fraction of a mC kept between updates of Q_IN, as a numerator of R233. [number; R233, 08; reset 0] -/
  fracIn : Nat := 0
  /-- Fraction kept between updates of Q_OUT. [number; R233, 08; reset 0] -/
  fracOut : Nat := 0
  /-- Device time of the last reading, us. [number; R233, 08; reset 0] -/
  readAt : Nat := 0
deriving DecidableEq, Repr

/-- The caddy (R234). -/
structure Caddy where
  /-- Q_IN, mC. [S64; R234, 08; reset from the kettle set, 0 when none] -/
  qIn : Int := 0
  /-- Q_OUT, mC. [S64; R234, 08; reset from the kettle set, 0 when none] -/
  qOut : Int := 0
  /-- Q_SELF, mC. [S64; R234, 08; reset from the kettle set, 0 when none] -/
  qSelf : Int := 0
  /-- Q_REBASE, mC. [S64; R234, 08; reset from the kettle set, 0 when none] -/
  qRebase : Int := 0
  /-- B, mC. [S64; R234, 08; reset from the kettle set, 0 when none] -/
  b : Int := 0
  /-- A valid caddy exists (R238). [1; R238, 08; reset false] -/
  valid : Bool := false
deriving DecidableEq, Repr

/-- The battery estimator (chapter 08). -/
structure Est where
  /-- Ledger converter. [struct; R232, 08] -/
  led : Ledger := {}
  /-- Caddy. [struct; R234, 08] -/
  caddy : Caddy := {}
  /-- Pending self-discharge, uC. [number; R237, 08; reset from the kettle set, 0 when none] -/
  pendSelf : Nat := 0
  /-- SoC_int in charge terms, mC: SoC_int x Q_FULL. [number; R252, 08; reset from the kettle set, 0 when none] -/
  socQ : Int := 0
  /-- sigma_S in charge terms, uC: sigma_S x Q_FULL. [number; R252, 08; reset from the kettle set; 0.20 % of Q_FULL when
  none is the floor of R252, DESIGN CHOICE (log 1)] -/
  sigQ : Nat := 0
  /-- sigma_C, 0.01 %. [number; R260, 08; reset 500] -/
  sigC : Nat := 500
  /-- Capacity learnings. [number; R270, 08; reset from NVM, 0 when none] -/
  learnCount : Nat := 0
  /-- Timestamp of the last learning, s since 2000. [32; R270, 08; reset from NVM, 0 when none] -/
  learnTs : Nat := 0
  /-- v1, uV. [number; R239, 08; reset 0] -/
  v1 : Int := 0
  /-- v2, uV. [number; R239, 08; reset 0] -/
  v2 : Int := 0
  /-- OCV_est, mV of the pack. [number; R239, 08; reset DESIGN CHOICE 0 (log 1)] -/
  ocvEst : Int := 0
  /-- OCV_est is confident. [1; R239, 08; reset false] -/
  ocvConf : Bool := false
  /-- Accepted fit in force. [struct; R241, 08] -/
  fit : FitElems := {}
  /-- Device time of the last accepted fit, us; EST.FIT_AGE_S counts from it. [number; R241, 08; reset 0] -/
  fitAt : Nat := 0
  /-- Fits accepted since POR. [32; R270, 08; reset 0] -/
  fits : Nat := 0
  /-- Consecutive accepted fits with RS out of the bounds of R242. [number; R242, 08; reset 0] -/
  badRs : Nat := 0
  /-- A captured step waits for its fit. [1; R240, 08; reset false] -/
  stepHeld : Bool := false
  /-- Probe under way. [option; R243, 08; reset none] -/
  probe : Option ProbeRun := none
  /-- OCV table. [struct; R247, 08] -/
  ocv : TableSet := {}
  /-- Usable-capacity table. [struct; R247, 08] -/
  cap : TableSet := {}
  /-- RS table. [struct; R247, 08] -/
  rs : TableSet := {}
  /-- Device time since which charge is counted without a rebase, us; below 0 for one in an earlier run (R251). [number; R251, 08; reset
  from the kettle set, 0 when none] -/
  rebaseAt : Int := 0
  /-- Direction. [2; R254, 08; reset REST] -/
  dir : Direction := .rest
  /-- EST.SOC, 0.01 %. [U16; R255, 08; reset from NVM, 0 when none] -/
  soc : Nat := 0
  /-- Reported present-load floor fraction, 0.01 %. [number; R255, 08; reset from NVM, 0 when none] -/
  fPres : Nat := 0
  /-- Reported rated-load floor fraction, 0.01 %. [number; R255, 08; reset from NVM, 0 when none] -/
  fRated : Nat := 0
  /-- EST.FLOOR_S. [U32; R256, 08; reset from NVM, 0 when none] -/
  floorS : Nat := 0
  /-- EST.FLOOR_RATED_S. [U32; R256, 08; reset from NVM, 0 when none] -/
  floorRatedS : Nat := 0
  /-- I_load, mA. [number; R257, 08; reset 0] -/
  iLoad : Nat := 0
  /-- Load of the last EST.LOAD_AVG_S seconds, mA, newest last. [at most 600; R257, 08; reset empty] -/
  loads : List Nat := []
  /-- Battery current of the last 60 s, mA, newest last. [at most 60; R262, 08; reset empty] -/
  amps : List Int := []
  /-- EST.FLAGS. [32; R258, 08; reset from NVM, 0 when none] -/
  flags : W := 0
  /-- Device time since which the gap of R253 rule 4 has stayed, us. [option; R253, 08; reset none] -/
  driftSince : Option Nat := none
  /-- A REBASE_FULL or a learning has taken place since DISAGREE was set. [1; R253, 08; reset true] -/
  disagreeGone : Bool := true
  /-- EST.QFULL_MAH; `none` reads CHG.CAP_MAH. [U32; R260, 08; reset from NVM, none when none] -/
  qFull : Option Nat := none
  /-- A learned capacity not yet in effect, mAh (R260). [option; R260, 08; reset none] -/
  newQFull : Option Nat := none
  /-- U table bin the learned capacity updates: index and per mille (R260). [option; R260, 08; reset none] -/
  newU : Option (Nat × Nat) := none
  /-- Discharge being learned from. [option; R260, 08; reset none] -/
  learn : Option LearnRun := none
  /-- EST.SOH_FADE, 0.01 %. [S16; R260, 08; reset from NVM, 0 when none] -/
  sohFade : Int := 0
  /-- EST.SOH_RS, 0.01 %. [S16; R260, 08; reset from NVM, 0 when none] -/
  sohRs : Int := 0
  /-- Multiples of 5.00 % of SOH_FADE already posted. [number; R260, 08; reset from the kettle set, 0 when none] -/
  sohFadePost : Int := 0
  /-- Multiples of 5.00 % of SOH_RS already posted. [number; R260, 08; reset from the kettle set, 0 when none] -/
  sohRsPost : Int := 0
  /-- The power-down of EST.CUT_ACT is withheld, since this device time, us (R259). [option; R259, 08; reset none] -/
  withheld : Option Nat := none
  /-- GROUP_DOWN 0xFF of EST.CUT_ACT runs; the state entered after it (R259). [option; R259, 08; reset none] -/
  cutDown : Option SleepKind := none
  /-- Running test. [option; R266, 08; reset none] -/
  test : Option RunTest := none
  /-- Consecutive postponements of the function test. [number; R264, 08; reset from the kettle set, 0 when none] -/
  postFt : Nat := 0
  /-- Consecutive postponements of the duration test. [number; R264, 08; reset from the kettle set, 0 when none] -/
  postDt : Nat := 0
  /-- Day since 2000 on which a duration test was last due; it stands as that day's function test (R263). [option; R263,
  08; reset from the kettle set, none when none] -/
  dtDay : Option Nat := none
  /-- SEQ of the entry of a test that a reset interrupted, until TEST_RESULT is posted (R267). [option; R267, 08; reset none] -/
  resultDue : Option (BitVec 16) := none
deriving DecidableEq, Repr

/-- One entry of the round table (R292). -/
structure RoundEntry where
  rseq : BitVec 8
  restarted : Bool
  refSuspect : Bool
  clkDeg : Bool
  corrStale : Bool
  overrange : Bool
  value : BitVec 16
deriving DecidableEq, Repr

/-- States of a capture slot (CAPTURE_STATUS). -/
inductive SlotState where | idle | armed | running | done | lost
deriving DecidableEq, Repr

/-- A capture descriptor (R297). -/
structure CapDesc where
  mode : Nat
  urgent : Bool
  rearms : Nat
  trig : Nat
  trigNo : Nat
  inputs : List Nat
  mask : Nat
  dec : Nat
  pre : Nat
  n : Nat
deriving DecidableEq, Repr

/-- One record of a capture slot (R294): header words and samples. -/
structure CapRec where
  hdr : List W
  data : List (BitVec 16)
deriving DecidableEq, Repr

/-- One capture slot (R294 to R297). -/
structure CapSlot where
  /-- State. [3; R296, 09; reset IDLE] -/
  st : SlotState := .idle
  /-- Descriptor. [option; R297, 09; reset none] -/
  desc : Option CapDesc := none
  /-- Re-arms left. [4; R296, 09; reset 0] -/
  left : Nat := 0
  /-- Records completed. [number; R296, 09; reset 0] -/
  count : Nat := 0
  /-- SEQ of the next record. [16; R294, 09; reset 0] -/
  seq : BitVec 16 := 0
  /-- Triggers ignored. [number; R281, R284, 09; reset 0] -/
  ignored : Nat := 0
  /-- Bytes reserved in the pool. [number; R297, 09; reset 0] -/
  bytes : Nat := 0
  /-- Records taken. [list; R294, 09; reset empty] -/
  recs : List CapRec := []
  /-- Device time of the trigger of the present record, us. [number; R294, 09; reset 0] -/
  trigAt : Nat := 0
  /-- The present record waits for its slices, the reference or the clock (R278, R283). [1; R278, 09; reset false] -/
  waiting : Bool := false
  /-- RESTARTED, DELAYED, REF_HELD of the present or next record. [3; R294, 09; reset 0] -/
  restarted : Bool := false
  delayed : Bool := false
  refHeld : Bool := false
  /-- COEF_CHANGED of the present record (R288). [1; R288, 09; reset false] -/
  coefChanged : Bool := false
  /-- ACQ.COEF_VER at the start of the present record (R294). [16; R294, 09; reset 0] -/
  ver0 : BitVec 16 := 0
  /-- Number of the present record's request, in order of arrival (R278). [number; R278, 09; reset 0] -/
  order : Nat := 0
deriving DecidableEq, Repr

/-- One crossing comparator (R283). -/
structure Crossing where
  /-- ACQ.CCc.STATE armed. [1; R301, 09; reset false] -/
  armed : Bool := false
  /-- ACQ.CCc.STATE tripped. [1; R301, 09; reset false] -/
  tripped : Bool := false
  /-- A parameter write has disarmed it (R284). [1; R284, 09; reset false] -/
  written : Bool := false
deriving DecidableEq, Repr

/-- The acquisition (chapter 09). -/
structure Acq where
  /-- Round table, by input code; absent: no valid result. [112 entries; R292, 09; reset invalid] -/
  table : Sparse RoundEntry := []
  /-- ACQ.STATUS.ROUND_VALID. [1; R302, 09; reset false] -/
  roundValid : Bool := false
  /-- RSEQ of the round in progress or the last one. [8; R292, 09; reset DESIGN CHOICE 0xFF, so that the first round is
  round 0 (log 1)] -/
  rseq : BitVec 8 := 0xFF
  /-- RSEQ of the last complete round. [8; R302, 09; reset 0] -/
  rseqDone : BitVec 8 := 0
  /-- A round is running. [1; R290, 09; reset false] -/
  running : Bool := false
  /-- The next round starts as soon as the running one completes (R290). [1; R290, 09; reset false] -/
  nextDue : Bool := false
  /-- Settling held conversions of the present round (R285). [1; R285, 09; reset false] -/
  heldBySettle : Bool := false
  /-- A capture has taken protected slices in the present round (R280). [1; R280, 09; reset false] -/
  protUsed : Bool := false
  /-- The next result of the round carries RESTARTED (R279, R299). [1; R279, 09; reset false] -/
  restart : Bool := false
  /-- Capture slots 0 to 7. [8 structs; R293, 09] -/
  slot : Vector CapSlot 8 := Vector.replicate 8 {}
  /-- Number given to the next request for slices. [number; R278, 09; reset 0] -/
  nextOrder : Nat := 0
  /-- Crossing comparators. [32 structs; R283, 09] -/
  cc : Vector Crossing 32 := Vector.replicate 32 {}
  /-- ACQ.RWw.STATE outside. [16; R292, 09; reset 0] -/
  rw : BitVec 16 := 0
  /-- Reference in use, code of R285. [2; R285, 09; reset 0] -/
  ref : BitVec 2 := 0
  /-- ACQ.STATUS.REF_SETTLED. [1; R285, 09; reset false] -/
  settled : Bool := false
  /-- REF_SUSPECT. [1; R286, 09; reset false] -/
  suspect : Bool := false
  /-- Consecutive rounds with the bandgap out of bounds. [number; R286, 09; reset 0] -/
  badRounds : Nat := 0
  /-- Consecutive rounds with the bandgap in bounds while suspect. [number; R286, 09; reset 0] -/
  goodRounds : Nat := 0
  /-- CORR_VALID. [1; R289, 09; reset false] -/
  corrValid : Bool := false
  /-- CORR_STALE. [1; R289, 09; reset false] -/
  corrStale : Bool := false
  /-- ACQ.COEF_VER. [16; R288, 09; reset 0] -/
  coefVer : BitVec 16 := 0
  /-- Served coefficients; empty: the factory set of the OTP VENDOR region. [16 triples; R288, 09; reset factory] -/
  coef : List Coef := []
  /-- Steeping coefficients checked and waiting to be poured. [option; R287, 09; reset none] -/
  steep : Option (List Coef) := none
  /-- Device time since which a pour waits, us (R288). [number; R288, 09; reset 0] -/
  steepAt : Nat := 0
  /-- Consecutive discarded sets (R288). [number; R288, 09; reset 0] -/
  corrFails : Nat := 0
  /-- Device time of the last pour, us. [option; R289, 09; reset none] -/
  pourAt : Option Nat := none
  /-- ACQ runs from SYS: CLOCK_DEGRADED (R59). [1; R59, 02; reset false] -/
  degraded : Bool := false
  /-- The battery rings run (R300). [1; R300, 09; reset false] -/
  rings : Bool := false
deriving DecidableEq, Repr

/-- One temperature sensor (R303 to R307). -/
structure Sensor where
  /-- WARN flag. [1; R306, 10; reset false] -/
  warn : Bool := false
  /-- THROTTLE flag. [1; R306, 10; reset false] -/
  throt : Bool := false
  /-- SHUTDOWN flag. [1; R306, 10; reset false] -/
  shut : Bool := false
  /-- Broken. [1; R305, 10; reset false] -/
  broken : Bool := false
  /-- At the fast rate. [1; R307, 10; reset false] -/
  fast : Bool := false
  /-- Consecutive bad reads. [number; R305, 10; reset 0] -/
  bad : Nat := 0
  /-- The last read of a broken sensor was good. [1; R305, 10; reset false] -/
  good : Bool := false
  /-- Reading, 0.1 degC; `none`: no valid reading. [option; R8, R305, 10; reset none] -/
  c10 : Option Int := none
  /-- WARN, THROTTLE and SHUTDOWN levels and hystereses as SH5 last wrote their raw codes, 0.1 degC. [6 numbers; R319, 10;
  reset: the parameter defaults of TSNSn; DESIGN CHOICE until the first write (log 1)] -/
  levels : List Int := [600, 700, 850, 50, 50, 50]
deriving DecidableEq, Repr

/-- A die sensor at reset: the defaults of THERM.DIE_* (R318). -/
def dieSensor : Sensor := { levels := [1150, 1250, 1500, 50, 50, 50] }

/-- One zone: Z0 to Z7, and the die zone at index 8 (R308). -/
structure Zone where
  /-- WARN vote. [1; R308, 10; reset false] -/
  warn : Bool := false
  /-- THROTTLE vote. [1; R308, 10; reset false] -/
  throt : Bool := false
  /-- SHUTDOWN vote. [1; R308, 10; reset false] -/
  shut : Bool := false
  /-- AON shutdown latch. [1; R314, 10; reset false] -/
  latch : Bool := false
deriving DecidableEq, Repr

/-- Temperature (chapter 10). -/
structure Therm where
  /-- Sensors by code: die 0 to 3, TSNS0 to TSNS7. [12 structs; R303, 10] -/
  sens : Vector Sensor 12 := ⟨#[dieSensor, dieSensor, dieSensor, dieSensor, {}, {}, {}, {}, {}, {}, {}, {}], rfl⟩
  /-- Zones Z0 to Z7 and the die zone. [9 structs; R308, 10] -/
  zone : Vector Zone 9 := Vector.replicate 9 {}
  /-- Power Frame die comparators that are set. [4; R313, 10; reset 0] -/
  dieCmp : BitVec 4 := 0
deriving DecidableEq, Repr

end Sys2Proof.Machine
end

