-- ==== Sys2Proof/Machine/StatePd.lean ====
section
/-! DEFINITION. State of the USB Type-C and Power Delivery ports (chapter 11). -/

namespace Sys2Proof.Machine

/-- Type-C states, codes of PDx.STATE (R325). -/
inductive TcState where
  | disabled | unattachedSnk | attachWaitSnk | attachedSnk | unattachedSrc | attachWaitSrc | attachedSrc
  | trySrc | tryWaitSnk | trySnk | tryWaitSrc | errorRecovery | locked
deriving DecidableEq, Repr

/-- What a port's CC pins present (R325, R326). -/
inductive CcDrive where | open_ | rd | rp
deriving DecidableEq, Repr

/-- A role swap that a port has under way. -/
inductive SwapKind where | pr | dr | vconn
deriving DecidableEq, Repr

/-- The last PD message or signal a port has sent. -/
inductive PdSent where
  | none_ | sourceCaps | eprSourceCaps | request | eprRequest | accept | reject | wait | psRdy | softReset | hardReset
  | sinkCaps | eprSinkCaps | notSupported | prSwap | vconnSwap | vdmAck | vdmNak | eprModeEnter
deriving DecidableEq, Repr

/-- A fixed supply PDO as the port sends it (R330). -/
structure SentPdo where
  pos : Nat
  mv : Nat
  ma : Nat
  dualRolePower : Bool
  unconstrained : Bool
  usbComm : Bool
  dualRoleData : Bool
  eprCapable : Bool
deriving DecidableEq, Repr

/-- One USB port. -/
structure PdPort where
  /-- PDx.STATE. [4; R325, 11; reset DISABLED] -/
  st : TcState := .disabled
  /-- CC pins. [enum; R321, 11; reset open] -/
  cc : CcDrive := .open_
  /-- Source pair gate. [1; R321, 11; reset off] -/
  gsrc : Bool := false
  /-- VCONN switch. [1; R321, 11; reset off] -/
  vconn : Bool := false
  /-- VCONN off until detach (R339). [1; R339, 11; reset false] -/
  vconnOc : Bool := false
  /-- Power role source; meaningful when attached. [1; R341, 11; reset false] -/
  source : Bool := false
  /-- Data role DFP. [1; R341, 11; reset false] -/
  dfp : Bool := false
  /-- VCONN source role. [1; R334, 11; reset false] -/
  vconnSrc : Bool := false
  /-- Roles at attach: source, DFP, VCONN source (R344). [3; R344, 11; reset 0] -/
  att0 : Bool × Bool × Bool := (false, false, false)
  /-- Rp of the partner (R327). [enum; R327, 11; reset Default] -/
  rp : RpLevel := .dflt
  /-- Contract position, 0 none. [4; R348, 11; reset 0] -/
  pos : Nat := 0
  /-- PDx.CONTRACT_MV. [U32; R349, 11; reset 0] -/
  mv : Nat := 0
  /-- PDx.CONTRACT_MA. [U32; R349, 11; reset 0] -/
  ma : Nat := 0
  /-- An Ra has been seen with the attach that waits for its debounce (R326). [1; R326, 11; reset false] -/
  ra : Bool := false
  /-- The partner has declared itself dual-role power in its Sink_Capabilities (R341). [1; R341, 11; reset false] -/
  partnerDrp : Bool := false
  /-- The partner has accepted the PR_Swap that this port asked for (R341). [1; R341, 11; reset false] -/
  swapOk : Bool := false
  /-- The sink path is off from the Accept of a voltage change until PS_RDY (R337). [1; R337, 11; reset false] -/
  held : Bool := false
  /-- The source capabilities last sent (R330). [list; R330, 11; reset none] -/
  offer : List SentPdo := []
  /-- Contract accepted and waiting for PS_RDY: position, mV, mA. [option; R335, 11; reset none] -/
  pend : Option (Nat × Nat × Nat) := none
  /-- The set point of the accepted contract has been written to the channel (after tSrcTransition). [1; R335, 11; reset
  false] -/
  slewed : Bool := false
  /-- EPR mode (PDx.FLAGS [0]). [1; R334, 11; reset 0] -/
  epr : Bool := false
  /-- Cable 5 A (PDx.FLAGS [1]). [1; R334, 11; reset 0] -/
  cable5a : Bool := false
  /-- Cable EPR (PDx.FLAGS [2]). [1; R334, 11; reset 0] -/
  cableEpr : Bool := false
  /-- Service mode entered (PDx.FLAGS [3]). [1; R347, 11; reset 0] -/
  svc : Bool := false
  /-- Positions withdrawn for headroom, bit per word. [11; R331, 11; reset 0] -/
  withdrawn : BitVec 11 := 0
  /-- Throttled by a zone (R311). [1; R311, 11; reset 0] -/
  throttled : Bool := false
  /-- Capabilities sent, no valid request yet (R332). [1; R332, 11; reset false] -/
  awaitReq : Bool := false
  /-- Hard Resets since attach (PD_STATUS word 6). [number; R348, 11; reset 0] -/
  hardResets : Nat := 0
  /-- Hard Resets since attach or the last contract (R344). [number; R344, 11; reset 0] -/
  hrCount : Nat := 0
  /-- Device times of the protection reactions of the last 60 s, us. [list; R340, 11; reset empty] -/
  faults : List Nat := []
  /-- Swap under way. [option; R341, 11; reset none] -/
  swap : Option SwapKind := none
  /-- Hard Reset under way as source: VBUS going to vSafe0V (R344). [1; R344, 11; reset false] -/
  hrSrc : Bool := false
  /-- Hard Reset under way as sink: waiting for vSafe5V (R344). [1; R344, 11; reset false] -/
  hrSnk : Bool := false
  /-- Source VBUS being discharged through the pair (R328). [1; R328, 11; reset false] -/
  discharging : Bool := false
  /-- The last message sent. [enum; R324, 11; reset none] -/
  sent : PdSent := .none_
  /-- Capability Mismatch in the last request (R336). [1; R336, 11; reset false] -/
  mismatch : Bool := false
  /-- PPS request repeated every 8 s (R336). [1; R336, 11; reset false] -/
  pps : Bool := false
  /-- VBUS, mV, as last known. [number; R348, 11; reset DESIGN CHOICE 0 (log 1)] -/
  vbus : Nat := 0
  /-- Device time since which VBUS has been below 0.8 V, us (R340). [option; R340, 11; reset none] -/
  lowSince : Option Nat := none
  /-- The PDOs the partner source last offered (R336). [list; R336, 11; reset none] -/
  caps : List OfferedPdo := []
  /-- The VDOs of the last VDM answer (R347). [list of 32; R347, 11; reset empty] -/
  vdo : List W := []
  /-- Attached without a linked channel that is up: rows of R326 step 2 done. [1; R326, 11; reset false] -/
  chanOn : Bool := false
deriving DecidableEq, Repr

/-- The ports and the PD core. -/
structure Pd where
  /-- Port A. [struct; R321, 11] -/
  a : PdPort := {}
  /-- Port B. [struct; R321, 11] -/
  b : PdPort := {}
  /-- The PD core runs its image. [1; R345, 11; reset false] -/
  coreRuns : Bool := false
  /-- The PD image failed in both slots (R348). [1; R348, 11; reset false] -/
  imageBad : Bool := false
  /-- A PD_RESTART or a bank command waits for the PD core to run. [list of port and tag; R348, 11; reset empty] -/
  waiters : List (Port × Tag) := []
  /-- The PD core has been block-reset by the Heddle and not by another cause (R428). [1; R428, 14; reset false] -/
  heddleReset : Bool := false
deriving DecidableEq, Repr

end Sys2Proof.Machine
end

