-- ==== Sys2Proof/Machine/StatePower.lean ====
section
/-! DEFINITION. State of the power path, the charger, the regulators, LDOs, enables, monitors and the sequencer
(chapters 04 to 07). -/

namespace Sys2Proof.Machine

/-- Source states (R115). -/
inductive SrcState where
  | absent | qualifying | standby | enabled | ramping | quarantined | disabled
deriving DecidableEq, Repr

/-- Link states (chapter 04). -/
inductive LinkState where | start | source | handover | battery | return
deriving DecidableEq, Repr

/-- One of the four link sources: DCA, DCB, USB A sink, USB B sink. -/
structure Source where
  /-- Source state. [3; R115, 04; reset ABSENT] -/
  st : SrcState := .absent
  /-- In window (R109). [1; R109, 04; reset false] -/
  inWin : Bool := false
  /-- Voltage as last compared, mV. [number; R109, 04; reset DESIGN CHOICE 0 (log 1)] -/
  mv : Nat := 0
  /-- SRCID class, 0xFF unknown. [8; R111, 04; reset 0xFF] -/
  cls : Nat := 0xFF
  /-- Moment qualification began counting, device time us. [option; R119, 04; reset none] -/
  qualFrom : Option Nat := none
  /-- Window exits of the last 60 s, newest last (R120). [list; R120, 04; reset empty] -/
  exits : List Nat := []
  /-- Path gate on. [1; R107, 04; reset true for DCA and DCB, which run as ideal diodes under R108, DEDUCED (log 8);
  false for USB] -/
  gate : Bool := false
  /-- Input limit in percent of its full limit, 100 when not ramping (R121). [7; R121, 04; reset 100] -/
  limitPct : Nat := 100
  /-- Linear limiter regulating (R122). [1; R122, 04; reset false] -/
  limiting : Bool := false
  /-- Turned off by input OVP until qualified again (R110). [1; R110, 04; reset false] -/
  ovp : Bool := false
  /-- Marked as expected to fail by a mains-fail input (R383). [1; R383, 12; reset false] -/
  expectFail : Bool := false
  /-- A failed (unknown) or missing SRCID read since the last chip reset is pending (R111). [1; R111, 04; reset
  false] -/
  idPending : Bool := false
  /-- A standby takeover has put another source in its place; its window exit is not yet confirmed (R114). [1; R114, 04;
  reset false] -/
  replaced : Bool := false
  /-- The limiter has expired with RELEASE: the gate is fully on for the present overload (R124). [1; R124, 04; reset
  false] -/
  released : Bool := false
  /-- Input limit the Power Frame carries, mA (R19, R111). [number; R123, 04; reset DESIGN CHOICE 0 (log 1): the limiters
  are inactive until the image is loaded, R108] -/
  limMa : Nat := 0
  /-- Current as last computed from the drop, or as the port sensed it, mA (R112). [number; R112, 04; reset DESIGN CHOICE 0 (log 1)] -/
  iMa : Nat := 0
  /-- That current is a lower bound: the path is in forward regulation (R112). [1; R112, 04; reset false] -/
  iLow : Bool := false
deriving DecidableEq, Repr

/-- The power path and the link (chapter 04). -/
structure Path where
  /-- DCA. [struct; R113, 04] -/
  dca : Source := { gate := true }
  /-- DCB. [struct; R113, 04] -/
  dcb : Source := { gate := true }
  /-- USB A sink path. [struct; R113, 04] -/
  usba : Source := {}
  /-- USB B sink path. [struct; R113, 04] -/
  usbb : Source := {}
  /-- Link state. [4; R117, 04; reset START] -/
  link : LinkState := .start
  /-- GDBAT conducts. [1; R116, 04; reset false: held off until the comparator trips, DEDUCED (log 8)] -/
  gdbat : Bool := false
  /-- The hand-over flag waits in the Power Frame for a reader (R26). [1; R26, 01; reset false] -/
  handoverFlag : Bool := false
  /-- The source that carries the link or carried it last, code of R113, 0xF the battery. [4; R127, 04; reset 0xF] -/
  carrier : Nat := 0xF
  /-- Transfers the hardware made while SH0 did not run: detail words of R127 without a cause (R126). [list; R126, 04;
  reset empty] -/
  hwTransfers : List Nat := []
  /-- Supplement mode (R122). [1; R122, 04; reset false] -/
  supplement : Bool := false
  /-- SOURCE_OVERLOAD has been raised for the present excess (R122). [1; R122, 04; reset false] -/
  overload : Bool := false
  /-- Supplement current the converter delivers, mA (R121). [number; R121, 04; reset 0] -/
  suppMa : Nat := 0
  /-- SRC.TRANSFERS. [32, saturating; R120, 04; reset from NVM, 0 when none] -/
  transfers : Nat := 0
  /-- VLINK as last known, mV. [number; R8, 00; reset DESIGN CHOICE 0 (log 1)] -/
  vlink : Nat := 0
  /-- VBAT as last known, mV. [number; R8, 00; reset DESIGN CHOICE 0 (log 1)] -/
  vbat : Nat := 0
  /-- Battery current as last known, mA. [number; R8, 00; reset DESIGN CHOICE 0 (log 1)] -/
  ibat : Int := 0
  /-- The paths run on their POR settings (R108). [1; R108, 04; reset true] -/
  porSet : Bool := true
  /-- SH0 has set the link and source states since the last chip reset; until then SRC.STATE and SRC.DCx_STATE read their reset values
  (R126, R128). [1; R128, 04; reset false] -/
  told : Bool := false
deriving DecidableEq, Repr

/-- Charger states, codes of CHG.STATE. -/
inductive ChgState where
  | off | wait | trickle | precharge | cc | cv | done | float | suspended | batteryAbsent | discharge
deriving DecidableEq, Repr

/-- Converter modes (R131). -/
inductive ConvMode where | buck | buckBoost | boost
deriving DecidableEq, Repr

/-- The charger (chapter 05). -/
structure Chg where
  /-- CHG.STATE. [4; R136, 05; reset OFF] -/
  st : ChgState := .off
  /-- WAIT cause bits. [4; R143, 05; reset 0] -/
  waitCause : BitVec 4 := 0
  /-- State of the interrupted cycle. [option; R137, 05; reset none] -/
  cycle : Option ChgState := none
  /-- The next start check begins a new cycle whatever the record says (R137). [1; R137, 05; reset true] -/
  newCycle : Bool := true
  /-- A start check is due: the converter idles for it (R136). [1; R136, 05; reset false] -/
  checkDue : Bool := false
  /-- FORCE of the last CHG_START (R153). [1; R153, 05; reset false] -/
  force : Bool := false
  /-- A CHG_START has been received since POR (R143). [1; R143, 05; reset false] -/
  started : Bool := false
  /-- Trickle timer, 50 ms units. [number; R144, 05; reset 0] -/
  tmrTrk : Nat := 0
  /-- Pre-charge timer, 50 ms units. [number; R144, 05; reset 0] -/
  tmrPre : Nat := 0
  /-- Charge timer, 50 ms units. [number; R144, 05; reset 0] -/
  tmrCc : Nat := 0
  /-- Termination count, 100 ms ticks. [number; R139, 05; reset 0] -/
  termCount : Nat := 0
  /-- Consecutive ticks an upward condition of R138 has held. [number; R138, 05; reset 0] -/
  upTicks : Nat := 0
  /-- Consecutive ticks a downward condition of R138 has held. [number; R138, 05; reset 0] -/
  downTicks : Nat := 0
  /-- Consecutive ticks the voltage loop has demanded the full set point (CV to CC). [number; R138, 05; reset 0] -/
  fullTicks : Nat := 0
  /-- Device times of the OV absences of the last 600 s, oldest first. [list; R150, 05; reset empty] -/
  ovTimes : List Nat := []
  /-- BATTERY_ABSENT is latched (R150). [1; R150, 05; reset false] -/
  absLatch : Bool := false
  /-- OFF was entered by CHG_STOP or CHG.EN (R153). [1; R153, 05; reset false] -/
  offFlag : Bool := false
  /-- CHARGE_TIMEOUT phase latched, 0 none. [2; R147, 05; reset from NVM, 0 when none] -/
  tmoPhase : Nat := 0
  /-- Device time since which the converter has been idle in SUSPENDED, us (R148). [number; R148, 05; reset 0] -/
  tmoAt : Nat := 0
  /-- An absence of at least 5 s has been confirmed since the expiry (R148). [1; R148, 05; reset false] -/
  absSinceTmo : Bool := false
  /-- CHG.CYCLES. [32, saturating; R157, 05; reset from NVM, 0 when none] -/
  cycles : Nat := 0
  /-- Converter mode. [enum; R131, 05; reset DESIGN CHOICE buck-boost (log 1)] -/
  mode : ConvMode := .buckBoost
  /-- The CHG_PWM outputs switch; otherwise idle. [1; R130, 05; reset false] -/
  pwm : Bool := false
  /-- Hardware kill input in force (R149). [1; R149, 05; reset false] -/
  kill : Bool := false
  /-- Detector of an absence found while SH0 or SH1 did not run, 0 none (R149). [2; R149, 05; reset 0] -/
  absDet : Nat := 0
  /-- Charge current in force, mA. [number; R136, 05; reset 0] -/
  chargeMa : Nat := 0
  /-- Throttle limit in force, percent of I_CC; 100 none (R311). [7; R311, 10; reset 100] -/
  throtPct : Nat := 100
  /-- Slewed compensated float level, mV (R142). [number; R142, 05; reset 0] -/
  floatMv : Nat := 0
  /-- Slewed CC set point, mA (R158). [number; R158, 05; reset 0] -/
  ccSet : Nat := 0
  /-- Slewed CV set point of the pack, 0.1 mV (R158). [number; R158, 05; reset 0] -/
  cvSet : Nat := 0
  /-- The cycle is interrupted, and the marks hold the caddy's counts of that moment (R137). [1; R137, 05; reset false] -/
  cut : Bool := false
  /-- Caddy Q_IN at the interruption of the cycle, mC (R137). [64; R137, 05; reset 0] -/
  qInMark : Int := 0
  /-- Caddy Q_OUT at the interruption of the cycle, mC (R137). [64; R137, 05; reset 0] -/
  qOutMark : Int := 0
  /-- The timer of the present state has reached its limit at the last tick (R145, R147). [1; R145, 05; reset false] -/
  expiry : Bool := false
deriving DecidableEq, Repr

/-- Channel states, codes of VRn.STATE; LDOs use OFF, DISCHARGE, SOFTSTART, REGULATE and LATCHED_OFF (R190). -/
inductive ChanState where
  | off | discharge | softstart | regulate | degraded | hiccup | latchedOff
deriving DecidableEq, Repr

/-- Phase states (R160). -/
inductive PhaseState where | unused | member | standby | spareIn | dropped
deriving DecidableEq, Repr

/-- The level of a PH output (R161). -/
inductive PhLevel where | high | low | hiZ
deriving DecidableEq, Repr

/-- One regulator channel VRn (chapter 06). -/
structure Chan where
  /-- VRn.STATE. [3; R171, 06; reset OFF] -/
  st : ChanState := .off
  /-- FLAGS.SENSE_OPEN. [1; R182, 06; reset false] -/
  senseOpen : Bool := false
  /-- The sense comparison has stayed within 75 mV for 10 ms since the line opened (R182). [1; R182, 06; reset false] -/
  senseBack : Bool := false
  /-- FLAGS.SPARE_USED. [1; R185, 06; reset false] -/
  spareUsed : Bool := false
  /-- FLAGS.TAKEOVER. [1; R185, 06; reset false] -/
  takeover : Bool := false
  /-- The dropped member whose position the spare takes (R185). [option 5; R185, 06; reset none] -/
  takePos : Option Nat := none
  /-- FLAGS.VIN_LOW. [1; R176, 06; reset false] -/
  vinLow : Bool := false
  /-- FLAGS.CURRENT_LIMIT. [1; R178, 06; reset false] -/
  curLimit : Bool := false
  /-- FLAGS.ENABLE_HELD. [1; R171, 06; reset false] -/
  enableHeld : Bool := false
  /-- FLAGS.MARGINED. [1; R226, 07; reset false] -/
  margined : Bool := false
  /-- FLAGS.DISCH_SUSPENDED. [1; R175, 06; reset false] -/
  disSusp : Bool := false
  /-- VRn.HICCUPS. [8, saturating; R180, 06; reset 0] -/
  hiccups : Nat := 0
  /-- Cause of LATCHED_OFF, 0 none (R474). [4; R474, 06; reset 0] -/
  latchCause : Nat := 0
  /-- UV is reported (RAIL_UV) and not yet recovered. [1; R176, 06; reset false] -/
  uvOn : Bool := false
  /-- OV seen and not yet recovered (R474). [1; R474, 06; reset false] -/
  ovOn : Bool := false
  /-- Margin in 0.25 % steps. [S16; R225, 07; reset 0] -/
  margin : Int := 0
  /-- Reference referred to the output at the start of the present ramp or slew, mV (R170, R173). [number; R173, 06; reset 0] -/
  refMv : Nat := 0
  /-- Target set point at the output, mV: VOUT_MV, margined, or the PD contract. [number; R170, 06; reset 0] -/
  setMv : Nat := 0
  /-- Device time at which the reference stood at `refMv`, us (R170, R173, R175). [number; R170, 06; reset 0] -/
  refAt : Nat := 0
  /-- The lowest and the highest set point whose windows are united while a margin changes (R227). [option; R227, 07; reset none] -/
  wide : Option (Nat × Nat) := none
  /-- A slew is in progress. [1; R170, 06; reset false] -/
  slewing : Bool := false
  /-- Attenuator in use: VRn.ATT, or the PD choice of R335. [3; R335, 11; reset 1] -/
  att : Nat := 1
  /-- Injection amplitude fixed at the soft start: mV of one member's ramp at VIN_NOM_MV and the set point (R166).
  [number; R166, 06; reset 0] -/
  injGain : Nat := 0
  /-- (v_link - v_set) x t_on, mV x taps, at which a member's ramp has that amplitude (R166). [number; R166, 06; reset 0] -/
  injRef : Nat := 0
  /-- Sensed output, mV. [number; R171, 06; reset DESIGN CHOICE 0 (log 1)] -/
  outMv : Nat := 0
  /-- PGn released (good). [1; R189, 06; reset false] -/
  pg : Bool := false
  /-- Position of the last member served in the rotation (R164, R185). [option 5; R164, 06; reset none] -/
  rot : Option Nat := none
  /-- A comparator trip is held for the first ready member (R164). [1; R164, 06; reset false] -/
  heldTrip : Bool := false
  /-- Consecutive trips in current limit below 30 % (R180). [4; R180, 06; reset 0] -/
  shortTrips : Nat := 0
  /-- Moment the trims were last preset, device time us (R185). [number; R185, 06; reset 0] -/
  trimAt : Nat := 0
  /-- Moment of the last disable, device time us (R213, R219). [number; R213, 07; reset 0] -/
  disabledAt : Nat := 0
  /-- Moment of the last enable, device time us (R203). [option; R203, 07; reset none] -/
  enabledAt : Option Nat := none
deriving DecidableEq, Repr

/-- One phase PHk (chapter 06). -/
structure Phase where
  /-- PHk.STATE. [3; R160, 06; reset UNUSED] -/
  st : PhaseState := .unused
  /-- PH output. [enum; R161, 06; reset high-impedance] -/
  level : PhLevel := .hiZ
  /-- On-time running, its length in 65.1 ps taps. [option; R162, 06; reset none] -/
  onTaps : Option Nat := none
  /-- Minimum off-time not yet elapsed (R163). [1; R164, 06; reset false] -/
  minOff : Bool := false
  /-- Held by the valley limit (R176). [1; R176, 06; reset false] -/
  valley : Bool := false
  /-- Truncated by the peak limit in its present cycle (R176). [1; R176, 06; reset false] -/
  peak : Bool := false
  /-- trim_k in 0.01 %. [S16; R165, 06; reset 0] -/
  trim : Int := 0
  /-- Its loss pick has been cleared (R188). [1; R188, 06; reset false] -/
  cleared : Bool := false
  /-- Its channel has been OFF since the drop (R188). [1; R188, 06; reset false] -/
  wasOff : Bool := false
  /-- IMON in range and within the STANDBY band for 10 ms (R188). [1; R188, 06; reset true] -/
  imonOk : Bool := true
  /-- PHk.L_EST, nH. [32; R192, 06; reset from NVM, 0 when none] -/
  lEst : Nat := 0
  /-- PHk.R_EST, uOhm. [32; R192, 06; reset from NVM, 0 when none] -/
  rEst : Nat := 0
  /-- Ripple injection of its last on-time: its ramp, peak to peak, uV at the comparator (R166). [number; R166, 06; reset 0] -/
  ramp : Nat := 0
  /-- IMON in mA, cycle average. [number; R161, 06; reset DESIGN CHOICE 0 (log 1)] -/
  imon : Int := 0
deriving DecidableEq, Repr

/-- One LDO (R190). -/
structure Ldo where
  /-- LDOn.STATE. [3; R190, 06; reset OFF] -/
  st : ChanState := .off
  /-- Output, mV. [number; R190, 06; reset DESIGN CHOICE 0 (log 1)] -/
  outMv : Nat := 0
  /-- An enable is held (R219). [1; R219, 07; reset false] -/
  enableHeld : Bool := false
  /-- Moment of the last disable, us. [number; R213, 07; reset 0] -/
  disabledAt : Nat := 0
  /-- Moment of the last enable, us. [option; R203, 07; reset none] -/
  enabledAt : Option Nat := none
deriving DecidableEq, Repr

/-- Enable rail states (R200). -/
inductive EnState where | off | discharge | on
deriving DecidableEq, Repr

/-- One enable output (R199, R200). -/
structure En where
  /-- ENn.STATE; ON is the latch asserted. [2; R200, 07; reset OFF] -/
  st : EnState := .off
  /-- High-impedance: from POR until the image is loaded (R199). [1; R199, 07; reset true] -/
  hiZ : Bool := true
  /-- An enable is held (R219). [1; R219, 07; reset false] -/
  enableHeld : Bool := false
  /-- Moment of the last disable, us. [number; R200, 07; reset 0] -/
  disabledAt : Nat := 0
  /-- Moment of the last enable, us. [option; R203, 07; reset none] -/
  enabledAt : Option Nat := none
deriving DecidableEq, Repr

/-- One monitor (R201, R202). -/
structure Mon where
  /-- UV comparator. [1; R202, 07; reset false] -/
  uv : Bool := false
  /-- OV comparator. [1; R202, 07; reset false] -/
  ov : Bool := false
  /-- OFF comparator (below OFF). [1; R202, 07; reset false] -/
  off : Bool := false
  /-- Evaluated (MONm.STATE [3]). [1; R203, 07; reset false] -/
  eval : Bool := false
  /-- The image has written its thresholds (R202). [1; R202, 07; reset false] -/
  written : Bool := false
  /-- UV, OV and OFF DAC codes in force. [3 x 10; R201, 07; reset 0] -/
  uvCode : Nat := 0
  ovCode : Nat := 0
  offCode : Nat := 0
  /-- The UV and the OV comparator are on: their threshold is not 0 mV (R202). [2; R202, 07; reset false] -/
  uvEn : Bool := false
  ovEn : Bool := false
  /-- The window is widened while a threshold or a margin changes (R227, R229). [1; R227, 07; reset false] -/
  widened : Bool := false
deriving DecidableEq, Repr

/-- Group states (R209). -/
inductive GroupState where
  | down | upRun | up | downRun | backoff | failed | interrupted | halted | partialUp | unused
deriving DecidableEq, Repr

/-- What follows the power-down walk of a group. -/
inductive AfterDown where
  /-- DOWN. -/
  | toDown
  /-- Reversal of a failed attempt: back-off and a new attempt, or FAILED (R211). -/
  | retry
  /-- Reversal of the last failed attempt: FAILED (R211). -/
  | toFailed
  /-- FAULT_ACT CYCLE: back-off, then a new series (R216). -/
  | cycle
deriving DecidableEq, Repr

/-- A command by port and tag. -/
structure CmdRef where
  port : Port
  tag : Tag
deriving DecidableEq, Repr

/-- One sequencer group context (R209). -/
structure Group where
  /-- Group state. [4; R209, 07; reset unused] -/
  st : GroupState := .unused
  /-- The state as of the last chip reset, INTERRUPTED for a sequence, until the group is read back (R37, R221). [4; R221, 07; reset
  unused] -/
  was : GroupState := .unused
  /-- Present step index in SEQ.STEPS. [7; R207, 07; reset 0] -/
  step : Nat := 0
  /-- The present step has started, at this device time us. [option; R207, 07; reset none] -/
  stepAt : Option Nat := none
  /-- The present WAIT_TIME has elapsed. [1; R207, 07; reset false] -/
  waitOver : Bool := false
  /-- WAIT_EVENT private edge latch. [1; R207, 07; reset false] -/
  evLatch : Bool := false
  /-- EIC source that the present WAIT_EVENT step waits for. [option 8; R207, 07; reset none] -/
  evSrc : Option Nat := none
  /-- Last step started in this attempt. [7; R210, 07; reset 0] -/
  last : Nat := 0
  /-- Attempts of the present or most recent series. [4; R211, 07; reset 0] -/
  attempts : Nat := 0
  /-- Step of the last failure, 0xFF none. [8; R223, 07; reset 0xFF] -/
  failStep : Nat := 0xFF
  /-- Cause of the last failure. [4; R223, 07; reset 0] -/
  failCause : Nat := 0
  /-- The walk of a reversal has ended and the back-off runs (R211). [1; R211, 07; reset false] -/
  backoffWait : Bool := false
  /-- What follows the walk. [enum; R211, 07; reset DOWN] -/
  after : AfterDown := .toDown
  /-- The rail being waited for has been disabled at this time, us (R212). [option; R212, 07; reset none] -/
  railAt : Option Nat := none
  /-- Rails taken as off in this power-down (R213). [8; R213, 07; reset 0] -/
  takenOff : Nat := 0
  /-- Step of a halt, 0xFF none. [8; R223, 07; reset 0xFF] -/
  haltStep : Nat := 0xFF
  /-- Off by R220: the walk is not used, rails fall on their own. [1; R220, 07; reset false] -/
  immediate : Bool := false
  /-- GROUP_UP commands joined. [list; R217, 07; reset empty] -/
  upCmds : List CmdRef := []
  /-- GROUP_DOWN commands joined. [list; R217, 07; reset empty] -/
  downCmds : List CmdRef := []
  /-- A power-up is held behind the running power-down; its commands. [option; R218, 07; reset none] -/
  heldUp : Option (List CmdRef) := none
  /-- SEQ.RETRIES, BACKOFF_MS, DOWN_EXT_MS and STUCK_ACT as of the start of the sequence (R228). [4 numbers; R228, 07;
  reset 0] -/
  retries : Nat := 0
  backoffMs : Nat := 0
  extMs : Nat := 0
  stuckHalt : Bool := false
  /-- Device time at which the bound of the running sequence ends, us (R224). [number; R224, 07; reset 0] -/
  boundAt : Nat := 0
deriving DecidableEq, Repr

/-- A rail that RAIL_OFF, R220 or a thermal shutdown disabled and that has not yet been found off (R222). -/
structure RailWait where
  rail : Rail
  /-- The RAIL_OFF waiting, if any. -/
  cmd : Option CmdRef
deriving DecidableEq, Repr

/-- The regulators, LDOs, enables, monitors and the sequencer. -/
structure Pwr where
  /-- VR0 to VR11. [12; R159, 06] -/
  vr : Vector Chan 12 := Vector.replicate 12 {}
  /-- PH0 to PH23. [24; R160, 06] -/
  ph : Vector Phase 24 := Vector.replicate 24 {}
  /-- LDO0 to LDO7. [8; R190, 06] -/
  ldo : Vector Ldo 8 := Vector.replicate 8 {}
  /-- EN0 to EN15. [16; R199, 07] -/
  en : Vector En 16 := Vector.replicate 16 {}
  /-- MON0 to MON31. [32; R201, 07] -/
  mon : Vector Mon 32 := Vector.replicate 32 {}
  /-- Sequencer groups 0 to 7. [8; R209, 07] -/
  grp : Vector Group 8 := Vector.replicate 8 {}
  /-- Groups still to auto-start, in order (R215). [list; R215, 07; reset empty] -/
  autoQueue : List (Fin 8) := []
  /-- Groups still to power down of GROUP_DOWN 0xFF, in order (R215). [list; R215, 07; reset empty] -/
  allDown : List (Fin 8) := []
  /-- GROUP_DOWN 0xFF commands waiting. [list; R215, 07; reset empty] -/
  allDownCmds : List CmdRef := []
  /-- Groups the present GROUP_DOWN 0xFF has acted on (R223). [list; R223, 07; reset empty] -/
  allDownDone : List (Fin 8) := []
  /-- Groups whose power-down a carried monitor fault has asked for before they are read back (R204). [list; R204, 07; reset empty] -/
  carriedDown : List (Fin 8) := []
  /-- Rails being turned off outside a group's walk. [list; R222, 07; reset empty] -/
  railWaits : List RailWait := []
deriving DecidableEq, Repr

end Sys2Proof.Machine
end

