-- ==== Sys2Proof/Machine/StateStore.lean ====
section
/-! DEFINITION. State of the parameters, the NVM, the OTP, the flash and the calendar (chapters 03, 14). -/

namespace Sys2Proof.Machine

/-- Parameter values. Key: parameter ID x 1024 + word index; an absent key reads as the table's default. -/
structure Params where
  /-- Live values (R101). [sparse; R15, 00; reset defaults] -/
  live : Sparse Int := []
  /-- Values of the active configuration image (R15). [sparse; R15, 00; reset none: no image loaded] -/
  img : Sparse Int := []
  /-- Image values of a carried rail, pending until it is next off (R48). [sparse; R48, 02; reset none] -/
  pend : Sparse Int := []
deriving DecidableEq, Repr

/-- One ring log: its entries as words, newest last; the newest `staged` ones are not yet in NVM (R407). -/
structure LogRing where
  /-- Entries of 8 words, newest last. [list; R404, 14; reset from NVM, empty when none] -/
  entries : List (List W) := []
  /-- How many of the newest are still staged in the log region. [number; R407, 14; reset 0] -/
  staged : Nat := 0
  /-- SEQ of the next entry. [16; R236, R268, R408; reset 0] -/
  next : BitVec 16 := 0
  /-- Entries ever written in NVM, for the page of an entry (R406). [number; R404, 14; reset 0] -/
  written : Nat := 0
deriving DecidableEq, Repr

/-- Calendar fields (R434). -/
structure Calendar where
  sec : Nat := 0
  min : Nat := 0
  hour : Nat := 0
  day : Nat := 1
  wday : Nat := 6
  month : Nat := 1
  year : Nat := 0
deriving DecidableEq, Repr

/-- What a kettle set holds (R269, R144, R154, R393, R410). -/
structure KettleSet where
  /-- Every page passes its checks (R411). -/
  complete : Bool
  /-- Run number in force (R410). -/
  run : Nat
  /-- Device time of the save, us. -/
  time : Nat
  /-- Timestamp, s since 2000, and whether the RTC was valid. -/
  ts : Nat
  tsValid : Bool
  /-- The calendar at the save (R263). -/
  cal : Calendar
  est : Est
  /-- Caddy entries not yet in the NVM log (R235). -/
  staged : List (List W)
  chg : Chg
  transfers : Nat
  first : Option Evidence
  recent : List Evidence
  violations : Nat
deriving DecidableEq, Repr

/-- A fault set (R358). -/
structure FaultSet where
  complete : Bool
  frozen : List SelvRec
  ring : List SelvRec
  received : Nat
  stored : Nat
  dropped : Nat
  time : Nat
deriving DecidableEq, Repr

/-- The learned data (R404, R407). -/
structure LearnedSet where
  ocv : Option EstTable
  cap : Option EstTable
  rs : Option EstTable
  qFull : Option Nat
  sigC : Nat
  learnCount : Nat
  learnTs : Nat
  /-- PHk.L_EST and PHk.R_EST. -/
  ph : List (Nat × Nat)
deriving DecidableEq, Repr

/-- The NVM (chapter 14). -/
structure Nvm where
  /-- Parameter store: complete copies by copy number, newest first; empty: neither copy is complete (R409). [4 pages x 2;
  R404, 14; reset DESIGN CHOICE empty: a blank part (log 1)] -/
  params : List (Nat × Sparse Int) := []
  /-- Learned data: complete copies by copy number, newest first. [4 pages x 2; R404, 14; reset DESIGN CHOICE empty
  (log 1)] -/
  learned : List (Nat × LearnedSet) := []
  /-- Tables whose NVM copy has failed its check with no copy left (R249). [list; R249, 08; reset empty] -/
  lostTables : List TableKind := []
  /-- Learned data changed since the last write (R407). [1; R407, 14; reset false] -/
  learnedDirty : Bool := false
  /-- Kettle-set slots by slot number, newest first. [2 slots; R404, 14; reset DESIGN CHOICE empty (log 1)] -/
  kettle : List (Nat × KettleSet) := []
  /-- Fault sets by slot number, newest first. [5 slots; R358, 14; reset DESIGN CHOICE empty (log 1)] -/
  faultSets : List (Nat × FaultSet) := []
  /-- Test log. [256 entries, the newest 128 reported; R404, 14; reset DESIGN CHOICE empty (log 1)] -/
  test : LogRing := {}
  /-- Caddy log. [512 entries; R404, 14; reset DESIGN CHOICE empty (log 1)] -/
  caddy : LogRing := {}
  /-- Event log. [512 entries; R404, 14; reset DESIGN CHOICE empty (log 1)] -/
  event : LogRing := {}
  /-- Run number of the newest START entry (R410). [32; R410, 14; reset DESIGN CHOICE 0 (log 1)] -/
  run : Nat := 0
  /-- Identity page, word by word. [64 x 32; R413, 14; reset DESIGN CHOICE 0 (log 1)] -/
  idPage : Sparse W := []
  /-- The identity page fails its ECC. [1; R413, 14; reset false] -/
  idBad : Bool := false
  /-- Area pages that spare pages 239, 240, ... replace, in order; NVM.RETIRED is their number. [at most 17; R406, 14;
  reset DESIGN CHOICE empty (log 1)] -/
  spares : List Nat := []
  /-- Area pages lost with no spare left (R406). [list; R406, 14; reset DESIGN CHOICE empty (log 1)] -/
  lost : List Nat := []
deriving DecidableEq, Repr

/-- The OTP and the shadows of its start-up fields (R414, R415). -/
structure Otp where
  /-- OTP words. [512 x 32; R414, 14; reset DESIGN CHOICE 0: an unprogrammed part in RAW (log 1)] -/
  words : Sparse W := []
  /-- The words as the last digest check shadowed them (R415). [512 x 32; R415, 14; reset 0] -/
  shadow : Sparse W := []
deriving DecidableEq, Repr

/-- Flash, boot selection and image facts (R424 to R433). -/
structure Fw where
  /-- Flash bytes. [4 MB; R424, 14; reset DESIGN CHOICE erased (log 7)] -/
  flash : Mem := []
  /-- Bytes programmed since they were last erased (R431). [4 M x 1; R431, 14; reset DESIGN CHOICE none (log 7)] -/
  prog : Sparse Bool := []
  /-- Bank B is the booted, active bank (ID_BANK.BANK). [1; R428, 14; reset A] -/
  bankB : Bool := false
  /-- PD slot in use. [1; R428, 14; reset 0] -/
  pdSel : Bool := false
  /-- A trial of the booted bank is in progress. [1; R433, 14; reset false] -/
  trial : Bool := false
  /-- A trial of the PD slot is in progress. [1; R433, 14; reset false] -/
  pdTrial : Bool := false
  /-- The last boot reverted. [1; R440, 14; reset false] -/
  reverted : Bool := false
  /-- Image facts as last verified. [option; R426, 14; reset none] -/
  facts : Option BootFacts := none
  /-- A region of the inactive bank has been written since it was verified. [1; R431, 14; reset false] -/
  written : Bool := false
  /-- A rollback burn waits for the conditions of R417 (R430). [1; R430, 14; reset false] -/
  burnDue : Bool := false
  /-- Version of the PD image loaded into the PD core. [option 32; R428, 14; reset none] -/
  pdVersion : Option W := none
deriving DecidableEq, Repr

/-- The kettle reserve (R412). -/
structure Reserve where
  /-- Ready. [1; R412, 14; reset false] -/
  ready : Bool := false
  /-- The reserve feeds the housekeeping input. [1; R411, 14; reset false] -/
  switched : Bool := false
  /-- KETTLE_LOW by voltage has been raised since the reserve was last ready. [1; R412, 14; reset false] -/
  lowVolt : Bool := false
  /-- KETTLE.C_EST_UF. [U16; R412, 14; reset 0] -/
  cEst : Nat := 0
deriving DecidableEq, Repr

/-- What one port has of the RTC (R435). -/
structure RtcPort where
  /-- The port's shadows; some while FROZEN. [calendar; R435, 14; reset none] -/
  shadow : Option Calendar := none
deriving DecidableEq, Repr

/-- The calendar in the AON domain (R434 to R439). -/
structure Rtc where
  /-- Calendar. [fields of R434; R434, 14; reset 2000-01-01 00:00:00, WDAY 6] -/
  cal : Calendar := {}
  /-- SUBSEC. [15; R434, 14; reset 0] -/
  subsec : BitVec 15 := 0
  /-- CAL. [8; R434, 14; reset 0x00] -/
  ppm : BitVec 8 := 0
  /-- ALM0_F and ALM1_F. [2; R434, 14; reset 0] -/
  alm0F : Bool := false
  alm1F : Bool := false
  /-- SET_TIMEOUT. [1; R434, 14; reset 0] -/
  setTimeout : Bool := false
  /-- WR_ERR. [1; R434, 14; reset 0] -/
  wrErr : Bool := false
  /-- LOCKOUT_WR. [1; R434, 14; reset 0] -/
  lockoutWr : Bool := false
  /-- BKUP_LOW. [1; R434, 14; reset 0] -/
  bkupLow : Bool := false
  /-- Lock-out of VCC5 and of VDDIO. [2; R439, 14; reset 0] -/
  lockVcc5 : Bool := false
  lockVddio : Bool := false
  /-- ON_BKUP. [1; R434, 14; reset 0] -/
  onBkup : Bool := false
  /-- RC. [1; R434, 14; reset 0] -/
  rc : Bool := false
  /-- VALID. [1; R434, 14; reset 0] -/
  valid : Bool := false
  /-- RTC_ALM0 and RTC_ALM1 [30:0]. [2 x 31; R434, 14; reset 0] -/
  alm0 : BitVec 31 := 0
  alm1 : BitVec 31 := 0
  /-- OWNER of alarm 0 and alarm 1. [2; R434, 14; reset 0] -/
  own0 : Bool := false
  own1 : Bool := false
  /-- Counting is held (R436). [1; R436, 14; reset false] -/
  held : Bool := false
  /-- The VDDIO class is 3.3 V, sampled at POR (R439). [1; R439, 14; reset true] -/
  vddio33 : Bool := true
  /-- Per-port shadows: SPI A, SPI B, I2C. [3 structs; R435, 14] -/
  spia : RtcPort := {}
  spib : RtcPort := {}
  i2c : RtcPort := {}
  /-- Correction of the calendar by the RC measurement, ppm (R437). [number; R437, 14; reset 0] -/
  rcPpm : Int := 0
deriving DecidableEq, Repr

/-- Everything that outlives power, and the parameters. -/
structure Store where
  /-- Parameters. [struct; R15, 00] -/
  par : Params := {}
  /-- NVM. [struct; R404, 14] -/
  nvm : Nvm := {}
  /-- OTP. [struct; R414, 14] -/
  otp : Otp := {}
  /-- Flash and firmware. [struct; R424, 14] -/
  fw : Fw := {}
  /-- Kettle reserve. [struct; R412, 14] -/
  res : Reserve := {}
  /-- RTC. [struct; R434, 14] -/
  rtc : Rtc := {}
deriving DecidableEq, Repr

end Sys2Proof.Machine
end

