-- ==== Sys2Proof/Machine/State.lean ====
section
/-! DEFINITION. The whole state of the block, the outcomes of a step that are no next state, and the state right after
power-on reset. -/

namespace Sys2Proof.Machine

/-- The state of the block: everything the manual gives it, and the commands that wait. -/
structure State where
  /-- Modes, resets, clocks, power states and the draft (chapters 01, 02). -/
  sys : Sys := {}
  /-- The host interface (chapter 03). -/
  hif : Hif := {}
  /-- The power path and the link (chapter 04). -/
  path : Path := {}
  /-- The charger (chapter 05). -/
  chg : Chg := {}
  /-- Regulators, LDOs, enables, monitors and the sequencer (chapters 06, 07). -/
  pwr : Pwr := {}
  /-- The battery estimator (chapter 08). -/
  est : Est := {}
  /-- The acquisition (chapter 09). -/
  acq : Acq := {}
  /-- Temperature (chapter 10). -/
  therm : Therm := {}
  /-- The USB ports (chapter 11). -/
  pd : Pd := {}
  /-- The Selvedge (chapter 12). -/
  selv : Selv := {}
  /-- The event controller (chapter 12). -/
  eic : Eic := {}
  /-- GPIO0 to GPIO15 (chapter 12). -/
  gpio : Vector Gpio 16 := Vector.replicate 16 {}
  /-- The Heddle watchdog (chapter 13). -/
  heddle : Heddle := {}
  /-- Parameters, NVM, OTP, flash, RTC (chapters 03, 14). -/
  store : Store := {}
  /-- Commands and events waiting to be carried out, first in, first out: the model's own queue. -/
  pending : List Instr := []
deriving DecidableEq, Repr

/-- Reasons for a fault of the block. No meaning of this model raises one: the manual gives every row an effect. -/
inductive Fault where
  /-- Raised by no meaning; kept so that the type is not empty (safe). -/
  | none_
deriving DecidableEq, Repr

/-- Reasons for a refusal. -/
inductive Refusal where
  /-- The row `mnemonic` of the opcode table has no meaning in this model: raised by an arm of exec only (safe: the run
  stops by name). -/
  | notModelled (mnemonic : String)
deriving DecidableEq, Repr

/-- The machine right after power-on reset is released with good supplies (R43, R45): every field as the manual gives it,
and where it gives none as log entry 1 names; RSTCAUSE takes the cause VIN as the last step of the POR. -/
def State.reset : State := { sys := { rstBits := 0x0001 } }

end Sys2Proof.Machine
end

