-- ==== Sys2Proof/Machine/Ops.lean ====
section
/-! DEFINITION. The operations that meanings share: state updates by part, parameters, free values, host events, picks,
event latches, command slots and completions. -/

namespace Sys2Proof.Machine

/-- The result type of exec and step. -/
abbrev Out := Host.Outcome State Fault Refusal

/-! ### Updates of one part of the state -/

/-- Change the system part. -/
def State.onSys (f : Sys → Sys) (s : State) : State := { s with sys := f s.sys }
/-- Change the host interface. -/
def State.onHif (f : Hif → Hif) (s : State) : State := { s with hif := f s.hif }
/-- Change the power path. -/
def State.onPath (f : Path → Path) (s : State) : State := { s with path := f s.path }
/-- Change the charger. -/
def State.onChg (f : Chg → Chg) (s : State) : State := { s with chg := f s.chg }
/-- Change the regulators and the sequencer. -/
def State.onPwr (f : Pwr → Pwr) (s : State) : State := { s with pwr := f s.pwr }
/-- Change the estimator. -/
def State.onEst (f : Est → Est) (s : State) : State := { s with est := f s.est }
/-- Change the acquisition. -/
def State.onAcq (f : Acq → Acq) (s : State) : State := { s with acq := f s.acq }
/-- Change the temperature part. -/
def State.onTherm (f : Therm → Therm) (s : State) : State := { s with therm := f s.therm }
/-- Change the USB ports. -/
def State.onPd (f : Pd → Pd) (s : State) : State := { s with pd := f s.pd }
/-- Change the Selvedge. -/
def State.onSelv (f : Selv → Selv) (s : State) : State := { s with selv := f s.selv }
/-- Change the event controller. -/
def State.onEic (f : Eic → Eic) (s : State) : State := { s with eic := f s.eic }
/-- Change the GPIOs. -/
def State.onGpio (f : Vector Gpio 16 → Vector Gpio 16) (s : State) : State := { s with gpio := f s.gpio }
/-- Change the Heddle. -/
def State.onHeddle (f : Heddle → Heddle) (s : State) : State := { s with heddle := f s.heddle }
/-- Change the parameters. -/
def State.onPar (f : Params → Params) (s : State) : State := { s with store := { s.store with par := f s.store.par } }
/-- Change the NVM. -/
def State.onNvm (f : Nvm → Nvm) (s : State) : State := { s with store := { s.store with nvm := f s.store.nvm } }
/-- Change the OTP. -/
def State.onOtp (f : Otp → Otp) (s : State) : State := { s with store := { s.store with otp := f s.store.otp } }
/-- Change the firmware part. -/
def State.onFw (f : Fw → Fw) (s : State) : State := { s with store := { s.store with fw := f s.store.fw } }
/-- Change the kettle reserve. -/
def State.onRes (f : Reserve → Reserve) (s : State) : State := { s with store := { s.store with res := f s.store.res } }
/-- Change the calendar part. -/
def State.onRtc (f : Rtc → Rtc) (s : State) : State := { s with store := { s.store with rtc := f s.store.rtc } }

/-- Do `f` when `c` holds. -/
def when_ (c : Bool) (f : State → State) (s : State) : State := if c then f s else s

/-! ### Numbers -/

/-- Division whose rounding the manual does not state: the quotient rounded down or up, as `Config.roundUp` leaves open
(log entry 4). -/
def rdiv (n d : Int) : Int :=
  let q := n.fdiv d
  if d = 0 then 0 else if q * d = n then q else if Config.roundUp n d then q + 1 else q

/-- Division in the manual's pseudocode: toward zero (chapter 00). -/
def tquot (n d : Int) : Int := if d = 0 then 0 else n.tdiv d

/-- `tquot` on natural numbers. -/
def tquotN (n d : Nat) : Nat := n / d

/-- `rdiv` on natural numbers. -/
def rdivN (n d : Nat) : Nat := (rdiv n d).toNat

/-- Clamp to an interval. -/
def clampI (lo hi x : Int) : Int := max lo (min hi x)

/-! ### Free values -/

/-- Take the next free value: advance the model's counter (log entry 3). -/
def takeFree (s : State) : State := s.onSys (fun y => { y with free := y.free + 1 })

/-- The next free word. -/
def freeW (s : State) : W := Config.freeWord s.sys.free

/-- The next free bit. -/
def freeB (s : State) : Bool := Config.freeBit s.sys.free

/-! ### Time -/

/-- The next multiple of `period` at or after device time and after this tick's last one (log entry 2). -/
def nextTick (id period : Nat) (s : State) : Nat :=
  let last := sget 0 s.sys.ticks id
  let up := fun x => ((x + period - 1) / period) * period
  max (up s.sys.devTime) (if last = 0 then 0 else up last)

/-- Advance device time to the next tick `id` of `period` us (log entry 2). -/
def tickTo (id period : Nat) (s : State) : State :=
  let t := nextTick id period s
  s.onSys (fun y => { y with devTime := t, ticks := sset 0 y.ticks id (t + 1) })

/-- A list of moments without those `span` us or more before now. -/
def recentUs (span now : Nat) (l : List Nat) : List Nat := l.filter (fun t => decide (now < t + span))

/-! ### Parameters -/

/-- Key of word `i` of parameter `id`. -/
def pkey (id i : Nat) : Nat := id * 1024 + i

/-- Look a key up in a sparse map. -/
def sfind {α : Type} : Sparse α → Nat → Option α
  | [], _ => none
  | (i, v) :: m, k => if i = k then some v else sfind m k

/-- Reserved EIC sources (R472). -/
def eicReserved (n : Nat) : Bool :=
  (139 ≤ n && n ≤ 143) || (156 ≤ n && n ≤ 159) || (172 ≤ n && n ≤ 175) || n == 203 || n == 210 || n == 211 ||
    (228 ≤ n && n ≤ 231) || 248 ≤ n

/-- Default priority, target mask and storm exemption of an EIC source (R471). Target bits: CMD 1, SAF 2, PD core 4,
SH0 8, SH1 16, SH2 32, SH3 64, SH4 128, SH5 256. -/
def eicDefault3 (n : Nat) : Nat × Nat × Nat :=
  if eicReserved n then (0, 0, 0)
  else if n ≤ 15 then (8, 1, 0)
  else if n ≤ 47 then (6, 257, 0)
  else if n ≤ 63 then (6, 1, 0)
  else if n ≤ 69 then (12, 33, 0)
  else if n ≤ 75 then (12, 65, 0)
  else if n ≤ 83 then (8, 1, 0)
  else if n ≤ 115 then (12, 3, 0)
  else if n ≤ 123 then (10, 3, 0)
  else if n = 124 then (15, 11, 1)
  else if n = 125 then (14, 9, 0)
  else if n ≤ 129 then (13, 8, 0)
  else if n = 130 then (13, 9, 0)
  else if n ≤ 132 then (14, 9, 0)
  else if n ≤ 134 then (13, 8, 0)
  else if n = 135 then (15, 11, 0)
  else if n = 136 then (14, 8, 0)
  else if n = 137 then (10, 9, 0)
  else if n = 138 then (12, 16, 0)
  else if n = 144 then (13, 3, 0)
  else if n ≤ 152 then (12, 3, 0)
  else if n = 153 then (15, 3, 0)
  else if n = 154 then (8, 257, 0)
  else if n = 155 then (4, 256, 0)
  else if n ≤ 165 then (10, 3, 0)
  else if n ≤ 167 then (8, 1, 0)
  else if n = 168 then (6, 129, 0)
  else if n = 169 then (9, 128, 0)
  else if n = 170 then (6, 1, 0)
  else if n = 171 then (9, 16, 0)
  else if n ≤ 183 then (6, 385, 0)
  else if n ≤ 185 then (7, 256, 0)
  else if n = 186 then (8, 257, 0)
  else if n = 187 then (4, 256, 0)
  else if n = 188 || n = 191 then (10, 4, 0)
  else if n = 189 || n = 192 then (14, 5, 0)
  else if n = 190 || n = 193 then (10, 4, 0)
  else if n = 194 then (9, 3, 0)
  else if n = 195 then (9, 4, 0)
  else if n ≤ 199 then (11, 3, 1)
  else if n ≤ 202 then (14, 3, 1)
  else if n = 204 then (15, 2, 0)
  else if n ≤ 206 then (15, 3, 0)
  else if n = 207 then (15, 1, 0)
  else if n = 208 then (15, 2, 0)
  else if n = 209 then (4, 3, 0)
  else if n ≤ 217 then (8, 1, 0)
  else if n = 218 then (15, 1, 1)
  else if n = 219 then (8, 1, 0)
  else if n = 220 then (14, 3, 0)
  else if n = 221 then (12, 3, 0)
  else if n = 222 then (8, 1, 0)
  else if n = 223 then (12, 2, 0)
  else if n = 224 then (14, 3, 0)
  else if n ≤ 227 then (10, 3, 0)
  else (2, 1, 0)

/-- EIC sources whose PRIO, TARGETS and STORM_EXEMPT are fixed (R471, R472). -/
def eicFixed (n : Nat) : Bool :=
  eicReserved n || n == 124 || n == 125 || n == 135 || n == 144 || n == 153 || n == 163 ||
    (188 ≤ n && n ≤ 202) || (204 ≤ n && n ≤ 208) || n == 218 || n == 220 || n == 221 || n == 223 || n == 224

/-- The default word of EIC.SRCn. -/
def eicDefault (n : Nat) : Int :=
  let d := eicDefault3 n
  (d.1 + 16 * d.2.1 + 8192 * d.2.2 : Nat)

/-- Default of word `i` of a parameter: the table's, with the defaults that R349, R386 and R471 give by other means. -/
def paramDefault (id i : Nat) : Int :=
  if 0x9100 ≤ id && id < 0x9200 then eicDefault (id - 0x9100)
  else if id = Pid.PD_SRC_PDO 0 || id = Pid.PD_SRC_PDO 1 then (if i = 0 then 0x8001912C else 0)
  else match paramInfo id with
    | none => 0
    | some r => r.dflt

/-- The live value of word `i` of a parameter (R101). -/
def pvw (id i : Nat) (s : State) : Int :=
  match sfind s.store.par.live (pkey id i) with
  | some v => v
  | none => paramDefault id i

/-- The live value of a one-word parameter. -/
def pv (id : Nat) (s : State) : Int := pvw id 0 s

/-- The live value of an unsigned parameter. -/
def pn (id : Nat) (s : State) : Nat := (pv id s).toNat

/-- A BOOL parameter. -/
def pb (id : Nat) (s : State) : Bool := decide (pv id s ≠ 0)

/-- A U64 parameter of two words, low word first. -/
def pn64 (id : Nat) (s : State) : Nat := (pvw id 0 s).toNat + 4294967296 * (pvw id 1 s).toNat

/-- Set a live parameter word. -/
def setPv (id i : Nat) (v : Int) (s : State) : State := s.onPar (fun p => { p with live := sput (pkey id i) v p.live })

/-! ### Ports -/

/-- The state of a port. -/
def Hif.port (h : Hif) : Port → PortState
  | .spia => h.spia
  | .spib => h.spib
  | .i2c => h.i2c
  | .internal => h.internal

/-- Change the state of a port. -/
def Hif.onPort (p : Port) (f : PortState → PortState) (h : Hif) : Hif :=
  match p with
  | .spia => { h with spia := f h.spia }
  | .spib => { h with spib := f h.spib }
  | .i2c => { h with i2c := f h.i2c }
  | .internal => { h with internal := f h.internal }

/-- The I2C target's address: 0x5A + 2 x ADDR1 + ADDR0 (R76). -/
def i2cAddress (s : State) : BitVec 7 := 0x5A#7 + s.hif.straps.setWidth 7

/-- A read of port `p` has ended with its last byte below `a`: on I2C the pointer follows it (R76). -/
def readPast (p : HPort) (a : Nat) (s : State) : State :=
  if p = .i2c then s.onHif (fun h => { h with i2cPtr := BitVec.ofNat 16 a }) else s

/-- Change the state of a port. -/
def onPort (p : Port) (f : PortState → PortState) (s : State) : State := s.onHif (Hif.onPort p f)

/-- A host port as a port. -/
def hport : HPort → Port
  | .spia => .spia
  | .spib => .spib
  | .i2c => .i2c

/-- The host ports. -/
def hostPorts : List Port := [.spia, .spib, .i2c]

/-- All ports, in the order of R71. -/
def allPorts : List Port := [.spia, .spib, .i2c, .internal]

/-- Port number: 0 SPI A, 1 SPI B, 2 I2C, 3 internal (R80, R466). -/
def portNo : Port → Nat
  | .spia => 0
  | .spib => 1
  | .i2c => 2
  | .internal => 3

/-- A number from bits, bit 0 first. -/
def bitsNat : List Bool → Nat
  | [] => 0
  | b :: l => b01 b + 2 * bitsNat l

/-- The error bits [7:0] of a port's HIF_STATUS. -/
def PortState.errBits (q : PortState) : Nat :=
  bitsNat [q.pecErr, q.crcErr, q.frmErr, q.addrErr, q.idxErr, q.noCredit, q.evqDrop, q.cqWait]

/-- A change of a port sets an error bit that was clear. -/
def newError (q r : PortState) : Bool := decide (r.errBits &&& q.errBits ≠ r.errBits)

/-- A change of a port from `q` to `r` is a new reason that IRQ_MASK enables: a posted completion, a posted event, an error bit
(R95, log entry 35). -/
def freshReason (q r : PortState) : Bool :=
  let i := q.cqTail.toNat
  let posted := q.cqTail != r.cqTail
  let m := r.irqMask
  (posted && (m.getLsbD 1 || (m.getLsbD 0 && r.cqNotify.getLsbD i) || (m.getLsbD 5 && r.cqSysgen.getLsbD i))) ||
    (m.getLsbD 2 && q.evqTail != r.evqTail) || (m.getLsbD 4 && newError q r)

/-- A new status in STICKY_SUMMARY, which IRQ_MASK.STICKY of the I2C port enables as a reason, lets HIRQC_N be asserted again (R95). -/
def Hif.newSticky (h : Hif) : Hif := if h.i2c.irqMask.getLsbD 3 then { h with alertReleased := false } else h

/-- After a change of port `p` from `old`: a new reason enabled on the I2C port lets HIRQC_N be asserted again (R95). -/
def newReason (p : Port) (old h : Hif) : Hif :=
  let h1 := if p = .i2c && freshReason old.i2c h.i2c then { h with alertReleased := false } else h
  if newError (old.port p) (h.port p) then h1.newSticky else h1

/-- A change on a host port that may be a new interrupt reason. -/
def onPortNew (p : Port) (f : PortState → PortState) (s : State) : State :=
  s.onHif (fun h => newReason p h (Hif.onPort p f h))

/-! ### Host events (R82, R379) -/

/-- The words of an event entry. -/
def eventWords (seq : BitVec 16) (code : Nat) (detail : W) (time : Nat) : List W :=
  [w32 (seq.toNat * 65536 + code % 65536), detail, wLo time, wHi time]

/-- Post an event at a port's event queue, or drop and count it when the queue is full (R82). -/
def PortState.postEvent (code : Nat) (detail : W) (time : Nat) (q : PortState) : PortState :=
  if q.evqTail + 1 = q.evqHead then
    { q with evSeq := q.evSeq + 1, dropped := satAdd 255 q.dropped 1, evqDrop := true }
  else
    { q with evSeq := q.evSeq + 1, evqTail := q.evqTail + 1,
             evqMem := Memory.writeWs .queue q.evqMem (16 * q.evqTail.toNat) (eventWords q.evSeq code detail time) }

/-- Raise a host event of R380 with its condition's time; CMD or SAF posts it (R379). Events raised while the digital
domain is in reset are not posted. -/
def raiseEvent (code : Nat) (detail : W) (s : State) : State :=
  if s.sys.inReset then s
  else s.onHif (fun h => { h with events := h.events ++ [{ code := code, detail := detail, time := s.sys.devTime }] })

/-! ### Picks (R351 to R357) -/

/-- The largest value of the 32-bit counts. -/
def max32 : Nat := 4294967295

/-- A pick from numbers. -/
def mkPick (src kind detail : Nat) : Pick :=
  { src := BitVec.ofNat 10 src, kind := BitVec.ofNat 6 kind, detail := BitVec.ofNat 16 detail }

/-- The pick as a word (R351). -/
def Pick.word (p : Pick) : W := p.src ++ p.kind ++ p.detail

/-- Deliver a pick to the intake: received always; dropped when the intake holds 16 (R354, R357). -/
def Selv.deliver (p : IntakePick) (v : Selv) : Selv :=
  if v.intake.length < 16 then
    { v with intake := v.intake ++ [p], received := satAdd max32 v.received 1 }
  else { v with received := satAdd max32 v.received 1, dropped := satAdd max32 v.dropped 1 }

/-- Sources whose trips the Power Frame, or AON for the clock monitor, keeps while the digital domain is in reset (R26,
R59). -/
def frameSource (src : Nat) : Bool :=
  src == 0x040 || (0x080 ≤ src && src ≤ 0x11F) || (0x140 ≤ src && src ≤ 0x144) || src == 0x148 || src == 0x1A0

/-- A protection sets its sticky flag, one for each source and kind: a further trip finds it set (R26). -/
def Selv.setFlag (f : FrameFlag) (v : Selv) : Selv :=
  if v.frameFlags.any (fun g => g.pick.src == f.pick.src && g.pick.kind == f.pick.kind) then v
  else { v with frameFlags := v.frameFlags ++ [f] }

/-- A checker raises a pick, with the host event that its rule posts beside it. While the digital domain is in reset a
Power Frame trip becomes a sticky flag (R26) and any other pick is not received (R362). -/
def raisePickEv (src kind detail : Nat) (ev : Option (Nat × W)) (s : State) : State :=
  if s.sys.inReset then
    if frameSource src then
      s.onSelv (Selv.setFlag { pick := mkPick src kind detail,
                               event := ev.map (fun e => { code := e.1, detail := e.2, time := s.sys.devTime }) })
    else s
  else
    let s1 := s.onSelv (Selv.deliver { pick := mkPick src kind detail, carried := false, time := s.sys.devTime })
    match ev with
    | none => s1
    | some e => raiseEvent e.1 e.2 s1

/-- A checker raises a pick. -/
def raisePick (src kind detail : Nat) (s : State) : State := raisePickEv src kind detail none s

/-! ### The event controller (R371 to R379) -/

/-- One EIC source. -/
def Eic.get (e : Eic) (n : Nat) : EicSrc := sget {} e.src n

/-- Change one EIC source. -/
def Eic.mod (n : Nat) (f : EicSrc → EicSrc) (e : Eic) : Eic := { e with src := sset {} e.src n (f (e.get n)) }

/-- PRIO of a source (R386). -/
def eicPrio (n : Nat) (s : State) : Nat := pn (Pid.EIC_SRC n) s % 16
/-- TARGETS of a source (R386). -/
def eicTargets (n : Nat) (s : State) : Nat := (pn (Pid.EIC_SRC n) s / 16) % 512
/-- STORM_EXEMPT of a source (R386). -/
def eicExempt (n : Nat) (s : State) : Bool := (pn (Pid.EIC_SRC n) s).testBit 13
/-- The mirror bit of a source for a host port (R386). -/
def eicMirror (n : Nat) (p : Port) (s : State) : Bool := (pn (Pid.EIC_SRC n) s).testBit (14 + portNo p)

/-- Count an edge in the 1 ms window it falls in, keeping the windows of the last 100 ms (R364, R377). -/
def addWin (w : Nat) (l : List (Nat × Nat)) : List (Nat × Nat) :=
  let old := l.filter (fun x => decide (w < x.1 + 101))
  match old.find? (fun x => x.1 == w) with
  | none => old ++ [(w, 1)]
  | some x => old.filter (fun y => y.1 != w) ++ [(w, x.2 + 1)]

/-- Edges counted in window `w`. -/
def winCount (w : Nat) (l : List (Nat × Nat)) : Nat := (l.find? (fun x => x.1 == w)).elim 0 (·.2)

/-- Latch one edge or set-pending write in a source: pending and count, SAT at 255 (R372). -/
def EicSrc.edge (w : Nat) (inj : Bool) (x : EicSrc) : EicSrc :=
  { x with pending := true, count := if x.count < 255 then x.count + 1 else 255,
           sat := x.sat || decide (255 ≤ x.count), injected := x.injected || inj, wins := addWin w x.wins }

/-- The detail of a mirrored event (R379). -/
def mirrorDetail (x : EicSrc) : W := w32 (x.count + 256 * b01 x.sat + 512 * b01 x.injected)

/-- The EIC posts the mirrored event of source `n` to the ports whose mirror bit is set (R379). -/
def mirrorEvent (n : Nat) (s : State) : State :=
  foldS (fun p t => when_ (eicMirror n p s)
    (onPortNew p (PortState.postEvent (0x9F00 + n) (mirrorDetail (s.eic.get n)) s.sys.devTime)) t) hostPorts s

/-- Storm masking after an edge (R377). -/
def stormCheck (n : Nat) (s : State) : State :=
  let x := s.eic.get n
  let w := s.sys.devTime / 1000
  when_ (!x.storm && !eicExempt n s && decide (pn Pid.EIC_STORM_PER_MS s < winCount w x.wins))
    (fun t => raisePickEv 0x01C 0x08 n (some (0x9003, w32 n)) (t.onEic (Eic.mod n (fun y => { y with storm := true })))) s

/-- A WAIT_EVENT step that waits for source `n` keeps the edge in its private latch (R207). -/
def groupsSee (n : Nat) (w : Pwr) : Pwr :=
  { w with grp := vmap (fun g => if g.evSrc = some n then { g with evLatch := true } else g) w.grp }

/-- An edge of EIC source `n`, or a set-pending write with `inj`: latch, mirror, storm mask (R372, R377, R379). The EIC is
in reset with the digital domain (R382); inputs of reserved sources are tied inactive (R472). -/
def latchEicInj (n : Nat) (inj : Bool) (s : State) : State :=
  if s.sys.inReset || eicReserved n || decide (255 < n) then s
  else stormCheck n (mirrorEvent n
    ((s.onEic (Eic.mod n (EicSrc.edge (s.sys.devTime / 1000) inj))).onPwr (groupsSee n)))

/-- An edge of EIC source `n`. -/
def latchEic (n : Nat) (s : State) : State := latchEicInj n false s

/-! ### Modes and services -/

/-- HIF_STATUS.MODE. -/
def Mode.code : Mode → Nat
  | .startUp => 0
  | .normal => 1
  | .test => 2
  | .recovery => 3

/-- HIF_STATUS.SERVICE. -/
def Service.code : Service → Nat
  | .early => 0
  | .full => 1
  | .limp => 2
  | .limpSafe => 3

/-- Limp service, in Safe Hold or not. -/
def Service.isLimp : Service → Bool
  | .limp => true
  | .limpSafe => true
  | _ => false

/-- Change the device mode and post MODE_CHANGE (R35, R380). -/
def setMode (m : Mode) (s : State) : State :=
  if s.sys.mode = m then s
  else raiseEvent 0x0001 (w32 (s.sys.mode.code * 16 + m.code)) (s.onSys (fun y => { y with mode := m }))

/-- Change the service and post SERVICE_CHANGE (R380). -/
def setService (v : Service) (s : State) : State :=
  if s.sys.service = v then s
  else raiseEvent 0x0002 (w32 (s.sys.service.code * 16 + v.code)) (s.onSys (fun y => { y with service := v }))

/-- Shuttle i runs. -/
def shRuns (i : Nat) (s : State) : Bool :=
  s.sys.boot.bootDone && !s.sys.inReset && !s.sys.pfHeld && !s.sys.dbgHalt.getLsbD (1 + i)

/-! ### When the host interfaces respond (R47, R49, R64, R66) -/

/-- The device is awake. -/
def awake (s : State) : Bool := s.sys.power == .run || s.sys.power == .doze

/-- The host interfaces respond: from early service onward, not in reset, in the digest hold, in DEEP SLEEP or in SHIP. -/
def hifOpen (s : State) : Bool :=
  s.sys.boot.earlyOpen && !s.sys.inReset && !s.sys.porActive && s.sys.digestHold.isNone && awake s

/-- DOZE ends: the stopped clocks run again, none is marked planned any more, and the battery rings run (R59, R63, R64, R300). -/
def dozeWake (s : State) : State :=
  if s.sys.power = .doze then
    (s.onSys (fun y => { y with power := .run, planned := {} })).onAcq (fun a => { a with rings := s.sys.boot.acqLocked })
  else s

/-- A host access: nothing while the interfaces do not respond; in DOZE it wakes the device first (R64, R66). -/
def hifDo (f : State → State) (s : State) : State := if hifOpen s then f (dozeWake s) else s

/-! ### Command slots and completions (R83, R85, R86) -/

/-- The slot is past its command's end. -/
def SlotStatus.isFinished : SlotStatus → Bool
  | .finished _ => true
  | _ => false

/-- INUSE of a port: its slots in use (R86). -/
def inUse (p : Port) (s : State) : Nat := (s.hif.slots.filter (fun x => x.port == p)).length

/-- Outstanding command of a port with a tag. DEDUCED: a command whose completion only waits for a free entry (R83) is no longer
outstanding, so its tag may be used again (R92, log entry 34). -/
def findSlot (p : Port) (tag : Tag) (s : State) : Option Slot :=
  s.hif.slots.find? (fun x => x.port == p && x.tag == tag && !x.status.isFinished)

/-- Payload word `k`, from 1; 0 beyond LEN (R465). -/
def Slot.word (x : Slot) (k : Nat) : W := x.payload.getD (k - 1) 0

/-- Change the slots. -/
def onSlots (f : List Slot → List Slot) (s : State) : State := s.onHif (fun h => { h with slots := f h.slots })

/-- Remove the outstanding command of a port and tag from the slots. -/
def removeSlot (p : Port) (tag : Tag) (l : List Slot) : List Slot :=
  l.eraseP (fun x => x.port == p && x.tag == tag && !x.status.isFinished)

/-- Change the first entry that a test picks. -/
def modFirst (q : Slot → Bool) (f : Slot → Slot) : List Slot → List Slot
  | [] => []
  | x :: l => if q x then f x :: l else x :: modFirst q f l

/-- Change the outstanding command of a port and tag. -/
def modSlot (p : Port) (tag : Tag) (f : Slot → Slot) (s : State) : State :=
  onSlots (modFirst (fun x => x.port == p && x.tag == tag && !x.status.isFinished) f) s

/-- The words of a completion of command `x` with status `st` and results `ws`. -/
def completionWords (x : Slot) (st : Nat) (ws : List W) (s : State) : List W :=
  [w32 (x.op * 1048576 + x.cls * 65536 + st * 256 + x.tag.toNat),
   w32 (min 12 ws.length * 268435456 + 67108864 * b01 s.sys.service.isLimp + 33554432 * b01 x.deferred +
     min 0xFFFFFF (s.sys.devTime - x.tAcc)),
   wLo s.sys.devTime, wHi s.sys.devTime] ++ padTo 12 0 ws

/-- Whether the completion queue has a free entry. -/
def PortState.cqFree (q : PortState) : Bool := decide (q.cqTail + 1 ≠ q.cqHead)

/-- Write a completion entry at the tail; `nt`: of a command with NOTIFY; `sg`: system-generated. -/
def PortState.postCq (ws : List W) (nt sg : Bool) (q : PortState) : PortState :=
  let i := q.cqTail.toNat
  let put := fun (m : BitVec 64) (b : Bool) => if b then m ||| (1#64 <<< i) else m &&& ~~~(1#64 <<< i)
  { q with cqMem := Memory.writeWs .queue q.cqMem (64 * i) (ws.take 16), cqTail := q.cqTail + 1,
           cqNotify := put q.cqNotify nt, cqSysgen := put q.cqSysgen sg }

/-- The completion of a command that has just left its slot, or was never put into one: post it and return the credit, or
hold it in the slot while the completion queue is full (R83, R86). -/
def finish (x : Slot) (st : Nat) (ws : List W) (s : State) : State :=
  let words := completionWords x st ws s
  let q := s.hif.port x.port
  if x.port = .internal then onPort .internal (fun q => { q with avail := q.avail + 1 }) s
  else if q.cqFree && !(s.hif.slots.any (fun y => y.port == x.port && y.status.isFinished)) then
    onPortNew x.port (fun q => { (q.postCq words x.notify false) with avail := q.avail + 1 }) s
  else
    onPortNew x.port (fun q => { q with cqWait := true })
      (onSlots (fun l => l ++ [{ x with status := .finished words }]) s)

/-- Complete the outstanding command of a port and tag. -/
def complete (p : Port) (tag : Tag) (st : Nat) (ws : List W) (s : State) : State :=
  match findSlot p tag s with
  | none => s
  | some x => finish x st ws (onSlots (removeSlot p tag) s)

/-- Complete a list of commands alike. -/
def completeAll (l : List CmdRef) (st : Nat) (ws : List W) (s : State) : State :=
  foldS (fun c t => complete c.port c.tag st ws t) l s

/-- DONE with results. -/
def done (p : Port) (tag : Tag) (ws : List W) (s : State) : State := complete p tag 0x00 ws s
/-- DONE_WITH_NOTE. -/
def doneNote (p : Port) (tag : Tag) (ws : List W) (s : State) : State := complete p tag 0x01 ws s
/-- BAD_PARAM_ID with the index of the failing word. -/
def badId (p : Port) (tag : Tag) (i : Nat) (s : State) : State := complete p tag 0x13 [w32 i] s
/-- OUT_OF_RANGE with the index or code. -/
def outOfRange (p : Port) (tag : Tag) (i : Nat) (s : State) : State := complete p tag 0x14 [w32 i] s
/-- WRONG_STATE with the reason code. -/
def wrongState (p : Port) (tag : Tag) (i : Nat) (s : State) : State := complete p tag 0x17 [w32 i] s
/-- LOCKED. -/
def lockedC (p : Port) (tag : Tag) (i : Nat) (s : State) : State := complete p tag 0x16 [w32 i] s

end Sys2Proof.Machine
end

