-- ==== Sys2Proof/Machine/Logs.lean ====
section
/-! DEFINITION. The calendar as a timestamp, the ring logs of the NVM with their chains, and NVM page retirement
(R236, R268, R404 to R408). -/

namespace Sys2Proof.Machine

/-- Leap years of 2000 to 2099 (R434). -/
def isLeap (y : Nat) : Bool := y % 4 == 0

/-- Days of a month, 1 to 12. -/
def monthDays (y m : Nat) : Nat :=
  if m = 2 then (if isLeap y then 29 else 28)
  else if m = 4 || m = 6 || m = 9 || m = 11 then 30 else 31

/-- Days of the year before month `m`. -/
def daysBefore (y m : Nat) : Nat := ((List.range (m - 1)).map (fun i => monthDays y (i + 1))).sum

/-- Days since 2000-01-01. -/
def Calendar.dayNo (c : Calendar) : Nat := 365 * c.year + (c.year + 3) / 4 + daysBefore c.year c.month + (c.day - 1)

/-- Seconds since 2000-01-01 00:00:00 UTC (R8). -/
def Calendar.stamp (c : Calendar) : Nat := c.dayNo * 86400 + c.hour * 3600 + c.min * 60 + c.sec

/-- The timestamp of the calendar. -/
def timestamp (s : State) : Nat := s.store.rtc.cal.stamp

/-- Append an entry of words 1 to 7 with the next SEQ in word 0 [31:16] and `low` in [15:0]; the ring keeps `cap`. -/
def LogRing.append (cap low : Nat) (ws : List W) (l : LogRing) : LogRing :=
  { l with entries := newest cap (l.entries ++ [w32 (l.next.toNat * 65536 + low % 65536) :: ws]),
           staged := min cap (l.staged + 1), next := l.next + 1 }

/-- The CHAIN of the newest entry; an empty log chains from ID_UID_LO (R268). -/
def LogRing.chain (uid : W) (l : LogRing) : W :=
  match l.entries.getLast? with
  | none => uid
  | some e => e.getD 7 0

/-- The CHAIN word of an entry of words 0 to 6 after `prev` (R268). -/
def chainWord (prev : W) (ws : List W) : W := leWord ((sha256 (bytesLe prev ++ wordsLe ws)).take 4)

/-- Append a chained entry of words 1 to 6. -/
def LogRing.appendChained (cap low : Nat) (uid : W) (ws : List W) (l : LogRing) : LogRing :=
  let w0 := w32 (l.next.toNat * 65536 + low % 65536)
  l.append cap low (ws ++ [chainWord (l.chain uid) (w0 :: ws)])

/-- The newest entry of a SEQ among the newest `cap`. -/
def LogRing.find (cap : Nat) (seq : BitVec 16) (l : LogRing) : Option (List W) :=
  (newest cap l.entries).reverse.find? (fun e => (e.getD 0 0) >>> 16 == seq.setWidth 32)

/-- Every staged entry is in NVM. -/
def LogRing.flush (l : LogRing) : LogRing := { l with staged := 0, written := l.written + l.staged }

/-- Staged entries are lost with the log region. -/
def LogRing.lose (l : LogRing) : LogRing :=
  { l with entries := l.entries.take (l.entries.length - l.staged), staged := 0,
           next := l.next - BitVec.ofNat 16 l.staged }

/-- ID_UID_LO from the OTP shadows. -/
def uidLo (s : State) : W := sget 0 s.store.otp.shadow 0x080

/-- How many area pages from `a` on, `n` of them, are lost (R406). -/
def lostPages (a n : Nat) (s : State) : Nat := (s.store.nvm.lost.filter (fun p => a ≤ p && p < a + n)).length

/-- Entries the test log keeps: 256 less a lost page's 8. -/
def testCap (s : State) : Nat := 256 - 8 * lostPages 79 32 s
/-- Entries the caddy log keeps. -/
def caddyCap (s : State) : Nat := 512 - 8 * lostPages 111 64 s
/-- Entries the event log keeps. -/
def eventCap (s : State) : Nat := 512 - 8 * lostPages 175 64 s

/-- Add an event-log entry (R408). -/
def logEvent (code : Nat) (detail : W) (time : Nat) (s : State) : State :=
  let ts := if s.store.rtc.valid then timestamp s else 0
  let ws := [detail, wLo time, wHi time, w32 ts, w32 s.path.vlink, w32 s.path.vbat]
  let w0 := w32 (s.store.nvm.event.next.toNat * 65536 + code % 65536)
  s.onNvm (fun n => { n with event := n.event.append (eventCap s) code (ws ++ [(crcWords (w0 :: ws)).setWidth 32]) })

/-- The copies or slots of an area are written in turn (R406): `v` takes the next of `n`, newest first. -/
def takeTurn {α : Type} (n : Nat) (v : α) (l : List (Nat × α)) : List (Nat × α) :=
  let k := match l with
    | [] => 0
    | x :: _ => (x.1 + 1) % n
  (k, v) :: l.filter (fun x => x.1 != k)

/-- NVM error: its EIC source (R471). -/
def nvmError (s : State) : State := latchEic 215 s

/-- The area page that a page of the array serves. -/
def areaPage (page : Nat) (s : State) : Nat :=
  if 239 ≤ page then s.store.nvm.spares.getD (page - 239) page else page

/-- A page fails verification twice: it is retired to the lowest free spare page, or lost when none is left (R406). -/
def retirePage (page : Nat) (s : State) : State :=
  let a := areaPage page s
  if s.store.nvm.spares.length < 17 then
    nvmError (raisePick 0x200 0x11 page (s.onNvm (fun n => { n with spares := n.spares ++ [a] })))
  else nvmError (raisePick 0x200 0x12 page (s.onNvm (fun n => { n with lost := n.lost ++ [a] })))

/-- Retire the page that a write reports bad, if any. -/
def retireOpt (bad : Option (BitVec 8)) (s : State) : State :=
  match bad with
  | none => s
  | some p => retirePage p.toNat s

end Sys2Proof.Machine
end

