-- ==== Sys2Proof/Machine/PwrOps.lean ====
section
/-! DEFINITION. Rails, regulator channels, phases, LDOs, enable outputs and monitors: the operations that the rows of
chapters 06 and 07 share (R159 to R204, R225 to R229). -/

namespace Sys2Proof.Machine

/-! ### Rails (R198) -/

/-- The rail code. -/
def railCode : Rail → Nat
  | .vr n => n.val
  | .ldo n => 0x10 + n.val
  | .en n => 0x20 + n.val

/-- The rail a code names; `none` for a reserved code and for a MON code. -/
def railOf (c : Nat) : Option Rail :=
  if h : c < 12 then some (.vr ⟨c, h⟩)
  else if h : 0x10 ≤ c ∧ c < 0x18 then some (.ldo ⟨c - 0x10, by omega⟩)
  else if h : 0x20 ≤ c ∧ c < 0x30 then some (.en ⟨c - 0x20, by omega⟩)
  else none

/-- All 36 controlled rails. -/
def allRails : List Rail := (allFin 12).map .vr ++ (allFin 8).map .ldo ++ (allFin 16).map .en

/-! ### Updates that latch the EIC source of the part (R471) -/

/-- The flags of a channel that VRn.FLAGS shows (R195). -/
def Chan.flagList (x : Chan) : List Bool :=
  [x.senseOpen, x.spareUsed, x.takeover, x.vinLow, x.curLimit, x.enableHeld, x.margined, x.disSusp]

/-- Change a channel; a change of state or flag latches source 64 + n. -/
def onVr (c : Fin 12) (f : Chan → Chan) (s : State) : State :=
  let x := s.pwr.vr[c]
  let y := f x
  when_ (decide (x.st ≠ y.st) || decide (x.flagList ≠ y.flagList)) (latchEic (64 + c.val))
    (s.onPwr (fun w => { w with vr := vmod w.vr c (fun _ => y) }))

/-- Change an LDO; a change of state latches source 76 + n. -/
def onLdo (n : Fin 8) (f : Ldo → Ldo) (s : State) : State :=
  let x := s.pwr.ldo[n]
  let y := f x
  when_ (decide (x.st ≠ y.st)) (latchEic (76 + n.val))
    (s.onPwr (fun w => { w with ldo := vmod w.ldo n (fun _ => y) }))

/-- Change an enable output. -/
def onEn (n : Fin 16) (f : En → En) (s : State) : State := s.onPwr (fun w => { w with en := vmod w.en n f })

/-- Change a monitor; a change of UV or OV latches source 84 + m. -/
def onMon (m : Fin 32) (f : Mon → Mon) (s : State) : State :=
  let x := s.pwr.mon[m]
  let y := f x
  when_ (decide (x.uv ≠ y.uv) || decide (x.ov ≠ y.ov)) (latchEic (84 + m.val))
    (s.onPwr (fun w => { w with mon := vmod w.mon m (fun _ => y) }))

/-! ### Phase assignment (VR.ASSIGN, R159) -/

/-- Word n of VR.ASSIGN. -/
def assignWord (c : Nat) (s : State) : Nat := (pvw Pid.VR_ASSIGN c s).toNat

/-- The configured members of a channel, ascending. -/
def vrMembers (c : Fin 12) (s : State) : List (Fin 24) :=
  (allFin 24).filter (fun k => (assignWord c.val s).testBit k.val)

/-- The configured spare of a channel. -/
def vrSpare (c : Fin 12) (s : State) : Option (Fin 24) :=
  let w := assignWord c.val s
  let k := (w / 16777216) % 32
  if h : k < 24 then (if w.testBit 31 then some ⟨k, h⟩ else none) else none

/-- The channel is used: its MEMBERS field is not 0. -/
def vrUsed (c : Fin 12) (s : State) : Bool := !(vrMembers c s).isEmpty

/-- Members and spare. -/
def vrPhases (c : Fin 12) (s : State) : List (Fin 24) := vrMembers c s ++ (vrSpare c s).toList

/-- The channel a phase belongs to. -/
def chanOf (k : Fin 24) (s : State) : Option (Fin 12) := (allFin 12).find? (fun c => (vrPhases c s).contains k)

/-- Change a phase; a change of state is an edge of its channel's source. -/
def onPh (k : Fin 24) (f : Phase → Phase) (s : State) : State :=
  let x := s.pwr.ph[k]
  let y := f x
  let s1 := s.onPwr (fun w => { w with ph := vmod w.ph k (fun _ => y) })
  if x.st = y.st then s1
  else match chanOf k s with
    | none => s1
    | some c => latchEic (64 + c.val) s1

/-- Change every phase of a list. -/
def onPhs (l : List (Fin 24)) (f : Phase → Phase) (s : State) : State := foldS (fun k t => onPh k f t) l s

/-- The positions in rotation, ascending, with the phase in each: members not dropped, and the spare in the place of the one it stands
in for (R159, R185). -/
def rotationPos (c : Fin 12) (s : State) : List (Nat × Fin 24) :=
  (vrMembers c s).filterMap (fun k =>
    if s.pwr.ph[k].st = .member then some (k.val, k)
    else if s.pwr.vr[c].takePos = some k.val then
      ((vrSpare c s).filter (fun j => s.pwr.ph[j].st == .spareIn)).map (fun j => (k.val, j))
    else none)

/-- The phases in rotation. -/
def rotation (c : Fin 12) (s : State) : List (Fin 24) := (rotationPos c s).map (·.2)

/-- The active members of a running channel. -/
def activeNow (c : Fin 12) (s : State) : Nat := (rotation c s).length

/-- The current of a channel, from its members' averages, mA (R181). -/
def chanMa (c : Fin 12) (s : State) : Int := ((rotation c s).map (fun k => s.pwr.ph[k].imon)).sum

/-- A phase can take its place at the next soft start: not DROPPED, or cleared under R188. -/
def phaseFills (k : Fin 24) (s : State) : Bool := let x := s.pwr.ph[k]; x.st != .dropped || x.cleared

/-- The configured positions that members and the spare can fill (R171, R474). -/
def canFill (c : Fin 12) (s : State) : Nat :=
  let m := vrMembers c s
  min m.length ((m.filter (fun k => phaseFills k s)).length +
    (match vrSpare c s with | none => 0 | some k => b01 (phaseFills k s)))

/-- The active members: in OFF and DISCHARGE the positions that can be filled (R171, R195). -/
def activeMembers (c : Fin 12) (s : State) : Nat :=
  if s.pwr.vr[c].st = .off || s.pwr.vr[c].st = .discharge then canFill c s else activeNow c s

/-- The trim preset for a spare: the mean of the members' trims, 0 when older than 1 s (R185). -/
def presetTrim (c : Fin 12) (s : State) : Int :=
  let l := (rotation c s).map (fun k => s.pwr.ph[k].trim)
  if l.isEmpty || decide (s.pwr.vr[c].trimAt + 1000000 < s.sys.devTime) || decide (s.pwr.vr[c].trimAt = 0) then 0
  else rdiv l.sum l.length

/-! ### On-times and ripple injection (R162, R163, R166) -/

/-- The length of an on-time in 65.1 ps taps (R162): k_on x v_set / v_link x (1 + trim), clamped to 40 ns to 10 us, rounded to the
nearest tap. DEDUCED: where R163 speaks of t_on_nom beyond a limit, the clamp of R162 after the trim decides (log entry 58). -/
def onTaps (fswKhz vset vlink : Nat) (trim : Int) : Nat :=
  let num := 1000000000 * vset * (10000 + trim).toNat
  let den := fswKhz * vlink * 10000
  let ps := fun (n d : Nat) => (20 * n + 651 * d) / (1302 * d)
  if den = 0 then ps 10000000 1
  else if num < 40000 * den then ps 40000 1
  else if 10000000 * den < num then ps 10000000 1
  else ps num den

/-- The operating point of the injection gain (R166): (v_link - v_set) x t_on at VIN_NOM_MV and a set point. -/
def injPoint (c : Fin 12) (mv : Nat) (s : State) : Nat :=
  let v := pn (Pid.VR_VIN_NOM_MV c.val) s
  (v - mv) * onTaps (pn (Pid.VR_FSW_KHZ c.val) s) mv v 0

/-! ### Set points (R167, R170, R226) -/

/-- The port linked to a channel: PDx.VR (R321). -/
def linkedPort (c : Fin 12) (s : State) : Option (Fin 2) := (allFin 2).find? (fun u => pn (Pid.PD_VR u.val) s == c.val)

/-- The smallest attenuator at which the reference of R167 is at or below 1.500 V for an output of `mv` (R335). -/
def attFor (c : Fin 12) (mv : Nat) (s : State) : Nat :=
  let d := pn (Pid.VR_DIV c.val) s
  if mv * 1000 ≤ 1500 * d then 1 else if mv * 1000 ≤ 3000 * d then 2 else 4

/-- VRn.VOUT_MV with a margin of `m` quarter per cents (R226). -/
def marginedMv (v : Nat) (m : Int) : Nat := (rdiv (v * (400 + m)) 400).toNat

/-- The set point a channel's reference goes to. -/
def targetMv (c : Fin 12) (s : State) : Nat :=
  match linkedPort c s with
  | some _ => s.pwr.vr[c].setMv
  | none => marginedMv (pn (Pid.VR_VOUT_MV c.val) s) s.pwr.vr[c].margin

/-- The output is below OFF_PCT of the set point (R198). -/
def vrBelowOff (c : Fin 12) (mv : Nat) (s : State) : Bool :=
  decide (mv * 100 < pn (Pid.VR_OFF_PCT c.val) s * targetMv c s)

/-- A value on its way from `a` to `b`, `d` further on. -/
def towards (a b d : Nat) : Nat := if a ≤ b then min b (a + d) else max b (a - d)

/-- The reference referred to the output at this device time, mV: it ramps in SOFTSTART and in active DISCHARGE, slews while a set point
changes, and is 0 where the channel does not switch (R170, R173, R175). -/
def refNow (c : Fin 12) (s : State) : Nat :=
  let x := s.pwr.vr[c]
  let dt := s.sys.devTime - x.refAt
  let d := x.setMv * dt / pn (Pid.VR_TSS_US c.val) s
  match x.st with
  | .softstart => min x.setMv (x.refMv + d)
  | .regulate => if x.slewing then towards x.refMv x.setMv (pn (Pid.VR_SLEW_UV_US c.val) s * dt / 1000) else x.setMv
  | .degraded => if x.slewing then towards x.refMv x.setMv (pn (Pid.VR_SLEW_UV_US c.val) s * dt / 1000) else x.setMv
  | .discharge => if pn (Pid.VR_DISCH c.val) s = 1 then x.refMv - d else 0
  | .off => 0
  | .hiccup => 0
  | .latchedOff => 0

/-- The present set point: the slewed and margined one (R176, R189, R207). -/
def setPoint (c : Fin 12) (s : State) : Nat :=
  let x := s.pwr.vr[c]
  match x.st with
  | .regulate => refNow c s
  | .degraded => refNow c s
  | .off => targetMv c s
  | .latchedOff => targetMv c s
  | .softstart => x.setMv
  | .hiccup => x.setMv
  | .discharge => x.setMv

/-- The set point whose upper limits apply: the higher while windows are united (R227). -/
def winTop (c : Fin 12) (s : State) : Nat := match s.pwr.vr[c].wide with | none => setPoint c s | some w => max w.2 (setPoint c s)
/-- The set point whose lower limits apply. -/
def winBottom (c : Fin 12) (s : State) : Nat := match s.pwr.vr[c].wide with | none => setPoint c s | some w => min w.1 (setPoint c s)

/-- The attenuator at a set point: a linked channel's follows it (R335). -/
def attOf (c : Fin 12) (mv : Nat) (s : State) : Nat := if (linkedPort c s).isSome then attFor c mv s else s.pwr.vr[c].att

/-- The DAC code of an output voltage, in 0.5 mV of the reference (R167). DESIGN CHOICE: the nearest step (log entry 58). -/
def refCode (c : Fin 12) (mv : Nat) (s : State) : Nat :=
  let d := attOf c mv s * pn (Pid.VR_DIV c.val) s
  (4000 * mv + d) / (2 * d)

/-- The output voltage that the DAC makes of a set point, mV (R167). -/
def dacMv (c : Fin 12) (mv : Nat) (s : State) : Nat := refCode c mv s * (attOf c mv s * pn (Pid.VR_DIV c.val) s) / 2000

/-- The voltage that a channel regulates at its local sense point after a sense loss: the drop in the distribution above the reference
(R182). -/
def localMv (c : Fin 12) (s : State) : Nat :=
  ((refNow c s : Int) + rdiv (chanMa c s * pn (Pid.VR_RDIST_UOHM c.val) s) 1000000).toNat

/-! ### Image values held pending for a carried rail (R48) -/

/-- The rail a Power Frame setting belongs to. -/
def keyRail (key : Nat) (s : State) : Option Rail :=
  let id := key / 1024
  if inInst id 0x3000 0x100 12 then railOf ((id - 0x3000) / 0x100)
  else if inInst id 0x3C00 0x10 8 then railOf (0x10 + (id - 0x3C00) / 0x10)
  else if inInst id 0x3D00 0x08 24 then
    (if h : (id - 0x3D00) / 8 < 24 then (chanOf ⟨(id - 0x3D00) / 8, h⟩ s).map .vr else none)
  else if id = Pid.VR_ASSIGN then railOf (key % 1024)
  else if inInst id 0x4400 0x08 16 then railOf (0x20 + (id - 0x4400) / 8)
  else if inInst id 0x4100 0x10 32 then railOf (pn (Pid.MON_RAIL ((id - 0x4100) / 0x10)) s)
  else none

/-- The rail has pending values (VRn.FLAGS.PENDING). -/
def railPending (r : Rail) (s : State) : Bool := s.store.par.pend.any (fun e => keyRail e.1 s == some r)

/-- The pending values of a rail take effect as it passes OFF. -/
def applyPending (r : Rail) (s : State) : State :=
  let mine := s.store.par.pend.filter (fun e => keyRail e.1 s == some r)
  s.onPar (fun p => { p with live := mine.foldl (fun l e => sput e.1 e.2 l) p.live,
                             pend := p.pend.filter (fun e => keyRail e.1 s != some r) })

/-! ### Latched thermal holds (R314) -/

/-- A set shutdown latch holds the rail off. -/
def thermHeld (r : Rail) (s : State) : Bool :=
  (vgetD {} s.therm.zone 8).latch ||
    (List.range 8).any (fun z => (vgetD {} s.therm.zone z).latch && (pn64 (Pid.THERM_Z_RAILS z) s).testBit (railCode r))

/-! ### Channel states (R171) -/

/-- Phases of a channel go high-impedance. -/
def phasesOff (c : Fin 12) (s : State) : State :=
  onVr c (fun x => { x with heldTrip := false, shortTrips := 0 })
    (onPhs (vrPhases c s) (fun x => { x with level := .hiZ, onTaps := none, minOff := false, valley := false, peak := false }) s)

/-- The running states, in which the members switch toward a set point. -/
def ChanState.running : ChanState → Bool
  | .softstart => true
  | .regulate => true
  | .degraded => true
  | _ => false

/-- The states in which a rail counts as up (R222). -/
def ChanState.isUp : ChanState → Bool
  | .regulate => true
  | .degraded => true
  | _ => false

/-- Enter a state; PG goes low at once outside REGULATE and DEGRADED (R189), and a slew and the flags of a running channel end with it
but CURRENT_LIMIT, which stands for 1 ms (R178). -/
def chanGo (c : Fin 12) (st : ChanState) (s : State) : State :=
  onVr c (fun x =>
    { x with st := st, pg := x.pg && st.isUp, vinLow := x.vinLow && (st.running || st == .discharge), uvOn := x.uvOn && st.isUp,
             slewing := x.slewing && st.isUp, margined := if st.running then x.margined else decide (x.margin ≠ 0),
             disSusp := x.disSusp && (st == .discharge) }) s

/-- Enter OFF: phases dropped before have met R188's second condition, remote sense resumes, pending values apply. -/
def chanOff (c : Fin 12) (s : State) : State :=
  let s1 := phasesOff c (chanGo c .off s)
  let s2 := onPhs (vrPhases c s) (fun x => if x.st = .dropped then { x with wasOff := true } else x) s1
  applyPending (.vr c) (onVr c (fun x =>
    { x with senseOpen := false, refMv := 0, ovOn := false, takeover := false, enabledAt := if x.enableHeld then x.enabledAt else none }) s2)

/-- Detail of a channel pick: the state at the trip in [3:0], a condition code in [7:4]. -/
def ChanState.code : ChanState → Nat
  | .off => 0
  | .discharge => 1
  | .softstart => 2
  | .regulate => 3
  | .degraded => 4
  | .hiccup => 5
  | .latchedOff => 6

/-- A pick of a channel. -/
def vrPick (c : Fin 12) (kind cond : Nat) (st : ChanState) (ev : Option Nat) (s : State) : State :=
  raisePickEv (0x080 + c.val) kind (st.code + 16 * cond) (ev.map (fun e => (e, 0))) s

/-- Enter LATCHED_OFF with its cause, from any state but OFF (R171, R474). -/
def chanLatch (c : Fin 12) (cause : Nat) (s : State) : State :=
  let st := s.pwr.vr[c].st
  if st = .off || st = .latchedOff then s
  else
    let s1 := vrPick c 0x15 cause st (some 0x3005) s
    onVr c (fun x => { x with latchCause := cause, enableHeld := false }) (phasesOff c (chanGo c .latchedOff s1))

/-- Enter HICCUP: the entry is counted unless VIN_LOW is set (R179, R180). -/
def chanHiccup (c : Fin 12) (s : State) : State :=
  let x := s.pwr.vr[c]
  let s1 := vrPick c 0x14 0 x.st (some 0x3005) s
  phasesOff c (chanGo c .hiccup (onVr c (fun y =>
    { y with hiccups := if x.vinLow then y.hiccups else satAdd 255 y.hiccups 1 }) s1))

/-- SPARE_IN: the spare stands in the place of the dropped member, with its trim preset (R185). -/
def spareTakes (c : Fin 12) (k : Fin 24) (s : State) : State :=
  let t := presetTrim c s
  let s1 := onPh k (fun y => { y with st := .spareIn, trim := t }) s
  let s2 := onVr c (fun y => { y with spareUsed := true, takeover := false }) s1
  raisePickEv (0x080 + c.val) 0x10 s2.pwr.vr[c].st.code (some (0x3002, 0)) s2

/-- Dropped phases that R188 lets return take their configured places at a soft start; a spare in use returns to STANDBY, or takes the
place of a member that is still dropped. -/
def rejoin (c : Fin 12) (s : State) : State :=
  let back := fun (st : PhaseState) (x : Phase) =>
    if x.st = .dropped && x.cleared && x.wasOff then { x with st := st, cleared := false, wasOff := false, trim := 0 } else x
  let s1 := onPhs (vrMembers c s) (back .member) s
  let lost := (vrMembers c s1).filter (fun k => s1.pwr.ph[k].st == .dropped)
  match vrSpare c s with
  | none => onVr c (fun x => { x with takePos := none, spareUsed := false, takeover := false }) s1
  | some k =>
    let s2 := onPh k (fun x => let y := back .standby x
      if y.st = .spareIn && lost.isEmpty then { y with st := .standby } else y) s1
    let old := s2.pwr.vr[c].takePos
    let pos := if lost.any (fun j => old == some j.val) then old else lost.head?.map (·.val)
    if s2.pwr.ph[k].st = .standby && !lost.isEmpty then spareTakes c k (onVr c (fun x => { x with takePos := pos }) s2)
    else
      let used := s2.pwr.ph[k].st == .spareIn
      onVr c (fun x => { x with takePos := if used then pos else none, spareUsed := used, takeover := false }) s2

/-- Soft start begins (R166, R173, R174): from 0 V, or from the output with `pre`. -/
def softStart (c : Fin 12) (pre : Bool) (s : State) : State :=
  let s1 := rejoin c s
  let tgt := targetMv c s1
  onVr c (fun x => { x with setMv := tgt, refMv := if pre then min x.outMv tgt else 0, refAt := s.sys.devTime, slewing := false,
                            margined := x.margin ≠ 0, enableHeld := false, ovOn := false, uvOn := false, shortTrips := 0,
                            injGain := pn (Pid.VR_INJ_MV c.val) s1, injRef := injPoint c tgt s1, rot := none })
    (chanGo c .softstart s1)

/-- How an enable ended. -/
inductive EnableEnd where
  /-- The rail starts. -/
  | started
  /-- The rail is already enabled: no effect. -/
  | already
  /-- The enable is held until the output falls (R171, R219). -/
  | held
  /-- Refused: LATCHED_OFF, thermal latch, VLINK or active members (R171, R210 cause 0x5). -/
  | refused
deriving DecidableEq, Repr

/-- Whether VLINK and the active members allow a start (R171). -/
def vrCanStart (c : Fin 12) (s : State) : Bool :=
  decide (pn (Pid.VR_VIN_MIN_MV c.val) s ≤ s.path.vlink) && decide (pn (Pid.VR_MIN_PH c.val) s ≤ canFill c s)

/-- Monitors gated by a rail count from its enable (R203). -/
def ungate (r : Rail) (s : State) : State :=
  foldS (fun m t => when_ (pn (Pid.MON_RAIL m.val) s == railCode r) (onMon m (fun x => { x with eval := false })) t) (allFin 32) s

/-- Enable a channel. -/
def enableVr (c : Fin 12) (s : State) : State × EnableEnd :=
  let x := s.pwr.vr[c]
  if !vrUsed c s || s.sys.regStopped || thermHeld (.vr c) s then (s, .refused)
  else if x.st = .latchedOff then (s, .refused)
  else if x.st.running || x.st = .hiccup then (s, .already)
  else if !vrCanStart c s then (s, .refused)
  else
    let s1 := s.onPwr (fun w => { w with vr := vmod w.vr c (fun y => { y with enabledAt := some s.sys.devTime }) })
    if vrBelowOff c x.outMv s || pb (Pid.VR_PREBIAS c.val) s then (softStart c (pb (Pid.VR_PREBIAS c.val) s) s1, .started)
    else (onVr c (fun y => { y with enableHeld := true }) s1, .held)

/-- DISCHARGE: active unless VLINK is too high, the reference falling from its value at the disable, or passive (R175). -/
def chanDischarge (c : Fin 12) (s : State) : State :=
  let act := pn (Pid.VR_DISCH c.val) s = 1
  let susp := act && decide (pn Pid.VR_DIS_VLINK_MAX_MV s ≤ s.path.vlink)
  let ref := refNow c s
  let s1 := phasesOff c (chanGo c .discharge s)
  let s2 := when_ (act && !susp && !s1.pwr.vr[c].vinLow) (onPhs (rotation c s1) (fun x => { x with level := .low })) s1
  onVr c (fun x => { x with disSusp := susp, refMv := ref, refAt := s.sys.devTime, disabledAt := s.sys.devTime, enabledAt := none,
                            enableHeld := false }) s2

/-- Disable a channel (R171): a held enable is withdrawn in OFF and DISCHARGE. -/
def disableVr (c : Fin 12) (s : State) : State :=
  let x := s.pwr.vr[c]
  let s1 := ungate (.vr c) s
  if x.st.running || x.st = .hiccup then chanDischarge c s1
  else onVr c (fun y => { y with enableHeld := false, enabledAt := none }) s1

/-- An LDO output is below 10 % of its set point (R190). -/
def ldoBelowOff (n : Fin 8) (mv : Nat) (s : State) : Bool := decide (mv * 10 < pn (Pid.LDO_VOUT_MV n.val) s)

/-- Enable an LDO (R190). -/
def enableLdo (n : Fin 8) (s : State) : State × EnableEnd :=
  let x := s.pwr.ldo[n]
  if s.sys.regStopped || thermHeld (.ldo n) s || x.st = .latchedOff then (s, .refused)
  else if x.st.running then (s, .already)
  else
    let now := some s.sys.devTime
    if ldoBelowOff n x.outMv s then
      (onLdo n (fun y => { y with st := .softstart, enableHeld := false, enabledAt := now }) s, .started)
    else (onLdo n (fun y => { y with enableHeld := true, enabledAt := now }) s, .held)

/-- Disable an LDO. -/
def disableLdo (n : Fin 8) (s : State) : State :=
  let s1 := ungate (.ldo n) s
  onLdo n (fun y => if y.st.running then
      { y with st := .discharge, enableHeld := false, disabledAt := s.sys.devTime, enabledAt := none }
    else { y with enableHeld := false, enabledAt := none }) s1

/-- The monitor linked to an EN output. -/
def enMon (n : Fin 16) (s : State) : Option (Fin 32) :=
  let m := pn (Pid.EN_MON n.val) s
  if h : m < 32 then some ⟨m, h⟩ else none

/-- An EN rail is below its off-threshold (R198, R200). -/
def enBelowOff (n : Fin 16) (s : State) : Bool :=
  match enMon n s with
  | some m => s.pwr.mon[m].off
  | none => s.pwr.en[n].st == .off

/-- Enable an EN rail (R200, R219). -/
def enableEn (n : Fin 16) (s : State) : State × EnableEnd :=
  let x := s.pwr.en[n]
  if s.sys.regStopped || thermHeld (.en n) s then (s, .refused)
  else if x.st = .on then (s, .already)
  else
    let now := some s.sys.devTime
    if !enBelowOff n s && (x.st = .discharge || x.disabledAt ≠ 0) then
      (onEn n (fun y => { y with enableHeld := true, enabledAt := now }) s, .held)
    else (onEn n (fun y => { y with st := .on, enableHeld := false, enabledAt := now }) s, .started)

/-- Disable an EN rail: DISCHARGE, or OFF at once when its monitor is already below OFF (R200), where pending values apply (R48). -/
def disableEn (n : Fin 16) (s : State) : State :=
  let s1 := ungate (.en n) s
  let below := (enMon n s).any (fun m => s.pwr.mon[m].off)
  let s2 := onEn n (fun y => if y.st = .on then
      { y with st := if below then .off else .discharge, enableHeld := false, disabledAt := s.sys.devTime, enabledAt := none }
    else { y with enableHeld := false, enabledAt := none }) s1
  when_ (decide (s.pwr.en[n].st = .on) && below) (applyPending (.en n)) s2

/-- Enable a rail. -/
def enableRail (r : Rail) (s : State) : State × EnableEnd :=
  match r with
  | .vr c => enableVr c s
  | .ldo n => enableLdo n s
  | .en n => enableEn n s

/-- Disable a rail. -/
def disableRail (r : Rail) (s : State) : State :=
  match r with
  | .vr c => disableVr c s
  | .ldo n => disableLdo n s
  | .en n => disableEn n s

/-- A rail is below its off-threshold. -/
def railOff (r : Rail) (s : State) : Bool :=
  match r with
  | .vr c => vrBelowOff c s.pwr.vr[c].outMv s
  | .ldo n => ldoBelowOff n s.pwr.ldo[n].outMv s
  | .en n => enBelowOff n s

/-- A rail is up (R200, R222). -/
def railUp (r : Rail) (s : State) : Bool :=
  match r with
  | .vr c => s.pwr.vr[c].st.isUp
  | .ldo n => s.pwr.ldo[n].st == .regulate
  | .en n => s.pwr.en[n].st == .on && !(enMon n s).any (fun m => s.pwr.mon[m].uv)

/-- A rail has been enabled and not yet disabled. -/
def railEnabled (r : Rail) (s : State) : Bool :=
  match r with
  | .vr c => s.pwr.vr[c].st.running || s.pwr.vr[c].st == .hiccup
  | .ldo n => s.pwr.ldo[n].st.running
  | .en n => s.pwr.en[n].st == .on

/-- Moment of a rail's enable, until it is disabled (R203). -/
def railEnabledAt (r : Rail) (s : State) : Option Nat :=
  match r with
  | .vr c => s.pwr.vr[c].enabledAt
  | .ldo n => s.pwr.ldo[n].enabledAt
  | .en n => s.pwr.en[n].enabledAt

/-- The pin of an EN output (R199): high-impedance, or driven as ENn.DRIVE and ENn.POL say for asserted and deasserted. -/
def enPin (n : Fin 16) (s : State) : PhLevel :=
  let x := s.pwr.en[n]
  let high := (x.st == .on) != (pn (Pid.EN_POL n.val) s == 1)
  if x.hiZ then .hiZ
  else if high then (if pn (Pid.EN_DRIVE n.val) s = 1 then .hiZ else .high)
  else .low

/-- An enable of the rail is held. -/
def railHeld (r : Rail) (s : State) : Bool :=
  match r with
  | .vr c => s.pwr.vr[c].enableHeld
  | .ldo n => s.pwr.ldo[n].enableHeld
  | .en n => s.pwr.en[n].enableHeld

/-- The state code of a rail (R222). -/
def railState (r : Rail) (s : State) : Nat :=
  match r with
  | .vr c => s.pwr.vr[c].st.code
  | .ldo n => s.pwr.ldo[n].st.code
  | .en n => match s.pwr.en[n].st with | .off => 0 | .discharge => 1 | .on => 3

/-- The rail is in DISCHARGE. -/
def railDischarging (r : Rail) (s : State) : Bool := railState r s == 1

/-- Moment of a rail's last disable. -/
def railDisabledAt (r : Rail) (s : State) : Nat :=
  match r with
  | .vr c => s.pwr.vr[c].disabledAt
  | .ldo n => s.pwr.ldo[n].disabledAt
  | .en n => s.pwr.en[n].disabledAt

/-- Discharge bound of a rail, us (R198). -/
def railBound (r : Rail) (s : State) : Nat :=
  match r with
  | .vr c => 1000 * pn (Pid.VR_DIS_TMO_MS c.val) s
  | .ldo _ => 100000
  | .en n => 1000 * pn (Pid.EN_OFF_WAIT_MS n.val) s

/-- Withdraw a held enable. -/
def withdrawHeld (r : Rail) (s : State) : State :=
  match r with
  | .vr c => onVr c (fun y => { y with enableHeld := false, enabledAt := none }) s
  | .ldo n => onLdo n (fun y => { y with enableHeld := false, enabledAt := none }) s
  | .en n => onEn n (fun y => { y with enableHeld := false, enabledAt := none }) s

/-- Take a measured output as a rail's present one. -/
def noteOut (x : Rail × Nat) (s : State) : State :=
  match x.1 with
  | .vr c => s.onPwr (fun w => { w with vr := vmod w.vr c (fun y => { y with outMv := x.2 }) })
  | .ldo n => s.onPwr (fun w => { w with ldo := vmod w.ldo n (fun y => { y with outMv := x.2 }) })
  | .en _ => s

/-- Every rail is below its off-threshold or has ended its discharge. -/
def allRailsOff (s : State) : Bool :=
  allRails.all (fun r => !railEnabled r s && !railDischarging r s)

/-! ### Monitors (R201 to R204, R227, R229) -/

/-- The DAC code of a threshold (R201). -/
def monCode (mv div : Nat) : Nat := (mv * 1000 / div + 1) / 2

/-- A threshold scaled with the margin of the channel the monitor watches (R227). -/
def monScaled (m : Fin 32) (mv : Nat) (s : State) : Nat :=
  match railOf (pn (Pid.MON_RAIL m.val) s) with
  | some (.vr c) => marginedMv mv s.pwr.vr[c].margin
  | _ => mv

/-- The codes that the parameters and margins ask for: UV, OV, OFF. -/
def monCodes (m : Fin 32) (s : State) : Nat × Nat × Nat :=
  let div := pn (Pid.MON_DIV m.val) s
  (monCode (monScaled m (pn (Pid.MON_UV_MV m.val) s) s) div, monCode (monScaled m (pn (Pid.MON_OV_MV m.val) s) s) div,
   monCode (pn (Pid.MON_OFF_MV m.val) s) div)

/-- Write the codes as the parameters and margins ask. -/
def monWrite (m : Fin 32) (s : State) : State :=
  let k := monCodes m s
  let u := decide (pn (Pid.MON_UV_MV m.val) s ≠ 0)
  let o := decide (pn (Pid.MON_OV_MV m.val) s ≠ 0)
  onMon m (fun x => { x with uvCode := k.1, ovCode := k.2.1, offCode := k.2.2, uvEn := u, ovEn := o, uv := x.uv && u, ov := x.ov && o,
                             written := true, widened := false }) s

/-- The union of a monitor's window with the one now asked for; a comparator that either leaves off is off (R227, R229). -/
def Mon.union (k : Nat × Nat × Nat) (u o : Bool) (x : Mon) : Mon :=
  { x with uvCode := min x.uvCode k.1, ovCode := max x.ovCode k.2.1, uvEn := x.uvEn && u, ovEn := x.ovEn && o, uv := x.uv && u,
           ov := x.ov && o }

/-- Widen a window to its union with the one now asked for (R227). -/
def monUnite (m : Fin 32) (s : State) : State :=
  onMon m (Mon.union (monCodes m s) (decide (pn (Pid.MON_UV_MV m.val) s ≠ 0)) (decide (pn (Pid.MON_OV_MV m.val) s ≠ 0))) s

/-- The same, held wide until a margin change has ended (R227). -/
def monWiden (m : Fin 32) (s : State) : State := onMon m (fun x => { x with widened := true }) (monUnite m s)

/-- A comparator's threshold at the monitored node, in mV / 1000 (R201). -/
def monLevel (m : Fin 32) (code : Nat) (s : State) : Nat := 2 * code * pn (Pid.MON_DIV m.val) s

/-- A comparator sets at this voltage (R202). -/
def monSets (m : Fin 32) (e : MonEdge) (s : State) : Bool :=
  let x := s.pwr.mon[m]
  match e.side with
  | .uv => x.uvEn && decide (e.mv * 1000 < monLevel m x.uvCode s)
  | .ov => x.ovEn && decide (monLevel m x.ovCode s ≤ e.mv * 1000)

/-- A comparator clears at this voltage, past its hysteresis (R202). -/
def monClears (m : Fin 32) (e : MonEdge) (s : State) : Bool :=
  let x := s.pwr.mon[m]
  let h := 1000 * pn (Pid.MON_HYST_MV m.val) s
  match e.side with
  | .uv => decide (monLevel m x.uvCode s + h ≤ e.mv * 1000)
  | .ov => decide (e.mv * 1000 + h < monLevel m x.ovCode s)

/-- The monitors whose MONm.RAIL names a channel. -/
def chanMons (c : Fin 12) (s : State) : List (Fin 32) :=
  (allFin 32).filter (fun m => pn (Pid.MON_RAIL m.val) s == c.val)

/-- A monitor fault that asserts ERR_N is active (R204, R367). -/
def monErr (m : Fin 32) (s : State) : Bool :=
  let x := s.pwr.mon[m]
  x.eval && (x.uv || x.ov) && (pn (Pid.MON_ACT m.val) s).testBit 0

/-! ### Margins and slews (R170, R225 to R227) -/

/-- A running channel's reference goes to a new set point from where it stands (R170). -/
def slewTo (c : Fin 12) (mv : Nat) (s : State) : State :=
  let ref := refNow c s
  onVr c (fun x => { x with refMv := ref, refAt := s.sys.devTime, setMv := mv, slewing := x.st.isUp && decide (ref ≠ mv) }) s

/-- Write a margin through the frame port: the windows that depend on it are united with those in force, and the reference slews (R225
to R227). -/
def applyMargin (c : Fin 12) (m : Int) (s : State) : State :=
  let w := (winBottom c s, winTop c s)
  let s1 := s.onPwr (fun w => { w with vr := vmod w.vr c (fun x => { x with margin := m }) })
  let new := targetMv c s1
  let run := s.pwr.vr[c].st.running
  let s2 := if run then slewTo c new s1 else s1
  let s3 := onVr c (fun x => { x with wide := some (min w.1 new, max w.2 new),
                                      margined := m ≠ 0 || ((x.slewing || x.st == .softstart) && x.margined) }) s2
  foldS monWiden (chanMons c s3) s3

/-- Every margin applied in TEST returns to 0 %, unless SEQ.MARGIN_ALLOW is set (R34). -/
def endMargins (s : State) : State :=
  if pb Pid.SEQ_MARGIN_ALLOW s then s
  else foldS (fun c t => when_ (decide (t.pwr.vr[c].margin ≠ 0)) (applyMargin c 0) t) (allFin 12) s

end Sys2Proof.Machine
end

