-- ==== Sys2Proof/Machine/SeqOps.lean ====
section
/-! DEFINITION. The sequencer's groups: steps, walks, requests and their conflicts (R205 to R224), shared by the rows of
chapter 07. -/

namespace Sys2Proof.Machine

/-! ### Tables (R205, R206, R215) -/

/-- Word g of SEQ.GROUPS. -/
def groupWord (g : Fin 8) (s : State) : Nat := (pvw Pid.SEQ_GROUPS g.val s).toNat
/-- The group is in use. -/
def groupEn (g : Fin 8) (s : State) : Bool := (groupWord g s).testBit 31
/-- The group powers up at start-up. -/
def groupAuto (g : Fin 8) (s : State) : Bool := (groupWord g s).testBit 30
/-- FAULT_ACT. -/
def groupAct (g : Fin 8) (s : State) : Nat := (groupWord g s / 268435456) % 4
/-- FIRST. -/
def groupFirst (g : Fin 8) (s : State) : Nat := groupWord g s % 256
/-- COUNT. -/
def groupCount (g : Fin 8) (s : State) : Nat := (groupWord g s / 256) % 256

/-- A step of SEQ.STEPS. -/
structure Step where
  action : Nat
  inDown : Bool
  cont : Bool
  target : Nat
  level : Nat
  time : Nat
deriving DecidableEq, Repr

/-- Step i. -/
def stepAt (i : Nat) (s : State) : Step :=
  let w := (pvw Pid.SEQ_STEPS (2 * i) s).toNat
  { action := (w / 268435456) % 16, inDown := w.testBit 25, cont := w.testBit 24, target := (w / 65536) % 256,
    level := w % 65536, time := (pvw Pid.SEQ_STEPS (2 * i + 1) s).toNat }

/-- The steps of a group with their indices. -/
def groupSteps (g : Fin 8) (s : State) : List (Nat × Step) :=
  (List.range (groupCount g s)).map (fun i => (groupFirst g s + i, stepAt (groupFirst g s + i) s))

/-- The rail of an ENABLE step. -/
def Step.enables (x : Step) : Option Rail := if x.action = 1 then railOf x.target else none

/-- The rails a group enables. -/
def groupRails (g : Fin 8) (s : State) : List Rail := (groupSteps g s).filterMap (fun x => x.2.enables)

/-- The group a rail belongs to. -/
def railGroup (r : Rail) (s : State) : Option (Fin 8) :=
  (allFin 8).find? (fun g => groupEn g s && (groupRails g s).contains r)

/-- The groups in the order of SEQ.ORDER. -/
def seqOrder (s : State) : List (Fin 8) :=
  (List.range 8).filterMap (fun i =>
    let d := (pn Pid.SEQ_ORDER s / 16 ^ i) % 16
    if h : d < 8 then (if groupEn ⟨d, h⟩ s then some ⟨d, h⟩ else none) else none)

/-! ### States -/

/-- Codes of R209. -/
def GroupState.code : GroupState → Nat
  | .down => 0
  | .upRun => 1
  | .up => 2
  | .downRun => 3
  | .backoff => 4
  | .failed => 5
  | .interrupted => 6
  | .halted => 7
  | .partialUp => 8
  | .unused => 15

/-- Change a group's bookkeeping. -/
def onGrp (g : Fin 8) (f : Group → Group) (s : State) : State := s.onPwr (fun w => { w with grp := vmod w.grp g f })

/-- Change a group's state: GROUP_STATE and EIC source 116 + g (R209, R471). -/
def setGroup (g : Fin 8) (st : GroupState) (s : State) : State :=
  let old := s.pwr.grp[g].st
  if old = st then s
  else latchEic (116 + g.val) (raiseEvent 0x4001 (w32 (g.val * 256 + old.code * 16 + st.code))
    (onGrp g (fun x => { x with st := st }) s))

/-- SNAPSHOT word 8 and SEQ.G_STATE: a nibble per group. -/
def groupNibbles (s : State) : Nat :=
  ((allFin 8).map (fun g => s.pwr.grp[g].st.code * 16 ^ g.val)).sum

/-- A sequencer pick. -/
def grpPick (g : Fin 8) (kind detail : Nat) (s : State) : State := raisePick (0x120 + g.val) kind detail s

/-! ### Declared waits (R89, R224), in 10 us ticks -/

/-- Ticks of a step in A. -/
def Step.ticksA (x : Step) : Nat :=
  if x.action = 1 then 1 else if x.action = 3 then max x.time 1 else x.time + 1

/-- A of a group. -/
def groupA (g : Fin 8) (s : State) : Nat := ((groupSteps g s).map (fun x => x.2.ticksA)).sum

/-- D of a group. -/
def groupD (g : Fin 8) (s : State) : Nat :=
  ((groupSteps g s).map (fun x =>
    match x.2.enables with
    | some r => railBound r s / 10 + 100 * pn Pid.SEQ_DOWN_EXT_MS s + 1
    | none => if x.2.action = 3 && x.2.inDown then x.2.time else 0)).sum

/-- H of one rail: its bound less the time since its disable, while it is held or discharging. -/
def railH (r : Rail) (s : State) : Nat :=
  if railHeld r s || railDischarging r s then
    (railBound r s - (s.sys.devTime - railDisabledAt r s)) / 10
  else 0

/-- Bound of a power-up series without P. -/
def seriesTicks (g : Fin 8) (s : State) : Nat :=
  ((groupRails g s).map (fun r => railH r s)).sum + (pn Pid.SEQ_RETRIES s + 1) * (groupA g s + groupD g s) +
    pn Pid.SEQ_RETRIES s * 100 * pn Pid.SEQ_BACKOFF_MS s

/-- P: the remaining bound of the running sequence. -/
def remainTicks (g : Fin 8) (s : State) : Nat := (s.pwr.grp[g].boundAt - s.sys.devTime + 9) / 10

/-- Declared wait of GROUP_UP. -/
def waitUp (g : Fin 8) (s : State) : Nat :=
  let st := s.pwr.grp[g].st
  (if st = .upRun || st = .backoff || st = .downRun then remainTicks g s else 0) + seriesTicks g s

/-- Declared wait of GROUP_DOWN. -/
def waitDown (g : Fin 8) (s : State) : Nat :=
  (if s.pwr.grp[g].st = .downRun then remainTicks g s else 0) + groupD g s

/-- Declared wait of GROUP_DOWN 0xFF. -/
def waitAllDown (s : State) : Nat :=
  ((allFin 8).map (fun g => if groupEn g s && s.pwr.grp[g].st ≠ .down then groupD g s else 0)).sum

/-- Declared wait of RAIL_ON. -/
def waitRailOn (r : Rail) (s : State) : Nat :=
  match r with
  | .vr c => railH r s + pn (Pid.VR_TSS_US c.val) s / 10 + 100
  | .ldo n => railH r s + pn (Pid.LDO_TSS_US n.val) s / 10 + 100
  | .en n => 100 * pn (Pid.EN_ON_TMO_MS n.val) s

/-- Declared wait of RAIL_OFF. -/
def waitRailOff (r : Rail) (s : State) : Nat := railBound r s / 10 + 100 * pn Pid.SEQ_DOWN_EXT_MS s

/-- Ticks as ms, rounded up, for result word 11. -/
def ticksMs (n : Nat) : Nat := (n + 99) / 100

/-! ### Completions with a declared wait -/

/-- Complete a command with result words and its declared wait in word 11. -/
def completeW (c : CmdRef) (st : Nat) (ws : List W) (s : State) : State :=
  match findSlot c.port c.tag s with
  | none => s
  | some x => complete c.port c.tag st (padTo 11 0 ws ++ [w32 (ticksMs x.waitTicks)]) s

/-- Complete a list of commands alike. -/
def completeAllW (l : List CmdRef) (st : Nat) (ws : List W) (s : State) : State :=
  foldS (fun c t => completeW c st ws t) l s

/-- Result words of GROUP_UP (R223). -/
def upWords (g : Fin 8) (s : State) : List W :=
  let x := s.pwr.grp[g]
  [w32 x.st.code, w32 x.attempts, w32 x.failStep, w32 x.failCause]

/-- Result words of GROUP_DOWN. -/
def downWords (g : Fin 8) (s : State) : List W :=
  let x := s.pwr.grp[g]
  [w32 x.st.code, w32 x.takenOff, w32 x.haltStep, 0]

/-- Complete the GROUP_UPs of a group. -/
def finishUps (g : Fin 8) (st : Nat) (s : State) : State :=
  onGrp g (fun x => { x with upCmds := [] }) (completeAllW s.pwr.grp[g].upCmds st (upWords g s) s)

/-- Complete the GROUP_DOWNs of a group. -/
def finishDowns (g : Fin 8) (st : Nat) (s : State) : State :=
  onGrp g (fun x => { x with downCmds := [] }) (completeAllW s.pwr.grp[g].downCmds st (downWords g s) s)

/-- What supersedes a sequence: word 0 of ABORTED_SUPERSEDED (R466). -/
def supersedeWord (op : Nat) (tag : Tag) (port : Port) (origin : Nat) : W :=
  w32 (op + 65536 * tag.toNat + 16777216 * portNo port + 268435456 * origin)

/-- The word of an origin that is no command: 1 monitor bit 1, 2 monitor bit 2, 3 FAULT_ACT, 4 RESET_N. -/
def originWord (op origin : Nat) : W := supersedeWord op 0 .internal origin

/-- Complete the GROUP_UPs of a group, running and held, as superseded. -/
def abortUps (g : Fin 8) (by_ : W) (s : State) : State :=
  let x := s.pwr.grp[g]
  onGrp g (fun y => { y with upCmds := [], heldUp := none }) (completeAllW (x.upCmds ++ x.heldUp.getD []) 0x22 [by_] s)

/-! ### Starting sequences -/

/-- An attempt starts at FIRST at the next tick (R210). -/
def startAttempt (g : Fin 8) (s : State) : State :=
  setGroup g .upRun (onGrp g (fun x =>
    { x with step := groupFirst g s, stepAt := none, waitOver := false, evSrc := none, evLatch := false,
             last := groupFirst g s, attempts := x.attempts + 1, railAt := none, backoffWait := false, immediate := false }) s)

/-- A power-up series starts, with the settings of its start (R211, R228). -/
def startSeries (g : Fin 8) (s : State) : State :=
  startAttempt g (onGrp g (fun x =>
    { x with attempts := 0, failStep := 0xFF, failCause := 0, retries := pn Pid.SEQ_RETRIES s,
             backoffMs := pn Pid.SEQ_BACKOFF_MS s, extMs := pn Pid.SEQ_DOWN_EXT_MS s,
             stuckHalt := pn Pid.SEQ_STUCK_ACT s = 1, takenOff := 0, haltStep := 0xFF,
             boundAt := s.sys.devTime + 10 * seriesTicks g s }) s)

/-- The walk of a power-down starts at step `from_` at the next tick (R212). -/
def startWalk (g : Fin 8) (from_ : Nat) (after : AfterDown) (st : GroupState) (s : State) : State :=
  setGroup g st (onGrp g (fun x =>
    { x with step := from_, stepAt := none, waitOver := false, evSrc := none, evLatch := false, railAt := none,
             backoffWait := false, after := after }) s)

/-- The bound of a power-down, us; with CYCLE, of the back-off and the new series after it too (R216, R224). -/
def downBound (g : Fin 8) (after : AfterDown) (s : State) : Nat :=
  10 * (groupD g s + (if after = .cycle then 100 * pn Pid.SEQ_BACKOFF_MS s + seriesTicks g s else 0))

/-- The settings and counts of a power-down as of its start. -/
def armDown (g : Fin 8) (after : AfterDown) (s : State) : State :=
  onGrp g (fun x => { x with takenOff := 0, haltStep := 0xFF, extMs := pn Pid.SEQ_DOWN_EXT_MS s,
                             stuckHalt := pn Pid.SEQ_STUCK_ACT s = 1, backoffMs := pn Pid.SEQ_BACKOFF_MS s,
                             boundAt := s.sys.devTime + downBound g after s }) s

/-- The last step of a group. -/
def lastStep (g : Fin 8) (s : State) : Nat := groupFirst g s + groupCount g s - 1

/-- Withdraw the held enable of the step in progress. -/
def withdrawStep (g : Fin 8) (s : State) : State :=
  match (stepAt s.pwr.grp[g].step s).enables with
  | none => s
  | some r => when_ (railHeld r s) (withdrawHeld r) s

/-- Everything of a group's GROUP_DOWN is done: DOWN, and a held GROUP_UP starts (R217). -/
def enterDown (g : Fin 8) (s : State) : State :=
  let s1 := setGroup g .down s
  let s2 := finishDowns g (if s.pwr.grp[g].takenOff = 0 then 0x00 else 0x01) s1
  match s.pwr.grp[g].heldUp with
  | none => s2
  | some l => startSeries g (onGrp g (fun x => { x with heldUp := none, upCmds := l }) s2)

/-! ### Requests (R217, R218) -/

/-- GROUP_UP takes effect on a group; `cmds` are the commands behind it. -/
def requestUp (g : Fin 8) (cmds : List CmdRef) (s : State) : State :=
  let x := s.pwr.grp[g]
  let add := onGrp g (fun y => { y with upCmds := y.upCmds ++ cmds })
  match x.st with
  | .down => startSeries g (add s)
  | .upRun => add s
  | .up => completeAllW cmds 0x00 (upWords g s) s
  | .partialUp => startSeries g (add s)
  | .downRun => onGrp g (fun y => { y with heldUp := some (y.heldUp.getD [] ++ cmds) }) s
  | .backoff => add s
  | .failed => startSeries g (add s)
  | .interrupted => startSeries g (add s)
  | .halted => completeAllW cmds 0x17 [0] s
  | .unused => completeAllW cmds 0x17 [0] s

/-- GROUP_DOWN takes effect on a group: `cmds` are the commands behind it, `by_` names what supersedes. -/
def requestDown (g : Fin 8) (cmds : List CmdRef) (by_ : W) (after : AfterDown) (s : State) : State :=
  let x := s.pwr.grp[g]
  let add := onGrp g (fun y => { y with downCmds := y.downCmds ++ cmds })
  match x.st with
  | .down => completeAllW cmds 0x00 (downWords g (armDown g after s)) s
  | .upRun => add (startWalk g x.last after .downRun (armDown g after (withdrawStep g (abortUps g by_ s))))
  | .up => add (startWalk g (lastStep g s) after .downRun (armDown g after s))
  | .partialUp => add (startWalk g (lastStep g s) after .downRun (armDown g after s))
  | .downRun => onGrp g (fun y => { y with after := after }) (add (abortUps g by_ s))
  | .backoff =>
    let s1 := onGrp g (fun y => { y with after := .toDown, takenOff := if x.backoffWait then 0 else y.takenOff })
      (add (abortUps g by_ s))
    if x.backoffWait then enterDown g (onGrp g (fun y => { y with backoffWait := false }) s1) else s1
  | .failed => enterDown g (armDown g after (add s))
  | .interrupted => add (startWalk g (lastStep g s) after .downRun (armDown g after s))
  | .halted =>
    add (setGroup g .downRun (onGrp g (fun y =>
      { y with haltStep := 0xFF, railAt := some s.sys.devTime, waitOver := false, after := after,
               boundAt := s.sys.devTime + downBound g after s }) s))
  | .unused => completeAllW cmds 0x17 [0] s

/-! ### Failures (R210, R216) -/

/-- An attempt fails: SEQ_FAIL, BACKOFF and the reversal (R210, R211). -/
def failAttempt (g : Fin 8) (cause i : Nat) (s : State) : State :=
  let x := s.pwr.grp[g]
  let s1 := grpPick g 0x18 (cause * 4096 + (x.attempts % 16) * 256 + i % 256) (withdrawStep g s)
  let s2 := onGrp g (fun y => { y with failStep := i, failCause := cause, takenOff := 0 }) s1
  startWalk g x.last (if x.retries < x.attempts then .toFailed else .retry) .backoff s2

/-- The rails that the present attempt has enabled: those of the ENABLE steps started. -/
def attemptRails (g : Fin 8) (s : State) : List (Nat × Rail) :=
  (groupSteps g s).filterMap (fun x =>
    if x.1 ≤ s.pwr.grp[g].last then x.2.enables.map (fun r => (x.1, r)) else none)

/-- RAIL_ON commands that wait for a rail. -/
def railOnWaiters (r : Rail) (s : State) : List CmdRef :=
  (s.hif.slots.filter (fun x => x.op == 0x401 && decide (x.status = .running) && bitsOf (x.word 1) 0 8 == railCode r)).map
    (fun x => { port := x.port, tag := x.tag })

/-- A rail of a group fails: 2 HICCUP, 3 LATCHED_OFF, 4 thermal zone shutdown, 6 linked monitor UV (R210, R216, R222). -/
def railFault (r : Rail) (why : Nat) (s : State) : State :=
  let s0 := when_ (why == 2 || why == 3) (completeAllW (railOnWaiters r s) 0x30 [w32 (railState r s)]) s
  if s.sys.inReset then s0
  else match railGroup r s0 with
  | none => s0
  | some g =>
    let x := s0.pwr.grp[g]
    if x.st = .upRun then
      match (attemptRails g s0).find? (fun a => a.2 == r) with
      | none => s0
      | some a => if why = 6 then s0 else failAttempt g (if why = 2 then 2 else 3) x.step
          (onGrp g (fun y => { y with last := max y.last a.1 }) s0)
    else if x.st = .up then
      let s1 := grpPick g 0x1B (railCode r + 256 * why) s0
      if groupAct g s0 = 0 then setGroup g .partialUp s1
      else requestDown g [] (originWord 0x411 3) (if groupAct g s0 = 2 then .cycle else .toDown) s1
    else s0

/-- Enter HICCUP and tell the sequencer. -/
def hiccupNow (c : Fin 12) (s : State) : State := railFault (.vr c) 2 (chanHiccup c s)

/-- Enter LATCHED_OFF and tell the sequencer. -/
def latchNow (c : Fin 12) (cause : Nat) (s : State) : State :=
  let st := s.pwr.vr[c].st
  if st = .off || st = .latchedOff then s else railFault (.vr c) 3 (chanLatch c cause s)

/-- Active members below MIN_PH latch the channel, unless the spare is on its way in (R171, R185, R187). -/
def minPhCheck (c : Fin 12) (s : State) : State :=
  if activeMembers c s + b01 s.pwr.vr[c].takeover < pn (Pid.VR_MIN_PH c.val) s then latchNow c 4 s else s

/-- A rail has come up: RAIL_ONs that wait for it complete (R222). -/
def railUpDone (r : Rail) (s : State) : State :=
  if railUp r s then completeAllW (railOnWaiters r s) 0x00 [w32 (railState r s)] s else s

/-! ### Immediate off (R220) -/

/-- Add a rail to those being turned off outside a walk. -/
def addRailWait (r : Rail) (cmd : Option CmdRef) (s : State) : State :=
  s.onPwr (fun w => { w with railWaits := w.railWaits ++ [{ rail := r, cmd := cmd }] })

/-- A GROUP_DOWN 0xFF that runs on the group, or is still to come to it, ends superseded (R220). -/
def abortAllDown (g : Fin 8) (by_ : W) (s : State) : State :=
  if s.pwr.allDown.contains g || s.pwr.allDownDone.getLast? == some g then
    (completeAllW s.pwr.allDownCmds 0x22 [by_] s).onPwr (fun w => { w with allDown := [], allDownCmds := [], allDownDone := [] })
  else s

/-- A group's rails go off at once: its sequence and held request end superseded, and it is in DOWN_RUN until they are
off (R220). -/
def immediateOff (g : Fin 8) (by_ : W) (s : State) : State :=
  let x := s.pwr.grp[g]
  let s1 := foldS disableRail (groupRails g s) (abortAllDown g by_ s)
  if x.st = .unused then s1
  else
    let s2 := onGrp g (fun y => { y with downCmds := [] }) (completeAllW x.downCmds 0x22 [by_] (abortUps g by_ s1))
    if x.st = .down then s2
    else
      let s3 := onGrp g (fun y => { y with immediate := true }) (startWalk g x.step .toDown .downRun (armDown g .toDown s2))
      foldS (fun r t => addRailWait r none t) (groupRails g s) s3

/-- Every rail off at once, without sequence order (R50, R220, R313): `by_` names what supersedes. -/
def allOff (by_ : W) (s : State) : State :=
  foldS disableRail allRails (foldS (fun g t => immediateOff g by_ t) (allFin 8) s)

/-! ### The tick of the step engine (R207, R212) -/

/-- The condition of a WAIT_RAIL step (R207). -/
def waitRailHolds (x : Step) (s : State) : Bool :=
  match railOf x.target with
  | some (.vr c) => decide (x.level * setPoint c s ≤ 1000 * s.pwr.vr[c].outMv)
  | some (.ldo n) => decide (x.level * pn (Pid.LDO_VOUT_MV n.val) s ≤ 1000 * s.pwr.ldo[n].outMv)
  | some (.en n) => railUp (.en n) s
  | none => !(vgetD {} s.pwr.mon (x.target - 0x40)).uv

/-- A step of a power-up starts at this tick. -/
def startUpStep (g : Fin 8) (s : State) : State :=
  let i := s.pwr.grp[g].step
  let x := stepAt i s
  let s1 := onGrp g (fun y => { y with stepAt := some s.sys.devTime, last := i, waitOver := false, evLatch := false,
                                       evSrc := if x.action = 4 then some x.target else none }) s
  let waitDone := onGrp g (fun y => { y with waitOver := true })
  match x.enables with
  | some r =>
    if railUp r s1 then waitDone s1
    else
      let e := enableRail r s1
      match e.2 with
      | .held => e.1
      | .refused => failAttempt g 5 i e.1
      | .started => waitDone e.1
      | .already => waitDone e.1
  | none => if x.action = 2 && waitRailHolds x s1 then waitDone s1 else s1

/-- Every step is completed: UP (R209, R223). -/
def enterUp (g : Fin 8) (s : State) : State :=
  let s1 := setGroup g .up (onGrp g (fun y => { y with stepAt := none, waitOver := false, evSrc := none }) s)
  finishUps g (if s.pwr.grp[g].attempts ≤ 1 then 0x00 else 0x01) s1

/-- The next step of a power-up starts, or the group is UP. -/
def nextUpStep (g : Fin 8) (s : State) : State :=
  let i := s.pwr.grp[g].step
  if i < lastStep g s then startUpStep g (onGrp g (fun y => { y with step := i + 1 }) s) else enterUp g s

/-- A tick of a running power-up. -/
def tickUp (g : Fin 8) (s : State) : State :=
  let y := s.pwr.grp[g]
  let x := stepAt y.step s
  let waitDone := onGrp g (fun y => { y with waitOver := true })
  if y.stepAt = none then startUpStep g s
  else if y.waitOver then nextUpStep g s
  else match x.enables with
    | some r => if railHeld r s then s else if railEnabled r s then nextUpStep g s else s
    | none =>
      if x.action = 2 && waitRailHolds x s then waitDone s
      else if x.action = 4 && y.evLatch then waitDone s
      else s

/-- The walk of a group has ended (R211, R212, R216). -/
def endWalk (g : Fin 8) (s : State) : State :=
  let x := s.pwr.grp[g]
  let wait := onGrp g (fun y => { y with backoffWait := true, stepAt := none, waitOver := false, railAt := none })
  match x.after with
  | .toDown => enterDown g s
  | .retry => wait s
  | .toFailed =>
    finishUps g 0x30 (grpPick g 0x18 (0xF000 + (x.attempts % 16) * 256 + x.failStep % 256) (setGroup g .failed s))
  | .cycle =>
    if x.heldUp.isSome then enterDown g s
    else setGroup g .backoff (wait (finishDowns g (if x.takenOff = 0 then 0x00 else 0x01) s))

/-- Steps of a group that a power-down acts on, at or below index `i`, highest first. -/
def downSteps (g : Fin 8) (i : Nat) (s : State) : List (Nat × Step) :=
  ((groupSteps g s).filter (fun x => x.1 ≤ i && (x.2.enables.isSome || (x.2.action = 3 && x.2.inDown)))).reverse

/-- The walk takes up the highest acting step at or below index `i`, or has ended; steps skipped spend no tick. -/
def walkStep (g : Fin 8) (i : Nat) (s : State) : State :=
  match downSteps g i s with
  | [] => endWalk g s
  | x :: _ =>
    let s1 := onGrp g (fun y => { y with step := x.1, stepAt := some s.sys.devTime, waitOver := false, railAt := none }) s
    match x.2.enables with
    | none => s1
    | some r => disableRail r (onGrp g (fun y => { y with railAt := some s.sys.devTime }) s1)

/-- The walk goes on below the present step. -/
def walkOn (g : Fin 8) (s : State) : State :=
  let i := s.pwr.grp[g].step
  if i = 0 then endWalk g s else walkStep g (i - 1) s

/-- The rail of the present step has been found off, or is taken as off. -/
def walkFound (g : Fin 8) (s : State) : State :=
  let i := s.pwr.grp[g].step
  if i = 0 || !((downSteps g (i - 1) s).any (fun x => x.2.enables.isSome)) then endWalk g s
  else onGrp g (fun y => { y with waitOver := true, railAt := none }) s

/-- A tick of a power-down or a reversal. -/
def tickDown (g : Fin 8) (s : State) : State :=
  let y := s.pwr.grp[g]
  if y.immediate then
    (if s.pwr.railWaits.any (fun w => (groupRails g s).contains w.rail) then s else enterDown g s)
  else if y.backoffWait then s
  else if y.stepAt = none && y.railAt = none then walkStep g y.step s
  else if y.waitOver then walkOn g s
  else match y.railAt, (stepAt y.step s).enables with
    | some _, some r => if railOff r s then walkFound g s else s
    | _, _ => s

/-- A group in PARTIAL is UP again when every rail of it is (R216). -/
def tickPartial (g : Fin 8) (s : State) : State :=
  if (groupRails g s).all (fun r => railUp r s) then setGroup g .up s else s

/-- A tick of one group. -/
def tickGroup (g : Fin 8) (s : State) : State :=
  match s.pwr.grp[g].st with
  | .upRun => tickUp g s
  | .downRun => tickDown g s
  | .backoff => tickDown g s
  | .partialUp => tickPartial g s
  | _ => s

/-- A rail may be turned on by RAIL_ON (R222). -/
def railOnAllowed (r : Rail) (s : State) : Bool :=
  let group := match railGroup r s with
    | none => true
    | some g => s.pwr.grp[g].st == .up || s.pwr.grp[g].st == .partialUp
  let self := match r with
    | .vr c => vrUsed c s && s.pwr.vr[c].st != .latchedOff && (linkedPort c s).isNone &&
        decide (pn (Pid.VR_VIN_MIN_MV c.val) s ≤ s.path.vlink) &&
        decide (pn (Pid.VR_MIN_PH c.val) s ≤ activeMembers c s + b01 s.pwr.vr[c].takeover)
    | .ldo n => s.pwr.ldo[n].st != .latchedOff
    | .en _ => true
  group && self && !thermHeld r s && !s.sys.regStopped

/-- RAIL_ON takes effect, at once or after the RAIL_OFF it was held behind: refused, or the enable is made (R222). -/
def railOnGo (r : Rail) (c : CmdRef) (s : State) : State :=
  if !railOnAllowed r s then completeW c 0x17 [0] s
  else if railUp r s then completeW c 0x00 [w32 (railState r s)] s
  else
    let e := enableRail r s
    match e.2 with
    | .refused => completeW c 0x17 [0] e.1
    | _ => railUpDone r (modSlot c.port c.tag (fun x => { x with status := .running }) e.1)

/-- A rail of `railWaits` is off, or taken as off with status `st`. -/
def railWaitDone (w : RailWait) (st : Nat) (s : State) : State :=
  let s1 := s.onPwr (fun p => { p with railWaits := p.railWaits.filter (fun v => v ≠ w) })
  match w.cmd with
  | none => s1
  | some c =>
    let held := railOnWaiters w.rail s1
    let s2 := completeW c st [w32 (railState w.rail s1)] s1
    if s2.pwr.railWaits.any (fun v => v.rail == w.rail && v.cmd.isSome) then s2
    else foldS (fun d t => railOnGo w.rail d t) held s2

/-- Rails found off at this tick. -/
def tickRails (s : State) : State :=
  foldS (fun w t => when_ (railOff w.rail t) (railWaitDone w 0x00) t) s.pwr.railWaits s

/-- The groups power up one at a time (R215). -/
def tickAuto (s : State) : State :=
  match s.pwr.autoQueue with
  | [] => s
  | g :: l =>
    if s.pwr.grp[g].st = .upRun || s.pwr.grp[g].st = .backoff then s
    else
      let s1 := s.onPwr (fun w => { w with autoQueue := l })
      match l with
      | [] => s1
      | h :: _ => requestUp h [] s1

/-- A group of GROUP_DOWN 0xFF is still on its way down. -/
def downBusy (g : Fin 8) (s : State) : Bool :=
  let x := s.pwr.grp[g]
  x.st == .downRun || (x.st == .backoff && x.after == .toDown)

/-- GROUP_DOWN 0xFF is complete (R223). -/
def allDownDone (s : State) : State :=
  let l := s.pwr.allDownDone
  let taken := (l.map (fun g => s.pwr.grp[g].takenOff)).sum
  let halt := (l.filter (fun g => s.pwr.grp[g].st == .halted)).head?
  let st := if halt.isSome then 0x30 else if taken = 0 then 0x00 else 0x01
  (completeAllW s.pwr.allDownCmds st
    [w32 (groupNibbles s), w32 taken, w32 (match halt with | none => 0xFF | some g => s.pwr.grp[g].haltStep), 0] s).onPwr
      (fun w => { w with allDownCmds := [], allDownDone := [] })

/-- What supersedes a sequence that GROUP_DOWN 0xFF ends: its command, the long form of RESET_N, or the CUTOFF action. -/
def allDownWord (s : State) : W :=
  match s.pwr.allDownCmds with
  | c :: _ => supersedeWord 0x411 c.tag c.port 0
  | [] => if s.sys.rstnLong then originWord 0x003 4 else originWord 0x411 0

/-- The groups of GROUP_DOWN 0xFF power down one at a time, in reverse order of position (R215). -/
def tickAllDown (s : State) : State :=
  if s.pwr.allDown.isEmpty && s.pwr.allDownDone.isEmpty && s.pwr.allDownCmds.isEmpty then s
  else if (s.pwr.allDownDone.getLast?).any (fun g => downBusy g s) then s
  else match s.pwr.allDown with
    | [] => allDownDone s
    | g :: l =>
      let s1 := s.onPwr (fun w => { w with allDown := l, allDownDone := w.allDownDone ++ [g] })
      if s.pwr.grp[g].st = .down then s1 else requestDown g [] (allDownWord s) .toDown s1

/-- Start GROUP_DOWN 0xFF, or join the running one (R215, R217). -/
def startAllDown (cmds : List CmdRef) (s : State) : State :=
  let s1 := s.onPwr (fun w => { w with allDownCmds := w.allDownCmds ++ cmds })
  if !s.pwr.allDown.isEmpty || !s.pwr.allDownDone.isEmpty then s1
  else
    let todo := ((seqOrder s).filter (fun g => s.pwr.grp[g].st ≠ .down)).reverse
    match todo with
    | [] => allDownDone s1
    | g :: l =>
      requestDown g [] (allDownWord s1) .toDown (s1.onPwr (fun w => { w with allDown := l, allDownDone := [g] }))

/-- A group power-down or power-up is running, or waits in back-off (R208). -/
def seqBusy (s : State) : Bool :=
  (allFin 8).any (fun g => let st := s.pwr.grp[g].st; st == .upRun || st == .downRun || st == .backoff)

/-- Every group in use is DOWN. -/
def allGroupsDown (s : State) : Bool :=
  (allFin 8).all (fun g => !groupEn g s || s.pwr.grp[g].st == .down)

end Sys2Proof.Machine
end

