-- ==== Sys2Proof/Machine/Admit.lean ====
section
/-! DEFINITION. Admission: the opcode table, the split of a PARAM_SET, and the decision on every accepted command (R88 to R94, R102,
R103, R463, R473). -/

namespace Sys2Proof.Machine

/-! ### What admission looks at -/

/-- The processors run their images. -/
def procsRun (s : State) : Bool := s.sys.boot.bootDone && !s.sys.inReset && !s.sys.porActive && s.sys.bootErr ≠ 2

/-- CMD runs. -/
def cmdRuns (s : State) : Bool := procsRun s && !s.sys.cmdDown && !s.sys.dbgHalt.getLsbD 0

/-- The opcodes that limp service serves (R99). -/
def limpServed (op : Nat) : Bool :=
  op == 0x001 || op == 0x002 || op == 0x003 || op == 0x004 || op == 0x402 || op == 0x411 || op == 0x202 || op == 0x901

/-- A temperature zone at or above THROTTLE (R91). -/
def zoneHot (s : State) : Bool := s.therm.zone.toList.any (fun z => z.throt || z.shut)

/-! ### The opcode table (R463) -/

/-- One row of R463: opcode, class (PARAM_SET: see `classOf`), LEN range, service letters and W. -/
structure OpInfo where
  op : Nat
  cls : Nat
  lo : Nat
  hi : Nat
  early : Bool := false
  boot : Bool := false
  wait : Bool := false
deriving DecidableEq, Repr

/-- Opcodes of the digits 0 to 5. -/
def opRowsA : List OpInfo :=
  [⟨0x001, 0, 0, 0, false, false, false⟩, ⟨0x002, 0, 0, 0, true, false, false⟩, ⟨0x003, 0, 0, 0, true, false, false⟩,
   ⟨0x004, 0, 0, 0, false, false, false⟩, ⟨0x010, 1, 1, 1, false, false, false⟩, ⟨0x011, 1, 1, 2, false, false, false⟩,
   ⟨0x101, 1, 1, 12, false, false, false⟩, ⟨0x102, 1, 2, 63, false, false, false⟩, ⟨0x103, 3, 0, 0, false, false, false⟩,
   ⟨0x201, 1, 0, 1, false, false, false⟩, ⟨0x202, 1, 0, 0, false, false, false⟩, ⟨0x401, 1, 1, 1, false, false, true⟩,
   ⟨0x402, 1, 1, 1, false, false, true⟩, ⟨0x410, 1, 1, 1, false, false, true⟩, ⟨0x411, 1, 1, 1, false, false, true⟩,
   ⟨0x420, 1, 1, 1, false, false, false⟩, ⟨0x501, 1, 1, 1, false, false, false⟩, ⟨0x502, 2, 1, 1, false, false, false⟩,
   ⟨0x510, 1, 1, 1, false, false, false⟩, ⟨0x511, 1, 0, 0, false, false, false⟩, ⟨0x512, 2, 1, 1, false, false, false⟩,
   ⟨0x520, 2, 0, 0, false, false, false⟩, ⟨0x5C0, 1, 0, 0, false, false, false⟩, ⟨0x5C1, 1, 0, 0, false, false, false⟩,
   ⟨0x5C2, 1, 0, 0, false, false, false⟩]

/-- Opcodes of the digits 6 to B. -/
def opRowsB : List OpInfo :=
  [⟨0x601, 2, 6, 6, false, false, false⟩, ⟨0x602, 1, 1, 1, false, false, false⟩, ⟨0x603, 1, 1, 1, false, false, false⟩,
   ⟨0x604, 2, 2, 2, false, false, false⟩, ⟨0x605, 1, 1, 1, false, false, false⟩, ⟨0x610, 1, 1, 12, false, false, false⟩,
   ⟨0x801, 1, 1, 1, false, false, false⟩, ⟨0x810, 2, 0, 0, false, false, false⟩, ⟨0x811, 1, 1, 1, false, false, false⟩,
   ⟨0x901, 1, 1, 2, false, false, false⟩, ⟨0x902, 1, 3, 3, false, false, false⟩, ⟨0x903, 2, 2, 2, false, false, false⟩,
   ⟨0x904, 1, 2, 3, false, false, false⟩, ⟨0x910, 1, 1, 1, false, false, false⟩, ⟨0x911, 1, 1, 1, false, false, false⟩,
   ⟨0xA01, 1, 1, 1, false, false, false⟩, ⟨0xB10, 3, 2, 62, false, true, false⟩, ⟨0xB11, 3, 1, 1, false, true, false⟩,
   ⟨0xB12, 1, 0, 0, false, true, false⟩, ⟨0xB20, 1, 1, 1, false, false, false⟩, ⟨0xB21, 2, 2, 9, false, false, false⟩,
   ⟨0xB22, 2, 1, 1, false, false, false⟩, ⟨0xB23, 3, 2, 2, false, false, false⟩, ⟨0xB30, 2, 2, 2, false, false, false⟩,
   ⟨0xB31, 1, 1, 1, false, false, false⟩, ⟨0xB32, 2, 2, 61, false, false, false⟩, ⟨0xB33, 2, 1, 1, false, false, false⟩]

/-- The row of an opcode; `none`: BAD_OPCODE. -/
def opInfo (op : Nat) : Option OpInfo := (opRowsA ++ opRowsB).find? (fun r => r.op == op)

/-! ### PARAM_SET as entries (R102, R103) -/

/-- One entry of a PARAM_SET: the parameter's row, its word offset and its value words; `runsPast`: it runs past the payload. -/
structure SetEntry where
  id : Nat
  info : Option PInfo
  off : Nat
  vals : List W
  runsPast : Bool
deriving DecidableEq, Repr

/-- Value words of an entry, by its header (R102, R103). -/
def entryCount (r : Option PInfo) (h : W) : Nat :=
  match r with
  | none => 1
  | some i => if i.ty = .tbl then bitsOf h 24 8 else if i.ty = .u64 then 2 else 1

/-- Split a payload into entries; `n` is fuel. -/
def splitEntries : Nat → List W → List SetEntry
  | 0, _ => []
  | _, [] => []
  | n + 1, h :: ws =>
    let id := bitsOf h 0 16
    let r := paramInfo id
    let k := entryCount r h
    let off := if r.any (fun i => i.ty == .tbl) then bitsOf h 16 8 else bitsOf h 16 16
    if ws.length < k then [{ id := id, info := r, off := off, vals := ws, runsPast := true }]
    else { id := id, info := r, off := off, vals := ws.take k, runsPast := false } :: splitEntries n (ws.drop k)

/-- The entries of a PARAM_SET. -/
def setEntries (x : Slot) : List SetEntry := splitEntries 64 x.payload

/-- The class an entry counts as (R103). -/
def SetEntry.cls (e : SetEntry) : Nat :=
  if e.runsPast then 1
  else match e.info with
    | none => 1
    | some r => match r.cls with
      | .c0 => 0
      | .c1 => 1
      | .c2 => 2
      | .c3 => 3
      | .img => 1
      | .ro => 1

/-- The class of a command's opcode (R88, R103). -/
def classOf (i : OpInfo) (x : Slot) : Nat :=
  if i.op = 0x102 then ((setEntries x).map SetEntry.cls).foldl max 0 else i.cls

/-! ### Admission (R88 to R93, R473) -/

/-- The opcode is served in the present service state (R35, R50, R99, R429). -/
def opServed (i : OpInfo) (s : State) : Bool :=
  if s.sys.service.isLimp then limpServed i.op
  else if s.sys.bootErr = 2 then i.early || i.boot
  else if s.sys.bootErr = 3 then i.early || i.boot || i.op == 0x101
  else if s.sys.service = .early then i.op != 0x011
  else true

/-- LC_ADVANCE to FIELD_RETURN. -/
def toFieldReturn (x : Slot) : Bool := x.op == 0xB23 && bitsOf (x.word 1) 0 8 == 0x0F

/-- Chunks of 4 KB that a class-3 command moves, at least 1 (R88, R422, R473). -/
def movedChunks (x : Slot) : Nat :=
  if toFieldReturn x then 206 else 1

/-- The bound of an admitted command without its declared wait, us (R88). -/
def boundUs (x : Slot) (s : State) : Nat :=
  if x.cls = 1 then (if s.sys.service.isLimp then 5000 else 1000)
  else if x.cls = 2 then 25000
  else 2000000 * movedChunks x

/-- NVM and flash busy time of a command, us (R405, R431). -/
def nvmTime (x : Slot) : Nat :=
  if x.op = 0x103 || x.op = 0x520 then 800
  else if x.op = 0x502 || x.op = 0x512 || x.op = 0xB33 || x.op = 0xB31 then 13
  else if x.op = 0x903 then 25
  else if x.op = 0xB32 then 200
  else if x.op = 0xB10 then (if (x.word 1).getLsbD 8 then 400000 else 1000)
  else if x.op = 0xB11 then (if (x.word 1).getLsbD 0 then 1000 else 26000)
  else if toFieldReturn x then 4801000
  else 0

/-- NVM busy time left, us. -/
def nvmLeft (s : State) : Nat := s.sys.nvmBusy - s.sys.devTime

/-- The NVM recall is in progress. -/
def recalling (s : State) : Bool := s.sys.boot.sysLocked && !s.sys.boot.recallDone

/-- Declared wait at acceptance, in 10 us ticks (R89, R224). A command that names no rail or group has none. -/
def declaredWait (x : Slot) (s : State) : Nat :=
  let n := bitsOf (x.word 1) 0 8
  if x.op = 0x401 then (railOf n).elim 0 (fun r => waitRailOn r s)
  else if x.op = 0x402 then (railOf n).elim 0 (fun r => waitRailOff r s)
  else if x.op = 0x410 then (if h : n < 8 then waitUp ⟨n, h⟩ s else 0)
  else if x.op = 0x411 then (if h : n < 8 then waitDown ⟨n, h⟩ s else if n = 0xFF then waitAllDown s else 0)
  else 0

/-- Free draft time of a beat, us: at most 80, less what is promised (R30, R32). -/
def beatFree (limp : Bool) (b : Nat) (r : Sparse Nat) : Nat :=
  min 80 (Config.draftFreeUs (b % 64 + 64 * b01 limp)) - sget 0 r b

/-- Promise `cost` us in `n` beats from beat `b` on, earliest first. -/
def reserveBeats (limp : Bool) : Nat → Nat → Nat → Sparse Nat → Option (Sparse Nat)
  | 0, _, cost, r => if cost = 0 then some r else none
  | n + 1, b, cost, r =>
    if cost = 0 then some r
    else
      let k := min cost (beatFree limp b r)
      reserveBeats limp n (b + 1) (cost - k) (sset 0 r b (sget 0 r b + k))

/-- Promise `cost` us in the beats that begin at or after `from_` and end at or before `to_`, us of device time (R92). -/
def reserveWithin (limp : Bool) (from_ to_ cost : Nat) (r : Sparse Nat) : Option (Sparse Nat) :=
  let b := (from_ + 99) / 100
  reserveBeats limp (to_ / 100 - b) b cost r

/-- `reserve_draft` of R92 with the declared times of R473. -/
def reserveDraft (w : Bool) (x : Slot) (waitUs : Nat) (s : State) : Option (Sparse Nat) :=
  let t := s.sys.devTime
  let dl := t + boundUs x s
  let limp := s.sys.service.isLimp
  if w then (reserveWithin limp t dl 40 s.sys.reserved).bind (reserveWithin limp (t + waitUs) (dl + waitUs) 20)
  else reserveWithin limp t dl (if x.cls = 1 then 60 else if x.cls = 2 then 600 else 600 * movedChunks x) s.sys.reserved

/-- What admission decides. -/
inductive Verdict where
  /-- Posted at once with a status and result word 0. -/
  | refuse (st : Nat) (w : Nat)
  | defer
  /-- Admitted: the promises, the declared wait in ticks, the NVM time, a fast-lane start. -/
  | toSlot (reserved : Sparse Nat) (wait nvm : Nat) (fast : Bool)
deriving DecidableEq, Repr

/-- The last part of R92, from the fast lane on; `mayDefer` is false when a deferred command is decided again (R90). -/
def admitVerdict (mayDefer w : Bool) (x : Slot) (s : State) : Verdict :=
  if x.cls = 0 then (if 2 ≤ s.sys.class0Starts then .refuse 0x10 2 else .toSlot s.sys.reserved 0 0 true)
  else if x.cls = 3 && zoneHot s then .refuse 0x10 6
  else
    let wait := if w then declaredWait x s else 0
    let nt := nvmTime x
    if 100000 * pn Pid.HIF_WAIT_MAX_S s < wait then .refuse 0x10 5
    else if boundUs x s < nvmLeft s + nt then (if recalling s then .refuse 0x18 (nvmLeft s) else .refuse 0x10 4)
    else match reserveDraft w x (10 * wait) s with
      | some r => .toSlot r wait nt false
      | none => if mayDefer && s.sys.mode ≠ .normal && cmdRuns s then .defer else .refuse 0x10 1

/-- Under a boot error FW_WRITE, FW_ACTIVATE, FW_STATUS and PARAM_GET are served within their NORMAL bounds (R429), after the zone and
NVM tests of R92; no other task holds draft time then, so capacity refuses none (log entry 33). -/
def serveVerdict (x : Slot) (s : State) : Verdict :=
  let nt := nvmTime x
  if x.cls = 3 && zoneHot s then .refuse 0x10 6
  else if boundUs x s < nvmLeft s + nt then (if recalling s then .refuse 0x18 (nvmLeft s) else .refuse 0x10 4)
  else .toSlot ((reserveDraft false x 0 s).getD s.sys.reserved) 0 nt false

/-- A boot error's service is in force. -/
def bootServes (s : State) : Bool := (s.sys.bootErr == 2 || s.sys.bootErr == 3) && !s.sys.service.isLimp

/-- `decide` of R92 for a command just accepted; it holds no slot yet. -/
def verdict (x : Slot) (s : State) : Verdict :=
  match opInfo x.op with
  | none => .refuse 0x11 0
  | some i =>
    if !opServed i s then .refuse 0x17 0
    else if x.cls ≠ classOf i x then .refuse 0x11 1
    else if x.payload.length < i.lo || i.hi < x.payload.length then .refuse 0x12 0
    else if (findSlot x.port x.tag s).isSome then .refuse 0x10 3
    else if bootServes s && x.cls ≠ 0 then serveVerdict x s
    else if s.sys.service = .early then
      if x.cls ≠ 0 then .defer else if i.early then .toSlot s.sys.reserved 0 0 false else .refuse 0x17 0
    else admitVerdict true i.wait x s

/-- What admission keeps of an admitted command: the promises, the fast-lane start, the NVM time. -/
def noteAdmitted (reserved : Sparse Nat) (nvm : Nat) (fast : Bool) (s : State) : State :=
  s.onSys (fun y => { y with reserved := reserved, class0Starts := y.class0Starts + b01 fast,
                             nvmBusy := if nvm = 0 then y.nvmBusy else max y.nvmBusy y.devTime + nvm })

/-! ### The order in which admitted commands run (R93, R94) -/

/-- The objects a command acts on, as numbers: parameters, rails, groups and the units of the other commands (R94). -/
def objects (x : Slot) (s : State) : List Nat :=
  let n := bitsOf (x.word 1) 0 8
  let rails := fun (g : Fin 8) => (groupRails g s).map (fun r => 0x10000 + railCode r)
  if x.op = 0x101 then x.payload.map (fun w => bitsOf w 0 16)
  else if x.op = 0x102 then (setEntries x).map (fun e => e.id)
  else if x.op = 0x401 || x.op = 0x402 || x.op = 0x420 then [0x10000 + n]
  else if x.op = 0x410 || x.op = 0x411 then
    (if h : n < 8 then (0x11000 + n) :: rails ⟨n, h⟩ else (allFin 8).flatMap (fun g => (0x11000 + g.val) :: rails g))
  else if x.op = 0x201 || x.op = 0x202 then [0x12000]
  else if x.op = 0x011 || x.op = 0x510 || x.op = 0x511 then [0x12001]
  else if x.op = 0x501 || x.op = 0x502 || x.op = 0x520 then [0x12002]
  else if x.op = 0x601 || x.op = 0x602 || x.op = 0x603 || x.op = 0x604 || x.op = 0x605 then [0x13000 + n % 8]
  else if x.op = 0x801 || x.op = 0x811 then [0x14000 + n % 2]
  else if x.op = 0x810 then [0x14000, 0x14001]
  else if x.op = 0x901 || x.op = 0x902 || x.op = 0x904 then [0x15000 + bitsOf (x.word 1) 0 10]
  else if x.op = 0x910 || x.op = 0x911 then [0x16000 + n]
  else if x.op = 0xB10 || x.op = 0xB11 || x.op = 0xB12 then [0x12003]
  else if 0xB20 ≤ x.op && x.op ≤ 0xB23 then [0x12004]
  else if x.op = 0xB30 || x.op = 0xB31 || x.op = 0xB32 then [0x12005]
  else []

/-- Command `y` must run before command `x`, accepted after it: admitted and not begun, of the same port and class (R93) or on the same
object (R94). Class 0 overtakes the others. -/
def runsFirst (y x : Slot) (s : State) : Bool :=
  y.status == .admitted && ((y.port == x.port && y.cls == x.cls) || (x.cls != 0 && (objects y s).any (fun k => (objects x s).contains k)))

/-- It is a command's turn: none accepted before it must run first. -/
def itsTurn (x : Slot) (s : State) : Bool :=
  (s.hif.slots.takeWhile (fun y => !(y.port == x.port && y.tag == x.tag && !y.status.isFinished))).all (fun y => !runsFirst y x s)

/-- Run the admitted command `op` of a port and tag in its turn: the row's handler begins (R92 to R94). With no such command admitted,
or out of turn, the event does not occur (log entry 9). -/
def runCmd (op : Nat) (p : Port) (tag : Tag) (f : Slot → State → State) (s : State) : State :=
  match findSlot p tag s with
  | none => s
  | some x => if x.op = op && x.status = .admitted && itsTurn x s then f x s else s

/-! ### Decisions -/

/-- Put a command into a slot. -/
def addSlot (x : Slot) (s : State) : State := onSlots (fun l => l ++ [x]) s

/-- Whether a command's completion carries its declared wait: one of R89, once admission has computed it. -/
def hasWait (x : Slot) (st w : Nat) : Bool :=
  (opInfo x.op).any (fun i => i.wait) && (st == 0x18 || (st == 0x10 && (w == 1 || w == 4 || w == 5)))

/-- The result words of a refusal: the reason, and in word 11 the declared wait in ms (R89, R93). -/
def refusalWords (x : Slot) (st w : Nat) (s : State) : List W :=
  if hasWait x st w then padTo 11 0 [w32 w] ++ [w32 (ticksMs (declaredWait x s))] else [w32 w]

/-- Decide a command that acceptance has just taken a credit for (R86, R92). -/
def decideNew (x : Slot) (s : State) : State :=
  match verdict x s with
  | .refuse st w => finish x st (refusalWords x st w s) s
  | .defer => addSlot { x with status := .deferred, deferred := true } s
  | .toSlot r wait nvm fast => noteAdmitted r nvm fast (addSlot { x with status := .admitted, waitTicks := wait } s)

/-- Decide a deferred command again when NORMAL is reached (R90). -/
def decideAgain (x : Slot) (s : State) : State :=
  match admitVerdict false ((opInfo x.op).any (fun i => i.wait)) x s with
  | .refuse st w => complete x.port x.tag st (refusalWords x st w s) s
  | .defer => s
  | .toSlot r wait nvm fast =>
    noteAdmitted r nvm fast (modSlot x.port x.tag (fun y => { y with status := .admitted, waitTicks := wait }) s)

/-- The deferred commands, in acceptance order. -/
def deferredSlots (s : State) : List Slot := s.hif.slots.filter (fun x => decide (x.status = .deferred))

/-- Every deferred command is decided again (R90). -/
def decideDeferred (s : State) : State := foldS decideAgain (deferredSlots s) s

/-- A deferred command is decided by the boot error's service when that serves it (R429). -/
def serveAgain (x : Slot) (s : State) : State :=
  if (opInfo x.op).any (fun i => opServed i s) then
    match serveVerdict x s with
    | .refuse st w => complete x.port x.tag st [w32 w] s
    | .defer => s
    | .toSlot r wait nvm fast =>
      noteAdmitted r nvm fast (modSlot x.port x.tag (fun y => { y with status := .admitted, waitTicks := wait }) s)
  else s

/-- Deferred commands that a boot error's service serves are decided (R429). -/
def admitServed (s : State) : State := foldS serveAgain (deferredSlots s) s

end Sys2Proof.Machine
end

