-- ==== Sys2Proof/Machine/Calendar.lean ====
section
/-! DEFINITION. The calendar, its alarms and its lock-out: rows RTC_SUBSEC_READ to RTC_ALARM_WRITE, RTC_SECOND,
RC_CORRECTION, RTC_LOCKOUT_START, RTC_LOCKOUT_END, BKUP_LOW and AON_SUPPLY_LOSS (R434 to R439). -/

namespace Sys2Proof.Machine

/-- What a host port has of the RTC. -/
def Rtc.port (r : Rtc) : HPort → RtcPort
  | .spia => r.spia
  | .spib => r.spib
  | .i2c => r.i2c

/-- Change what a host port has of the RTC. -/
def Rtc.onPort (p : HPort) (f : RtcPort → RtcPort) (r : Rtc) : Rtc :=
  match p with
  | .spia => { r with spia := f r.spia }
  | .spib => { r with spib := f r.spib }
  | .i2c => { r with i2c := f r.i2c }

/-- RTC_STATUS.LOCKED (R439). -/
def Rtc.locked (r : Rtc) : Bool := r.lockVcc5 || r.lockVddio

/-- A read of RTC_SUBSEC takes new shadows for the port (R435). -/
def execRtcSubsecRead (p : HPort) (s : State) : Out :=
  .next (hifDo (fun s => readPast p 0x0104 (s.onRtc (fun r => r.onPort p (fun _ => { shadow := some r.cal })))) s)

/-- A read of RTC_YEAR ends the port's freeze (R435). -/
def execRtcYearRead (p : HPort) (s : State) : Out :=
  .next (hifDo (fun s => readPast p 0x0120 (s.onRtc (fun r => r.onPort p (fun _ => { shadow := none })))) s)

/-- The freeze of a port ends 1 s after it began (R435). -/
def execRtcFreezeTimeout (p : HPort) (s : State) : Out :=
  .next (s.onRtc (fun r => r.onPort p (fun _ => { shadow := none })))

/-- Counting starts: a day beyond the month becomes its last day, with WR_ERR (R436). -/
def Rtc.startCounting (r : Rtc) : Rtc :=
  let d := monthDays r.cal.year r.cal.month
  if d < r.cal.day then { r with held := false, wrErr := true, cal := { r.cal with day := d } }
  else { r with held := false }

/-- Write one time field; a value outside its range is ignored with WR_ERR (R436). `k`: 0 SEC to 6 YEAR. -/
def Rtc.writeField (k : Nat) (v : W) (r : Rtc) : Rtc :=
  let bad := { r with wrErr := true }
  let c := r.cal
  if k = 0 then (let x := bitsOf v 0 6; if x ≤ 59 then { r with cal := { c with sec := x } } else bad)
  else if k = 1 then (let x := bitsOf v 0 6; if x ≤ 59 then { r with cal := { c with min := x } } else bad)
  else if k = 2 then (let x := bitsOf v 0 5; if x ≤ 23 then { r with cal := { c with hour := x } } else bad)
  else if k = 3 then (let x := bitsOf v 0 5; if 1 ≤ x then { r with cal := { c with day := x } } else bad)
  else if k = 4 then (let x := bitsOf v 0 3; if 1 ≤ x then { r with cal := { c with wday := x } } else bad)
  else if k = 5 then
    (let x := bitsOf v 0 4; if 1 ≤ x && x ≤ 12 then { r with cal := { c with month := x } } else bad)
  else (let x := bitsOf v 0 7; if x ≤ 99 then { r with cal := { c with year := x } } else bad)

/-- A field value is within its range. -/
def fieldOk (k : Nat) (v : W) : Bool :=
  let x := bitsOf v 0 (if k ≤ 1 then 6 else if k ≤ 3 then 5 else if k = 4 then 3 else if k = 5 then 4 else 7)
  if k ≤ 1 then x ≤ 59 else if k = 2 then x ≤ 23 else if k ≤ 4 then 1 ≤ x
  else if k = 5 then 1 ≤ x && x ≤ 12 else x ≤ 99

/-- The time fields a write of words from `addr` names: field number and word. -/
def timeFields (addr : Nat) (ws : List W) : List (Nat × W) :=
  ((List.range ws.length).map (fun i => (addr + 4 * i, ws.getD i 0))).filterMap
    (fun x => if 0x104 ≤ x.1 && x.1 ≤ 0x11C && x.1 % 4 = 0 then some ((x.1 - 0x104) / 4, x.2) else none)

/-- A committed write of time fields, applied together (R436). -/
def Rtc.writeTime (fs : List (Nat × W)) (r : Rtc) : Rtc :=
  let r1 := fs.foldl (fun q f => q.writeField f.1 f.2) r
  if fs.any (fun f => f.1 = 0 && fieldOk 0 f.2) then
    { r1.startCounting with subsec := 0, valid := true }
  else if fs.any (fun f => fieldOk f.1 f.2) then { r1 with held := true }
  else r1

/-- A write that arrives during lock-out is ignored with LOCKOUT_WR and its pick (R439). -/
def rtcLockedWrite (s : State) : State :=
  raisePick 0x218 0x30 0 (s.onRtc (fun r => { r with lockoutWr := true }))

/-- RTC_TIME_WRITE (R436). -/
def execRtcTimeWrite (_p : HPort) (addr : BitVec 16) (ws : List W) (s : State) : Out :=
  let fs := timeFields addr.toNat ws
  .next (hifDo (fun s =>
    if fs.isEmpty then s
    else if s.store.rtc.locked then rtcLockedWrite s
    else s.onRtc (Rtc.writeTime fs)) s)

/-- RTC_HOLD_TIMEOUT (R436): counting resumes with the written fields and SET_TIMEOUT. -/
def execRtcHoldTimeout (s : State) : Out :=
  .next (if s.store.rtc.held then s.onRtc (fun r => { r.startCounting with setTimeout := true }) else s)

/-- The alarm registers. -/
def Rtc.alm (r : Rtc) (n : Fin 2) : BitVec 31 := if n = 0 then r.alm0 else r.alm1
/-- OWNER of an alarm. -/
def Rtc.own (r : Rtc) (n : Fin 2) : Bool := if n = 0 then r.own0 else r.own1
/-- Set an alarm register. -/
def Rtc.setAlm (n : Fin 2) (v : BitVec 31) (r : Rtc) : Rtc := if n = 0 then { r with alm0 := v } else { r with alm1 := v }

/-- RTC_ALARM_WRITE (R438, R439): ignored in lock-out, and ignored with WR_ERR when Horto owns the alarm. -/
def execRtcAlarmWrite (_p : HPort) (n : Fin 2) (v : W) (s : State) : Out :=
  .next (hifDo (fun s =>
    if s.store.rtc.locked then rtcLockedWrite s
    else if s.store.rtc.own n then s.onRtc (fun r => { r with wrErr := true })
    else s.onRtc (Rtc.setAlm n (v.setWidth 31))) s)

/-- One second later (R434). -/
def Calendar.tick (c : Calendar) : Calendar :=
  if c.sec < 59 then { c with sec := c.sec + 1 }
  else if c.min < 59 then { c with sec := 0, min := c.min + 1 }
  else if c.hour < 23 then { c with sec := 0, min := 0, hour := c.hour + 1 }
  else
    let w := if c.wday < 7 then c.wday + 1 else 1
    if c.day < monthDays c.year c.month then { c with sec := 0, min := 0, hour := 0, wday := w, day := c.day + 1 }
    else if c.month < 12 then { c with sec := 0, min := 0, hour := 0, wday := w, day := 1, month := c.month + 1 }
    else { sec := 0, min := 0, hour := 0, wday := w, day := 1, month := 1, year := if c.year < 99 then c.year + 1 else 0 }

/-- Every field named in MASK equals the calendar; MASK 0 turns the alarm off (R434, R438). -/
def almMatch (a : BitVec 31) (c : Calendar) : Bool :=
  let n := a.toNat
  let m := n / 67108864
  m ≠ 0 &&
  (!m.testBit 0 || n % 64 == c.sec) &&
  (!m.testBit 1 || (n / 64) % 64 == c.min) &&
  (!m.testBit 2 || (n / 4096) % 32 == c.hour) &&
  (!m.testBit 3 || (n / 131072) % 32 == c.day) &&
  (!m.testBit 4 || (n / 4194304) % 16 == c.month)

/-- An alarm register value: MASK, MONTH, DAY, HOUR, MIN, SEC. -/
def almWord (mask month day hour min sec : Nat) : BitVec 31 :=
  BitVec.ofNat 31 (mask * 67108864 + month * 4194304 + day * 131072 + hour * 4096 + min * 64 + sec)

/-- The calendar day after `c`. -/
def Calendar.nextDay (c : Calendar) : Calendar :=
  if c.day < monthDays c.year c.month then { c with day := c.day + 1 }
  else if c.month < 12 then { c with day := 1, month := c.month + 1 }
  else { c with day := 1, month := 1, year := if c.year < 99 then c.year + 1 else 0 }

/-- Horto programs the alarms of the scheduled tests it owns, but for a lock-out, in which its write is ignored (R439): the due day, or the next day after a postponement, to
the second (R263, R264, R438). -/
def programAlarms (s : State) : State :=
  let nd := s.store.rtc.cal.nextDay
  let ft := pn Pid.EST_FT_TIME s
  let dt := pn Pid.EST_DT_TIME s
  let a0 := if s.est.postFt = 0 then almWord 0x0F 0 (pn Pid.EST_FT_DAY s) (ft / 60) (ft % 60) 0
    else almWord 0x1F nd.month nd.day (ft / 60) (ft % 60) 0
  let a1 := if s.est.postDt = 0 then almWord 0x1F (pn Pid.EST_DT_MONTH s) (pn Pid.EST_DT_DAY s) (dt / 60) (dt % 60) 0
    else almWord 0x1F nd.month nd.day (dt / 60) (dt % 60) 0
  let o0 := pb Pid.EST_FT_EN s
  let o1 := pb Pid.EST_DT_EN s
  if s.store.rtc.locked then rtcLockedWrite s
  else s.onRtc (fun r => { r with own0 := o0, own1 := o1, alm0 := if o0 then a0 else r.alm0, alm1 := if o1 then a1 else r.alm1 })

/-- A matching alarm: its flag, its EIC source and RTC_ALARM (R438). -/
def rtcAlarm (n : Fin 2) (s : State) : State :=
  raiseEvent 0xC001 (w32 n.val) (latchEic (212 + n.val)
    (s.onRtc (fun r => if n = 0 then { r with alm0F := true } else { r with alm1F := true })))

/-- RTC_SECOND (R434, R438): the seconds increment and both alarms are compared; a held calendar does not count. -/
def execRtcSecond (s : State) : Out :=
  .next (if s.store.rtc.held then s
    else
      let s1 := s.onRtc (fun r => { r with cal := r.cal.tick, subsec := 0 })
      let c := s1.store.rtc.cal
      when_ (almMatch s1.store.rtc.alm1 c) (rtcAlarm 1) (when_ (almMatch s1.store.rtc.alm0 c) (rtcAlarm 0) s1))

/-- RC_CORRECTION (R437): while the AON clock runs on its RC and RTC.RC_TRIM_EN is 1, the calendar's rate is corrected by
the cycles the RC gained over 10 s of the crystal. -/
def execRcCorrection (deltaCycles : Int) (s : State) : Out :=
  .next (if s.store.rtc.rc && pb Pid.RTC_RC_TRIM_EN s && !s.sys.inReset && s.sys.power = .run then
      if s.store.rtc.locked then rtcLockedWrite s
      else s.onRtc (fun r => { r with rcPpm := rdiv (-(deltaCycles * 1000000)) 327680 })
    else s)

/-- RTC_LOCKOUT is posted and its EIC source latched (R439). -/
def lockoutEdge (start : Bool) (s : State) : State :=
  raiseEvent 0xC002 (if start then 0x80000000 else 0) (latchEic 219 s)

/-- RTC_LOCKOUT_START (R439). -/
def execRtcLockoutStart (why : LockoutSupply) (s : State) : Out :=
  let was := s.store.rtc.locked
  let s1 := s.onRtc (fun r => match why with
    | .vcc5 => { r with lockVcc5 := true }
    | .vddio => { r with lockVddio := true })
  .next (when_ (!was) (lockoutEdge true) s1)

/-- RTC_LOCKOUT_END (R439): the lock-out ends when no supply holds it. -/
def execRtcLockoutEnd (why : LockoutSupply) (s : State) : Out :=
  let was := s.store.rtc.locked
  let s1 := s.onRtc (fun r => match why with
    | .vcc5 => { r with lockVcc5 := false }
    | .vddio => { r with lockVddio := false })
  .next (when_ (was && !s1.store.rtc.locked) (lockoutEdge false) s1)

/-- BKUP_LOW (R434): VBKUP crosses 1.70 V. -/
def execBkupLow (low : Bool) (s : State) : Out := .next (s.onRtc (fun r => { r with bkupLow := low }))

/-- AON_SUPPLY_LOSS (R44, R434): the RTC, its calibration and its alarms take their reset values and VALID clears. -/
def execAonSupplyLoss (s : State) : Out := .next (s.onRtc (fun _ => {}))

/-- XTAL32_CONFIRM (R45): AON leaves its RC fallback. -/
def execXtal32Confirm (s : State) : Out := .next (s.onRtc (fun r => { r with rc := false, rcPpm := 0 }))

/-- XTAL32_FAIL (R59): AON stays on the RC fallback and XTAL32_FAIL is raised. -/
def execXtal32Fail (s : State) : Out :=
  .next (latchEic 222 (raisePick 0x040 0x14 0 (s.onRtc (fun r => { r with rc := true }))))

end Sys2Proof.Machine
end

