-- ==== Sys2Proof/Machine/Operands.lean ====
section
/-! DEFINITION. Operand forms that several families share: temperature readings chosen by a parameter, the chemistry
thresholds of the charger, battery units and source limits. -/

namespace Sys2Proof.Machine

/-! ### Temperatures (R303, R305) -/

/-- The reading of sensor `i`, 0.1 degC; `none`: no valid reading (R305). -/
def sensorTemp (i : Nat) (s : State) : Option Int :=
  let x := vgetD {} s.therm.sens i
  if x.broken then none else x.c10

/-- The hottest valid die sensor. -/
def hottestDie (s : State) : Option Int :=
  [0, 1, 2, 3].foldl (fun a i =>
    match a, sensorTemp i s with
    | none, b => b
    | some x, none => some x
    | some x, some y => some (max x y)) none

/-- The temperature that a TSNS choice names: 0 to 7 for TSNS0 to TSNS7, 0xFF the hottest die sensor (R112, R142). -/
def tempOf (choice : Nat) (s : State) : Option Int :=
  if choice = 0xFF then hottestDie s else sensorTemp (4 + choice) s

/-- The battery temperature: CHG.TSNS (R142, R237). -/
def batTemp (s : State) : Option Int := tempOf (pn Pid.CHG_TSNS s) s

/-! ### Battery thresholds (R134, R157, R271) -/

/-- CHG.CHEM is VRLA. -/
def vrla (s : State) : Bool := pn Pid.CHG_CHEM s == 1
/-- CHG.CELLS. -/
def cells (s : State) : Nat := pn Pid.CHG_CELLS s

/-- A per-cell threshold: the parameter, or the chemistry default when it is 0 (R134). -/
def perCell (id lfp vr : Nat) (s : State) : Nat :=
  let v := pn id s
  if v ≠ 0 then v else if vrla s then vr else lfp

/-- V_TRK per cell, mV. -/
def vTrk (s : State) : Nat := perCell Pid.CHG_V_TRK 2000 1750 s
/-- V_PRE per cell, mV. -/
def vPre (s : State) : Nat := perCell Pid.CHG_V_PRE 2800 2000 s
/-- V_RECHG per cell, mV: LFP only. -/
def vRechg (s : State) : Nat := perCell Pid.CHG_V_RECHG 3350 0 s
/-- V_CV per cell, mV. -/
def vCv (s : State) : Nat := perCell Pid.CHG_V_CV 3550 2400 s
/-- V_FLOAT per cell at 25 degC, mV: VRLA only. -/
def vFloat (s : State) : Nat := perCell Pid.CHG_V_FLOAT 0 2270 s
/-- V_OV per cell, mV. -/
def vOv (s : State) : Nat := perCell Pid.CHG_V_OV 3750 2500 s
/-- V_PRESENT per cell, mV. -/
def vPresent (s : State) : Nat := perCell Pid.CHG_V_PRESENT 1000 1000 s
/-- V_HYST per cell, mV. -/
def vHyst (s : State) : Nat := perCell Pid.CHG_V_HYST 50 30 s
/-- EST.V_CUT per cell, mV (R271). -/
def vCut (s : State) : Nat := perCell Pid.EST_V_CUT 2500 1750 s

/-- The charge temperature limits (R143). -/
def chgTemps (s : State) : Int × Int := (pv Pid.CHG_T_CHG_MIN s, pv Pid.CHG_T_CHG_MAX s)

/-- The compensated float level of the pack at a temperature, mV (R142). -/
def floatLevel (t : Option Int) (s : State) : Nat :=
  let hi := pv Pid.CHG_TCOMP_TMAX s
  let tc := match t with
    | none => hi
    | some x => clampI (pv Pid.CHG_TCOMP_TMIN s) hi x
  let uv := (vFloat s : Int) * 1000 + tquot (pv Pid.CHG_TCOMP_UV_C s * (tc - 250)) 10
  (tquot (uv * cells s) 1000).toNat

/-! ### Battery charge -/

/-- EST.QFULL_MAH (R260, R271). -/
def qFullMah (s : State) : Nat := s.est.qFull.getD (pn Pid.CHG_CAP_MAH s)
/-- Q_FULL in mC (R234). -/
def qFullMc (s : State) : Nat := qFullMah s * 3600

/-! ### Sources (R109, R111, R123) -/

/-- The four sources by the codes of R113. -/
def srcAt (i : Fin 4) (s : State) : Source :=
  match i with
  | 0 => s.path.dca
  | 1 => s.path.dcb
  | 2 => s.path.usba
  | 3 => s.path.usbb

/-- Change a source. -/
def onSrc (i : Fin 4) (f : Source → Source) (s : State) : State :=
  s.onPath (fun q =>
    match i with
    | 0 => { q with dca := f q.dca }
    | 1 => { q with dcb := f q.dcb }
    | 2 => { q with usba := f q.usba }
    | 3 => { q with usbb := f q.usbb })

/-- A DC input as a source. -/
def dcSrc (d : Fin 2) : Fin 4 := ⟨d.val, by omega⟩
/-- The sink path of a USB port as a source. -/
def usbSrc (u : Fin 2) : Fin 4 := ⟨2 + u.val, by omega⟩
/-- A source is a DC input. -/
def isDc (i : Fin 4) : Bool := i.val < 2

/-- A port. -/
def pdPort (u : Fin 2) (s : State) : PdPort := if u.val = 0 then s.pd.a else s.pd.b

/-- V of R337: the contract voltage, or 5000 mV. -/
def sinkV (i : Fin 4) (s : State) : Nat :=
  let x := if i.val = 2 then s.pd.a else s.pd.b
  if x.pos = 0 then 5000 else x.mv

/-- A voltage lies within the inner window: entry (R109, R337). Before the image is loaded a DC input uses the window of
R108. -/
def winEnters (i : Fin 4) (mv : Nat) (s : State) : Bool :=
  if isDc i then
    if s.path.porSet then decide (9000 ≤ mv ∧ mv ≤ 75000)
    else
      let h := pn (Pid.SRC_DC_HYST_MV i.val) s
      decide (pn (Pid.SRC_DC_VMIN_MV i.val) s + h ≤ mv ∧ mv + h ≤ pn (Pid.SRC_DC_VMAX_MV i.val) s)
  else
    let v := sinkV i s
    decide (92 * v ≤ 100 * mv ∧ 100 * mv ≤ 108 * v)

/-- A voltage lies outside the outer window: exit (R109, R337). -/
def winLeaves (i : Fin 4) (mv : Nat) (s : State) : Bool :=
  if isDc i then
    if s.path.porSet then decide (mv < 9000 ∨ 75000 < mv)
    else decide (mv < pn (Pid.SRC_DC_VMIN_MV i.val) s ∨ pn (Pid.SRC_DC_VMAX_MV i.val) s < mv)
  else
    let v := sinkV i s
    decide (100 * mv < 90 * v ∨ 110 * v < 100 * mv)

/-- The SRCID code of a converter code of 8.0 mV steps (R111). -/
def srcidCode (c : BitVec 8) : Nat :=
  let mv := c.toNat * 8
  if mv < 100 then 0 else if mv < 315 then 1 else if mv < 555 then 2 else if mv < 795 then 3
  else if mv < 1055 then 4 else if mv < 1350 then 5 else if mv < 1750 then 6 else 7

/-- The limit of a class, mA (R111). -/
def classMa (c : Nat) : Nat := [2000, 5000, 10000, 15000, 20000, 30000, 40000, 2000].getD c 0

/-- The input limit of a DC input by R123. -/
def dcLimit (i : Fin 4) (s : State) : Nat :=
  let set := pn (Pid.SRC_DC_ILIM_MA i.val) s
  let c := (srcAt i s).cls
  if set ≠ 0 then set else if c = 0xFF then pn Pid.SRC_ILIM_UNKNOWN_MA s else classMa c

/-- The current of a DC input from the forward drop across its pair, uV: R112 over the declared path resistance at its temperature, mA;
`none` without a valid reading of that temperature. -/
def dropMa (i : Fin 4) (uv : Nat) (s : State) : Option Nat :=
  (tempOf (pn (Pid.SRC_DC_TSNS i.val) s) s).map (fun t =>
    rdivN (uv * 1000 * 10000000) (pn (Pid.SRC_DC_RPATH_UOHM i.val) s *
      (10000000 + (pn (Pid.SRC_DC_RPATH_TC i.val) s : Int) * (t - 250)).toNat))

/-- A path in forward regulation holds a drop of +15 mV (R107): its current is a lower bound (R112). -/
def regulating (uv : Nat) : Bool := uv ≤ 15000

/-- Note the current of a source path (R112): of a DC input from its drop, a free value where its temperature has no valid reading; of a
USB sink path from the port's sense. -/
def noteCurrent (i : Fin 4) (x : Sys2Proof.InputCurrent) (s : State) : State :=
  match x with
  | .sense ma => onSrc i (fun q => { q with iMa := ma, iLow := false }) s
  | .drop uv =>
    match dropMa i uv s with
    | some ma => onSrc i (fun q => { q with iMa := ma, iLow := regulating uv }) s
    | none => onSrc i (fun q => { q with iMa := (freeW s).toNat, iLow := regulating uv }) (takeFree s)

/-- The input limit in force: ramped (R121). -/
def limNow (i : Fin 4) (s : State) : Nat :=
  let x := srcAt i s
  rdivN (x.limMa * x.limitPct) 100

end Sys2Proof.Machine
end

