-- ==== Sys2Proof/Machine/EstOps.lean ====
section
/-! DEFINITION. The estimator's shared operations: SoC_int and sigma_S, EST.FLAGS and the battery levels, caddy entries and
rebases, FULL (R234 to R237, R252, R253, R258). -/

namespace Sys2Proof.Machine

/-! ### SoC and uncertainty in 0.01 % (R252) -/

/-- SoC_int, 0.01 %. -/
def socInt (s : State) : Nat := (clampI 0 10000 (rdiv (s.est.socQ * 10000) (qFullMc s))).toNat

/-- sigma_S, 0.01 %, never below 0.20 %. -/
def sigS (s : State) : Nat := max 20 (rdivN (s.est.sigQ * 10) (qFullMc s))

/-- sigma_S of `x` (0.01 %) in charge terms, uC. -/
def sigCharge (x : Nat) (s : State) : Nat := rdivN (x * qFullMc s) 10

/-- SoC_L, 0.01 %, clamped for use (R234). -/
def socL (s : State) : Nat := (clampI 0 10000 (rdiv (s.est.caddy.b * 10000) (qFullMc s))).toNat

/-- Set SoC_int to `x` (0.01 %). -/
def setSoc (x : Nat) (s : State) : State := s.onEst (fun e => { e with socQ := rdiv (x * qFullMc s : Nat) 10000 })

/-- Set sigma_S to `x` (0.01 %). -/
def setSig (x : Nat) (s : State) : State := s.onEst (fun e => { e with sigQ := sigCharge x s })

/-! ### EST.FLAGS (R258) -/

/-- A bit of EST.FLAGS. -/
def estFlag (k : Nat) (s : State) : Bool := s.est.flags.getLsbD k

/-- Write a bit of EST.FLAGS. -/
def setFlag (k : Nat) (b : Bool) (s : State) : State :=
  s.onEst (fun e => { e with flags := if b then e.flags ||| (1#32 <<< k) else e.flags &&& ~~~(1#32 <<< k) })

/-- Set or clear a battery level: 6 EARLY, 7 LOW, 8 CRITICAL, 9 CUTOFF, 10 NEAR_FULL, 11 FULL. A change posts its host event
and fires its EIC source (R258, R471). -/
def setLevel (k : Nat) (b : Bool) (s : State) : State :=
  if estFlag k s == b then s
  else latchEic (154 + k) (raiseEvent (0x5001 + (k - 6)) (w32 (b01 b * 2147483648)) (setFlag k b s))

/-! ### The caddy (R234 to R237) -/

/-- Write a caddy entry for the balance as it stands (R235, R236). -/
def caddyEntry (type detail : Nat) (amount : Int) (s : State) : State :=
  let b := s.est.caddy.b
  let ws := [wLo amount, wHi amount, wLo b, wHi b, w32 (timestamp s), w32 (sigS s * 65536 + socInt s)]
  s.onNvm (fun n => { n with caddy := n.caddy.appendChained (caddyCap s) (detail * 256 + type) (uidLo s) ws })

/-- Move B by a self-discharge of `q` mC (R234, R237, R238): SoC_int follows and sigma_S grows by half of it (R252). -/
def takeSelf (q : Nat) (s : State) : State :=
  s.onEst (fun e =>
    { e with caddy := { e.caddy with qSelf := e.caddy.qSelf + q, b := e.caddy.b - q },
             socQ := max 0 (e.socQ - q), sigQ := e.sigQ + q * 500 })

/-- Post the pending self-discharge as one SELF entry; the fraction of a mC stays pending (R237). -/
def postSelf (s : State) : State :=
  let q := s.est.pendSelf / 1000
  let s1 := s.onEst (fun e => { e with pendSelf := e.pendSelf % 1000 })
  if q = 0 then s1 else caddyEntry 0x01 0 (-(q : Int)) (takeSelf q s1)

/-- A rebase entry that sets B to `target` mC (R235), from a posted balance (R237). It ends a discharge being learned from
(R260). -/
def rebase (type detail : Nat) (target : Int) (s : State) : State :=
  let s1 := postSelf s
  let amount := target - s1.est.caddy.b
  caddyEntry type detail amount (s1.onEst (fun e =>
    { e with caddy := { e.caddy with qRebase := e.caddy.qRebase + amount, b := target, valid := true },
             rebaseAt := s.sys.devTime, learn := none }))

/-- Set B to SoC_int x Q_FULL by a rebase, both as a posted balance leaves them. -/
def rebaseSoc (type detail : Nat) (s : State) : State :=
  let s1 := postSelf s
  rebase type detail s1.est.socQ s1

/-- R253 rule 3, at FULL: unless CUTOFF binds. -/
def estFull (s : State) : State :=
  if estFlag 9 s then s
  else
    let s1 := setSig 50 (setSoc 10000 (postSelf s))
    (rebase 0x11 0 (qFullMc s) s1).onEst (fun e => { e with disagreeGone := true })

/-- What the battery levels take from a change of charger state (R258); `byTerm`: a termination. -/
def estCharger (old new : ChgState) (byTerm : Bool) (s : State) : State :=
  let s1 := when_ (new == .cv) (setLevel 10 true) s
  let s2 := when_ (old == .cv && new != .cv && new != .done && new != .float) (setLevel 10 false) s1
  when_ (byTerm && (new == .done || new == .float)) (fun t => estFull (setLevel 11 true t)) s2

end Sys2Proof.Machine
end

