-- ==== Sys2Proof/Machine/Frac.lean ====
section
/-! DEFINITION. Exact fractions for the formulas of several divisions: rounded once, at the end, by `rdiv`, or truncated in pseudocode
(log entry 4); integer roots and powers of 2. -/

namespace Sys2Proof.Machine

/-- A fraction; a denominator of 0 stands for 1. -/
structure Frac where
  n : Int
  d : Nat
deriving DecidableEq, Repr

/-- A whole number. -/
def Frac.ofInt (n : Int) : Frac := ⟨n, 1⟩
/-- Sum. -/
def Frac.add (a b : Frac) : Frac := ⟨a.n * b.d + b.n * a.d, a.d * b.d⟩
/-- Difference. -/
def Frac.sub (a b : Frac) : Frac := ⟨a.n * b.d - b.n * a.d, a.d * b.d⟩
/-- Product. -/
def Frac.mul (a b : Frac) : Frac := ⟨a.n * b.n, a.d * b.d⟩
/-- Quotient by a positive number; 0 when the divisor is not positive. -/
def Frac.div (a b : Frac) : Frac := if b.n ≤ 0 then ⟨0, 1⟩ else ⟨a.n * b.d, a.d * b.n.toNat⟩
/-- Less than. -/
def Frac.lt (a b : Frac) : Bool := decide (a.n * b.d < b.n * a.d)
/-- The smaller. -/
def Frac.min (a b : Frac) : Frac := if a.lt b then a else b
/-- The larger. -/
def Frac.max (a b : Frac) : Frac := if a.lt b then b else a
/-- Not below 0. -/
def Frac.pos (a : Frac) : Frac := if a.n < 0 then ⟨0, 1⟩ else a
/-- Rounded as the manual leaves open. -/
def Frac.round (a : Frac) : Int := rdiv a.n a.d

/-- Truncated, for a formula of the manual's pseudocode (chapter 00). -/
def Frac.trunc (a : Frac) : Int := tquot a.n a.d

/-- The square root of n / d, rounded as the manual leaves open. -/
def rsqrt (n d : Nat) : Nat :=
  if d = 0 then 0
  else
    let r := Nat.sqrt (n / d)
    if r * r * d = n then r else if Config.roundUp n d then r + 1 else r

/-- The largest `a` below `hi` + 2^k with `ok a`, from `hi`, for a condition that holds downward. -/
def bisect (ok : Nat → Bool) : Nat → Nat → Nat
  | 0, hi => if ok (hi + 1) then hi + 1 else hi
  | k + 1, hi => bisect ok k (if ok (hi + 2 ^ (k + 1)) then hi + 2 ^ (k + 1) else hi)

/-- 2^96 x the series of e^(-n / d) to `k` terms from its term `j` on, for n below d. -/
def expSeries (n d : Nat) : Nat → Nat → Nat
  | 0, _ => 2 ^ 96
  | k + 1, j => 2 ^ 96 - n * expSeries n d k (j + 1) / (d * j)

/-- 2^96 x e^(-n / d): the series at a 64th of the argument, squared six times; 0 from 64 on. -/
def expNeg (n d : Nat) : Nat :=
  if d = 0 || 64 * d ≤ n then 0
  else (List.range 6).foldl (fun a _ => a * a / 2 ^ 96) (expSeries n (64 * d) 24 1)

/-- 2^64 x the natural logarithm of n / d, for n and d above 0: the binary exponent, and the series of ln m = 2 artanh((m - 1) / (m + 1))
for the rest, m within 1/2 to 2. -/
def lnFix (n d : Nat) : Int :=
  let k : Int := (Nat.log2 n : Int) - Nat.log2 d
  let a : Int := n * 2 ^ (-k).toNat
  let b : Int := d * 2 ^ k.toNat
  let y := (a - b) * 2 ^ 96 / (a + b)
  let y2 := y * y / 2 ^ 96
  let r := (List.range 32).foldl (fun (e : Int × Int) (j : Nat) => (e.1 + e.2 / (2 * j + 1 : Nat), e.2 * y2 / 2 ^ 96)) (0, y)
  -- ln 2 to 96 places: 54916777467707473351141471128
  (2 * r.1 + k * 54916777467707473351141471128) / 2 ^ 32

/-- (n / d) x 2^(x / 100), rounded as the manual leaves open (R237). -/
def mulPow2 (n d : Nat) (x : Int) : Nat :=
  if d = 0 then 0
  else
    let up := x.toNat
    let dn := (-x).toNat
    let ok := fun (a : Nat) => decide ((a * d) ^ 100 * 2 ^ dn ≤ n ^ 100 * 2 ^ up)
    let a := bisect ok 80 0
    if (a * d) ^ 100 * 2 ^ dn = n ^ 100 * 2 ^ up then a else if Config.roundUp n d then a + 1 else a

end Sys2Proof.Machine
end

