-- ==== Sys2Proof/Machine/EstTables.lean ====
section
/-! DEFINITION. The estimator's tables: format, reading by interpolation, consistency check, learning and pours
(R247 to R251), and the runtime floor computed from them (R256). -/

namespace Sys2Proof.Machine

/-! ### Format (R247) -/

/-- Entries of a table. -/
def tableLen : TableKind → Nat
  | .ocv => 168
  | .cap => 48
  | .rs => 88

/-- Table kind in the header word. -/
def tableCode : TableKind → Nat
  | .ocv => 1
  | .cap => 2
  | .rs => 3

/-- The set of a table. -/
def tableSet (k : TableKind) (s : State) : TableSet :=
  match k with
  | .ocv => s.est.ocv
  | .cap => s.est.cap
  | .rs => s.est.rs

/-- Change the set of a table. -/
def onTable (k : TableKind) (f : TableSet → TableSet) (s : State) : State :=
  s.onEst (fun e =>
    match k with
    | .ocv => { e with ocv := f e.ocv }
    | .cap => { e with cap := f e.cap }
    | .rs => { e with rs := f e.rs })

/-- Parameter of a factory copy. -/
def factPid : TableKind → Nat
  | .ocv => Pid.EST_OCV_FACT
  | .cap => Pid.EST_CAP_FACT
  | .rs => Pid.EST_RS_FACT

/-- Two U16 entries per word, the even index low. -/
def unpackEntries (ws : List Nat) : List Nat := ws.flatMap (fun w => [w % 65536, (w / 65536) % 65536])

/-- Pack entries into words. -/
def packEntries : List Nat → List W
  | a :: b :: l => w32 (a + 65536 * b) :: packEntries l
  | [a] => [w32 a]
  | [] => []

/-- Header word. -/
def tableHeader (k : TableKind) (ver : Nat) : W := w32 ((ver % 65536) * 65536 + tableCode k * 256 + 1)

/-- The words of a copy: header, entries, trailer with its CRC and the factory copy's CRC. -/
def tableWords (k : TableKind) (t : EstTable) : List W :=
  let body := tableHeader k t.ver :: packEntries t.entries
  body ++ [w32 ((crcWords body).toNat + 65536 * t.factCrc)]

/-- The words of the factory copy in the image. -/
def factWords (k : TableKind) (s : State) : List W :=
  (List.range (tableLen k / 2 + 2)).map (fun i => wInt (pvw (factPid k) i s))

/-- The CRC in the trailer of the factory copy. -/
def factCrc (k : TableKind) (s : State) : Nat := ((factWords k s).getD (tableLen k / 2 + 1) 0).toNat % 65536

/-- The entries of the factory copy. -/
def factEntries (k : TableKind) (s : State) : List Nat :=
  unpackEntries (((factWords k s).drop 1).take (tableLen k / 2) |>.map (·.toNat))

/-- The factory copy as a table. -/
def factTable (k : TableKind) (s : State) : EstTable :=
  { ver := ((factWords k s).getD 0 0).toNat / 65536, factCrc := 0, entries := factEntries k s }

/-- The served entries: the factory copy until the image and the NVM have been read. -/
def servedEntries (k : TableKind) (s : State) : List Nat :=
  match (tableSet k s).served with
  | some t => t.entries
  | none => factEntries k s

/-! ### Consistency (R250) -/

/-- Entries rise by at least `d` along each row of `n`. -/
def rowsRise (d n : Nat) (l : List Nat) : Bool :=
  (List.range l.length).all (fun i => (i + 1) % n == 0 || l.length ≤ i + 1 || decide (l.getD i 0 + d ≤ l.getD (i + 1) 0))

/-- Entries do not rise along each row of `n`. -/
def rowsFall (n : Nat) (l : List Nat) : Bool :=
  (List.range l.length).all (fun i => (i + 1) % n == 0 || l.length ≤ i + 1 || decide (l.getD (i + 1) 0 ≤ l.getD i 0))

/-- The consistency check of entries against the factory entries. -/
def tableConsistent (k : TableKind) (l fact : List Nat) : Bool :=
  l.length == tableLen k &&
  (match k with
  | .ocv => rowsRise 1 21 l && (List.range 168).all (fun i =>
      let a := l.getD i 0
      let b := fact.getD i 0
      decide (a ≤ b + 150 ∧ b ≤ a + 150))
  | .cap => l.all (fun a => decide (300 ≤ a ∧ a ≤ 1100)) && rowsFall 6 l
  | .rs => (List.range 88).all (fun i =>
      let a := l.getD i 0
      let b := fact.getD i 0
      decide (b ≤ 4 * a ∧ a ≤ 8 * b)))

/-- A factory copy passes: CRC, header and consistency with itself (R249). -/
def factValid (k : TableKind) (s : State) : Bool :=
  let ws := factWords k s
  let n := tableLen k / 2
  let hd := ws.getD 0 0
  decide (hd.toNat % 65536 = tableCode k * 256 + 1) && decide ((crcWords (ws.take (n + 1))).toNat = factCrc k s) &&
    decide ((ws.getD (n + 1) 0).toNat / 65536 = 0) && tableConsistent k (factEntries k s) (factEntries k s)

/-! ### Reading (R248) -/

/-- Position on an axis of `n` points from `o` in steps of `st`: index of the lower point and the distance above it; held at
the ends. -/
def axisPos (o st : Int) (n : Nat) (x : Int) : Nat × Int :=
  let t := x - o
  if t ≤ 0 then (0, 0)
  else if st * (n - 1 : Nat) ≤ t then (n - 2, st)
  else ((t / st).toNat, t % st)

/-- Interpolate between two fractions at `r` of `st`. -/
def lerp (a b : Frac) (r st : Int) : Frac :=
  (a.mul ⟨st - r, st.toNat⟩).add (b.mul ⟨r, st.toNat⟩)

/-- An entry as a fraction. -/
def entry (l : List Nat) (i : Nat) : Frac := Frac.ofInt (l.getD i 0 : Nat)

/-- The column of a SoC table at temperature `t` (0.1 degC): its point `j` of `n`. -/
def columnAt (l : List Nat) (n : Nat) (t : Int) (j : Nat) : Frac :=
  let p := axisPos (-200) 100 8 t
  lerp (entry l (p.1 * n + j)) (entry l ((p.1 + 1) * n + j)) p.2 100

/-- Read a SoC table of `n` points at `soc` (0.01 %) and temperature `t`. -/
def readSoc (l : List Nat) (n : Nat) (soc : Int) (t : Int) : Frac :=
  let st : Int := 10000 / (n - 1 : Nat)
  let p := axisPos 0 st n soc
  lerp (columnAt l n t p.1) (columnAt l n t (p.1 + 1)) p.2 st

/-- The six rates of the U table in 0.01C. -/
def rates : List Nat := [5, 10, 20, 33, 50, 100]

/-- U at temperature index `ti` and the C-rate ma / mah. -/
def uRow (l : List Nat) (ti ma mah : Nat) : Frac :=
  let e := fun (k : Nat) => entry l (ti * 6 + k)
  if 100 * ma ≤ 5 * mah then e 0
  else if 100 * mah ≤ 100 * ma then e 5
  else
    let k := ((List.range 5).filter (fun k => decide (rates.getD k 0 * mah ≤ 100 * ma))).length - 1
    let a := rates.getD k 0
    let b := rates.getD (k + 1) 0
    lerp (e k) (e (k + 1)) (100 * ma - a * mah : Int) ((b - a) * mah : Nat)

/-- The fraction of smallest value among those of the eight temperature points. -/
def leastOf (f : Nat → Frac) : Frac := (List.range 8).foldl (fun a i => a.min (f i)) (f 0)

/-- The fraction of largest value among those of the eight temperature points. -/
def mostOf (f : Nat → Frac) : Frac := (List.range 8).foldl (fun a i => a.max (f i)) (f 0)

/-- U in per mille at a temperature and rate: extrapolated below -20 degC and floored at 0; the smallest without a
reading. -/
def readU (t : Option Int) (ma mah : Nat) (s : State) : Frac :=
  let l := servedEntries .cap s
  match t with
  | none => leastOf (fun ti => uRow l ti ma mah)
  | some t =>
    if t < -200 then
      let a := uRow l 0 ma mah
      let b := uRow l 1 ma mah
      ((a.sub ((b.sub a).mul ⟨-200 - t, 100⟩))).pos
    else
      let p := axisPos (-200) 100 8 t
      lerp (uRow l p.1 ma mah) (uRow l (p.1 + 1) ma mah) p.2 100

/-- RS of the pack in uOhm at a SoC and temperature; the largest without a reading. -/
def readRs (soc : Int) (t : Option Int) (s : State) : Frac :=
  let l := servedEntries .rs s
  let v := match t with
    | none => mostOf (fun ti => readSoc l 11 soc (-200 + 100 * (ti : Int)))
    | some t => readSoc l 11 soc t
  v.mul (Frac.ofInt (cells s))

/-- The temperature a read of the OCV table uses; without a reading that of the smallest U at 1C (R248, log entry 12). -/
def ocvTemp (t : Option Int) (s : State) : Int :=
  match t with
  | some t => t
  | none =>
    let l := servedEntries .cap s
    let best := (List.range 8).foldl (fun b i => if (uRow l i 1 1).lt (uRow l b 1 1) then i else b) 0
    (best : Int) * 100 - 200

/-- OCV per cell, mV. -/
def readOcv (soc : Int) (t : Option Int) (s : State) : Frac := readSoc (servedEntries .ocv s) 21 soc (ocvTemp t s)

/-- Invert the OCV table for a cell voltage: SoC (0.01 %, held to 0 to 100 %) and the rise of the segment over its 5 %. -/
def invertOcv (v : Frac) (t : Option Int) (s : State) : Frac × Frac :=
  let col := columnAt (servedEntries .ocv s) 21 (ocvTemp t s)
  let k := min 19 (((List.range 20).filter (fun j => !(v.lt (col j)))).length - 1)
  let a := col k
  let rise := (col (k + 1)).sub a
  let soc := (Frac.ofInt (500 * k)).add (((v.sub a).mul (Frac.ofInt 500)).div rise)
  ((soc.pos).min (Frac.ofInt 10000), rise)

/-- sigma_O = 3 mV per cell over the slope of the segment, 0.01 % (R252). -/
def sigO (rise : Frac) : Frac := (Frac.ofInt 1500).div rise

/-! ### Learning (R251) -/

/-- The steeping entries: a copy of the served ones until learning changes them. -/
def steepEntries (k : TableKind) (s : State) : List Nat := (tableSet k s).steep.getD (servedEntries k s)

/-- Move steeping entry `i` by 1/`q` of the difference toward `v`. -/
def learnEntry (k : TableKind) (i : Nat) (q : Nat) (v : Frac) (s : State) : State :=
  let l := steepEntries k s
  let a := entry l i
  let x := (a.add ((v.sub a).mul ⟨1, q⟩)).round.toNat
  onTable k (fun t => { t with steep := some (l.set i (min 65535 x)) }) s

/-- Write steeping entry `i`. -/
def setSteep (k : TableKind) (i v : Nat) (s : State) : State :=
  let l := steepEntries k s
  onTable k (fun t => { t with steep := some (l.set i v) }) s

/-- Nearest point of an axis. -/
def nearest (o st : Int) (n : Nat) (x : Int) : Nat :=
  let p := axisPos o st n x
  if st ≤ 2 * p.2 then p.1 + 1 else p.1

/-- Nearest temperature point. -/
def tempBin (t : Int) : Nat := nearest (-200) 100 8 t

/-- Nearest rate point of ma / mah. -/
def rateBin (ma mah : Nat) : Nat :=
  let dist := fun (k : Nat) => (100 * (ma : Int) - rates.getD k 0 * mah).natAbs
  (List.range 6).foldl (fun b k => if dist k < dist b then k else b) 0

/-! ### The runtime floor (R256) -/

/-- S_cut, 0.01 %: the SoC at which the sag at `ma` reaches EST.V_CUT; 0 when the 0 % point meets it. -/
def sCut (ma : Nat) (t : Option Int) (s : State) : Frac :=
  let r := s.est.fit.rs + s.est.fit.rct + s.est.fit.rdif
  let n := cells s
  -- cell voltage at which the pack reaches the cut-off: V_CUT + I x R / (10^6 x cells), mV
  let v := (Frac.ofInt (vCut s)).add ⟨(ma * r : Nat), 1000000 * n⟩
  if v.lt (readOcv 0 t s) then Frac.ofInt 0 else (invertOcv v t s).1

/-- The floor fraction at `ma`, 0.01 %. -/
def floorFrac (ma : Nat) (s : State) : Frac :=
  let t := batTemp s
  let one := Frac.ofInt 1
  let sLow := (⟨(1000 * socInt s : Nat) - (1645 * sigS s : Nat), 10000000⟩ : Frac)
  let cLow := (⟨10000000 - (1645 * s.est.sigC : Nat), 10000000⟩ : Frac)
  let u := (readU t ma (qFullMah s) s).mul ⟨1, 1000⟩
  let a := (sLow.sub (one.sub u)).pos
  let b := (sLow.sub ((sCut ma t s).mul ⟨1, 10000⟩)).pos
  (cLow.mul (a.min b)).mul (Frac.ofInt 10000)

end Sys2Proof.Machine
end

