-- ==== Sys2Proof/Machine/ChgOps.lean ====
section
/-! DEFINITION. The charger's shared operations: states, discharge demands, WAIT causes, start checks, absence and the
interruption of a charge cycle (R130, R136, R137, R143, R149 to R151, R154, R156). -/

namespace Sys2Proof.Machine

/-- CHG.STATE codes (chapter 05). -/
def ChgState.code : ChgState → Nat
  | .off => 0
  | .wait => 1
  | .trickle => 2
  | .precharge => 3
  | .cc => 4
  | .cv => 5
  | .done => 6
  | .float => 7
  | .suspended => 8
  | .batteryAbsent => 9
  | .discharge => 10

/-- States of a charge cycle. -/
def ChgState.inCycle : ChgState → Bool
  | .trickle => true
  | .precharge => true
  | .cc => true
  | .cv => true
  | _ => false

/-- States in which the converter charges. -/
def ChgState.charging (x : ChgState) : Bool := x.inCycle || x == .float

/-- States that a WAIT cause or a discharge demand does not replace (R143, R151). -/
def ChgState.held (x : ChgState) : Bool := x == .off || x == .suspended || x == .batteryAbsent

/-- SH0 and SH1 run the charger's loops (R125, R154). -/
def chgRuns (s : State) : Bool := shRuns 0 s && shRuns 1 s

/-- A discharge demand of R151 other than a probe: supplement mode or a return ramp. -/
def disDemand (s : State) : Bool := s.path.supplement || decide (0 < s.path.suppMa)

/-- The converter may discharge (R149, R151, R259). -/
def disAllowed (s : State) : Bool :=
  s.chg.st != .batteryAbsent && !s.chg.kill && !estFlag 9 s && chgRuns s && !s.sys.dieStopping && !s.sys.regStopped

/-- A probe step runs in the converter (R244, R245). -/
def probeRuns (s : State) : Bool := s.est.probe.any (fun p => !p.ended)

/-- Currents of TRICKLE, PRECHARGE and CC from the slewed set point, mA (R136, R158). -/
def phaseMa (st : ChgState) (s : State) : Nat :=
  let cc := s.chg.ccSet
  match st with
  | .trickle => rdivN (cc * pn Pid.CHG_TRK_PCT s) 100
  | .precharge => rdivN (cc * pn Pid.CHG_PRE_PCT s) 100
  | _ => s.chg.ccSet

/-- Bring the CHG_PWM outputs to what the state calls for: switching while charging, unless a start check idles the
converter, and while discharging on a demand or moving a probe's current; idle otherwise and on a kill (R130, R136, R149, R151). The
rest of R148 is counted afresh when a discharge in SUSPENDED ends. -/
def chgDrive (s : State) : State :=
  let run := !s.chg.kill && chgRuns s && !s.sys.dieStopping && !s.sys.regStopped
  let on := run && ((s.chg.st.charging && !s.chg.checkDue) || ((disDemand s || probeRuns s) && disAllowed s))
  s.onChg (fun c =>
    { c with pwm := on, chargeMa := if on && c.st.charging && !c.checkDue then c.chargeMa else 0,
             tmoAt := if c.st == .suspended && c.pwm && !on then s.sys.devTime else c.tmoAt })

/-- The converter's current on the battery side, positive into the battery, mA: charge, discharge on a demand, and a probe's step (R132,
R151, R244, R245). -/
def converterMa (s : State) : Int :=
  let base : Int := if disDemand s then -(s.path.suppMa : Int) else s.chg.chargeMa
  if !s.chg.pwm then 0
  else match s.est.probe with
    | none => base
    | some p =>
      if p.ended then base
      else match p.dir with
        | .chargeLess => base - p.ma
        | .chargeMore => base + p.ma
        | .discharge => base - p.ma
        | .dischargeLess => base + p.ma

/-- The running cycle is interrupted: the caddy's counts of this moment are marked once (R137). -/
def Chg.interrupt (k : Caddy) (c : Chg) : Chg :=
  if c.cycle.isSome && !c.cut then { c with qInMark := k.qIn, qOutMark := k.qOut, cut := true } else c

/-- Enter a charger state (R157: CHG_STATE event; R258: levels). A cycle that is left for WAIT, DISCHARGE or BATTERY_ABSENT
is marked as interrupted at this moment of the caddy (R137); OFF, DONE, FLOAT and SUSPENDED end it. -/
def chgSet (st : ChgState) (byTerm : Bool) (s : State) : State :=
  let old := s.chg.st
  if old = st then chgDrive s
  else
    let ends := st == .off || st == .done || st == .float || st == .suspended
    let s1 := (s.onChg (fun c => if st.inCycle then c else c.interrupt s.est.caddy)).onChg (fun c =>
      { c with st := st, floatMv := if st == .float then floatLevel (batTemp s) s else c.floatMv, upTicks := 0, downTicks := 0, fullTicks := 0, expiry := false,
               cycle := if st.inCycle then some st else if ends then none else c.cycle, cut := c.cut && !st.inCycle && !ends,
               tmoAt := if st == .suspended then s.sys.devTime else c.tmoAt })
    let s2 := chgDrive (s1.onChg (fun c => { c with chargeMa := if st.inCycle then phaseMa st s1 else 0 }))
    estCharger old st byTerm (raiseEvent 0x2001 (w32 (old.code * 16 + st.code)) s2)

/-- The temperature cause of R143, with its hysteresis inward. -/
def tempWait (was : Bool) (s : State) : Bool :=
  let l := chgTemps s
  match batTemp s with
  | none => true
  | some t => if was then decide (t < l.1 + 30 ∨ l.2 - 30 < t) else decide (t < l.1 ∨ l.2 < t)

/-- CHG.WAIT_CAUSE as the conditions of R143 stand; bit 2 is set and cleared by a restart. -/
def waitBits (s : State) : BitVec 4 :=
  let w := s.chg.waitCause
  let b0 := s.path.link != .source || s.path.supplement
  let b1 := tempWait (w.getLsbD 1) s
  let b3 := !pb Pid.CHG_AUTOSTART s && !s.chg.started
  BitVec.ofNat 4 (b01 b0 + 2 * b01 b1 + 4 * b01 (w.getLsbD 2) + 8 * b01 b3)

/-- Start check: the converter idles for it, and CHG.STATE keeps the old state until it ends (R136; DEDUCED, log entry 17). A cycle that
runs is interrupted by it, and what held continuously before it holds no longer (R137, R138). -/
def startCheck (s : State) : State :=
  chgDrive (s.onChg (fun c => { c.interrupt s.est.caddy with checkDue := true, upTicks := 0, downTicks := 0, fullTicks := 0 }))

/-- Judge the charger again after a change of the link, the temperature or a demand: DISCHARGE on a demand, WAIT while a
cause holds, a start check when WAIT or DISCHARGE ends (R136, R143, R151). -/
def chgEval (s : State) : State :=
  if !chgRuns s then s
  else if s.chg.st.held then chgDrive (s.onChg (fun c => { c with waitCause := 0 }))
  else
    let w := waitBits s
    let s1 := s.onChg (fun c => { c with waitCause := w })
    if disDemand s && disAllowed s then
      chgSet .discharge false (s1.onChg (fun c => { c with checkDue := false }))
    else if w ≠ 0 then chgSet .wait false (s1.onChg (fun c => { c with checkDue := false }))
    else if s.chg.st = .wait || s.chg.st = .discharge then startCheck s1
    else chgDrive s1

/-- Enter WAIT and judge its causes: from OFF, after a clear of SUSPENDED, after presence is confirmed (R136, R153). While a hardware stop
stands the battery is still absent (R149, log entry 17). -/
def chgWait (s : State) : State := if s.chg.kill then chgSet .batteryAbsent false s else chgEval (chgSet .wait false s)

/-- CHG_STOP, and CHG.EN written to 0 (R153): OFF until CHG_START. -/
def chgStop (s : State) : State :=
  chgSet .off false (s.onChg (fun c => { c with offFlag := true, checkDue := false, waitCause := 0 }))

/-- Enter BATTERY_ABSENT (R149, R150): an OV absence counts, and latches when CHG.ABS_RETRY_MAX of them fall within 600 s; `pick`: the
pick is still to be raised. -/
def enterAbsent (det : Nat) (pick : Bool) (s : State) : State :=
  let l := recentUs 600000000 s.sys.devTime s.chg.ovTimes ++ (if det = 2 then [s.sys.devTime] else [])
  let latch := det == 2 && decide (pn Pid.CHG_ABS_RETRY_MAX s ≤ l.length)
  when_ pick (raisePickEv 0x148 0x19 det (some (0x2003, 0)))
    (chgSet .batteryAbsent false
      ((s.onPath (fun q => { q with suppMa := 0 })).onChg (fun c =>
        { c with ovTimes := l, absLatch := c.absLatch || latch, absDet := 0, checkDue := false, waitCause := 0 })))

/-- An absent battery is detected (R149): detector 1 BATPRES, 2 over-voltage, 3 impedance; `kill`: a hardware stop. A
charger already in BATTERY_ABSENT detects nothing new. While SH0 or SH1 does not run, the stop acts, the Power Frame's comparator sets its
flag, and the charger enters the state at its restart. -/
def chgAbsent (det : Nat) (kill : Bool) (s : State) : State :=
  let s1 := s.onChg (fun c => { c with kill := c.kill || kill })
  if s.chg.st = .batteryAbsent then chgDrive s1
  else if !chgRuns s then
    chgDrive (when_ (det == 2) (raisePickEv 0x148 0x19 det (some (0x2003, 0)))
      (s1.onChg (fun c => { c with absDet := if c.absDet = 0 then det else c.absDet })))
  else enterAbsent det true s1

/-- After presence is confirmed: SUSPENDED while CHARGE_TIMEOUT is latched, OFF while the OFF flag holds, else WAIT and the
start check (R147, R150, R153). -/
def chgResume (s : State) : State :=
  if s.chg.tmoPhase ≠ 0 then chgSet .suspended false s
  else if s.chg.offFlag then chgSet .off false s
  else chgWait s

/-- A charge cycle begins: every timer at 0, counted (R137, R157). -/
def newChgCycle (s : State) : State :=
  s.onChg (fun c => { c with tmrTrk := 0, tmrPre := 0, tmrCc := 0, termCount := 0, newCycle := false,
                             cycles := satAdd max32 c.cycles 1 })

/-- The state that a start check chooses (R136). -/
def checkState (v : Nat) (s : State) : ChgState :=
  let n := cells s
  if v < vTrk s * n then .trickle
  else if v < vPre s * n then .precharge
  else if v < (if vrla s then vCv s else vRechg s) * n then .cc
  else if vrla s then .float else .done

/-- Net discharge over the interruption of at least 5 % of CHG.CAP_MAH (R137). -/
def netDischarged (s : State) : Bool :=
  let out := s.est.caddy.qOut - s.chg.qOutMark
  let inn := s.est.caddy.qIn - s.chg.qInMark
  decide ((5 * 3600 * pn Pid.CHG_CAP_MAH s : Int) ≤ 100 * (out - inn))

/-- In Safe Hold with CHG.SAFEHOLD FLOAT a VRLA charger enters FLOAT from any charging state (R156). -/
def safeFloat (st : ChgState) (s : State) : ChgState :=
  if s.heddle.safeHold && vrla s && st.inCycle then .float else st

/-- The phase of a state's safety timer (R144, R147). -/
def timerPhase : ChgState → Nat
  | .trickle => 1
  | .precharge => 2
  | .cc => 3
  | .cv => 3
  | _ => 0

/-- Limit of a phase's timer in 50 ms units (R145). -/
def timerLimit (ph : Nat) (s : State) : Nat :=
  20 * (if ph = 1 then pn Pid.CHG_TMR_TRK_S s else if ph = 2 then pn Pid.CHG_TMR_PRE_S s else pn Pid.CHG_TMR_CCCV_S s)

/-- Accumulator of a phase. -/
def timerAcc (ph : Nat) (s : State) : Nat :=
  if ph = 1 then s.chg.tmrTrk else if ph = 2 then s.chg.tmrPre else if ph = 3 then s.chg.tmrCc else 0

/-- Entry to Safe Hold (R156). -/
def chgSafeHold (s : State) : State :=
  if pn Pid.CHG_SAFEHOLD s = 1 then chgStop s
  else if vrla s && s.chg.st.inCycle then chgSet .float false s else s

/-- The cause of CHARGE_TIMEOUT is gone (R148). -/
def timeoutGone (s : State) : Bool :=
  let t := match batTemp s with
    | none => false
    | some t => decide (t < (chgTemps s).2 - 50)
  s.chg.absSinceTmo ||
    (match s.chg.tmoPhase with
    | 0 => true
    | 1 => !s.chg.pwm && decide (vTrk s * cells s ≤ s.path.vbat)
    | 2 => !s.chg.pwm && decide (vPre s * cells s ≤ s.path.vbat)
    | _ => s.chg.st == .suspended && !s.chg.pwm &&
        decide (s.chg.tmoAt + 1000000 * pn Pid.CHG_TMO_REST_S s ≤ s.sys.devTime) && t)

/-- An accepted clear of CHARGE_TIMEOUT (R148): a start check begins a new cycle. -/
def timeoutCleared (s : State) : State :=
  let s1 := s.onChg (fun c => { c with tmoPhase := 0, newCycle := true })
  if s.chg.st = .suspended then chgWait s1 else s1

/-- The charger after a restart of the digital domain or of SH0, SH1 or the front end: idle, bit 2 of CHG.WAIT_CAUSE set
(R143, R154). -/
def chgHalt (s : State) : State :=
  s.onChg (fun c => { c.interrupt s.est.caddy with
                             pwm := false, chargeMa := 0, checkDue := false, expiry := false,
                             waitCause := if c.st.held then c.waitCause else c.waitCause ||| 4#4 })

/-- The restart record has been read (R154): OFF, SUSPENDED and BATTERY_ABSENT are kept, any other state goes to WAIT. A
hardware stop during the restart is an absence (R149). -/
def chgRestart (s : State) : State :=
  if s.chg.absDet ≠ 0 then enterAbsent s.chg.absDet (s.chg.absDet == 1) s
  else if s.chg.kill then chgSet .batteryAbsent false s
  else if s.chg.st.held then chgDrive s
  else chgEval (chgSet .wait false (s.onChg (fun c => { c with waitCause := c.waitCause &&& 0xB#4 })))

end Sys2Proof.Machine
end

