-- ==== Sys2Proof/Machine/PathOps.lean ====
section
/-! DEFINITION. The power path's shared operations: the OR, qualification, bounces, link transitions and their log, the
return check and the reconstruction after a restart (R107 to R129). -/

namespace Sys2Proof.Machine

/-- SH0 runs the link state machine (R125); after the die shutdown the path controllers run on their POR settings without it
(R313). -/
def linkRuns (s : State) : Bool := shRuns 0 s && s.sys.boot.cfgLoaded && !(vgetD {} s.therm.zone 8).latch

/-- The path controllers go back to their POR settings (R108, R313). -/
def pathPor (s : State) : State :=
  let dc := fun (x : Source) =>
    let w := decide (9000 ≤ x.mv ∧ x.mv ≤ 75000)
    { x with inWin := w, gate := w, limitPct := 100, limiting := false, released := false, replaced := false }
  let us := fun (x : Source) => { x with gate := false, limiting := false, replaced := false }
  s.onPath (fun q => { q with porSet := true, link := .start, supplement := false, suppMa := 0, overload := false,
                              dca := dc q.dca, dcb := dc q.dcb, usba := us q.usba, usbb := us q.usbb })

/-- Link state codes (chapter 04). -/
def LinkState.code : LinkState → Nat
  | .start => 0
  | .source => 1
  | .handover => 2
  | .battery => 3
  | .return => 4

/-- Source state codes (R115). -/
def SrcState.code : SrcState → Nat
  | .absent => 0
  | .qualifying => 1
  | .standby => 2
  | .enabled => 3
  | .ramping => 4
  | .quarantined => 5
  | .disabled => 6

/-- The sources in the order of SRC.PRIORITY, highest first (R113). -/
def srcOrder (s : State) : List (Fin 4) :=
  let p := pn Pid.SRC_PRIORITY s
  [0, 4, 8, 12].filterMap (fun k => let n := (p / 2 ^ k) % 16; if h : n < 4 then some ⟨n, h⟩ else none)

/-- A source is in the OR: enabled or ramping, and not replaced by a takeover (R113, R114). -/
def inOr (i : Fin 4) (s : State) : Bool :=
  let x := srcAt i s
  (x.st == .enabled || x.st == .ramping) && !x.replaced

/-- The carrying sources, in priority order. -/
def orMembers (s : State) : List (Fin 4) := (srcOrder s).filter (fun i => inOr i s)

/-- The qualified sources in priority order. -/
def qualified (s : State) : List (Fin 4) :=
  (srcOrder s).filter (fun i => let x := srcAt i s; x.inWin && (x.st == .standby || x.st == .enabled || x.st == .ramping))

/-- The member whose voltage is highest carries the link (R113). -/
def carrierOf (s : State) : Nat :=
  let best := (orMembers s).foldl (fun (a : Option (Fin 4)) i =>
    match a with
    | none => some i
    | some j => if (srcAt j s).mv < (srcAt i s).mv then some i else some j) none
  best.elim s.path.carrier (·.val)

/-- Remember the carrier. -/
def noteCarrier (s : State) : State := s.onPath (fun q => { q with carrier := carrierOf s })

/-- GDBAT starts or stops conducting (R116, R471). -/
def setGdbat (b : Bool) (s : State) : State :=
  if s.path.gdbat == b then s else latchEic 130 (s.onPath (fun q => { q with gdbat := b }))

/-- Turn a path off (R110, R117). -/
def pathOff (i : Fin 4) (s : State) : State :=
  onSrc i (fun x => { x with gate := false, limitPct := 100, limiting := false, released := false, replaced := false }) s

/-- Bring the input limit that the Power Frame carries to R123; `ma` is a USB sink path's contract or Rp current. -/
def setLimit (i : Fin 4) (ma : Nat) (s : State) : State := onSrc i (fun x => { x with limMa := ma }) s

/-- The limit of a DC input as R123 stands; a USB path keeps what its port has set. -/
def refreshLimit (i : Fin 4) (s : State) : State := if isDc i then setLimit i (dcLimit i s) s else s

/-- A source starts qualification: its path is off, the count runs from now when it is in window and no test holds it, and its SRCID is
read (R111, R115, R119, R266). -/
def startQual (i : Fin 4) (s : State) : State :=
  onSrc i (fun x =>
    { x with st := .qualifying, idPending := x.idPending || isDc i,
             qualFrom := if x.inWin && s.est.test.isNone then some s.sys.devTime else none }) (pathOff i s)

/-- A nibble of a transfer's detail: the first source of a list, or free when the manual names none (log entry 11). -/
def transferNibble (l : List (Fin 4)) (s : State) : State × Nat :=
  match l with
  | i :: _ => (s, i.val)
  | [] => (takeFree s, (freeW s).toNat % 16)

/-- Count and log a transfer (R127). While SH0 does not run, the hardware's transfer waits for the restart (R126). -/
def transfer (new old : LinkState) (gain lose cause : Nat) (s : State) : State :=
  let d := new.code + 16 * old.code + 256 * gain + 4096 * lose
  if !linkRuns s then s.onPath (fun q => { q with hwTransfers := q.hwTransfers ++ [d] })
  else
    let w := w32 (d + 65536 * cause)
    raiseEvent 0x1001 w (logEvent 0x1001 w s.sys.devTime
      (s.onPath (fun q => { q with transfers := satAdd max32 q.transfers 1 })))

/-- Count a SOURCE to SOURCE transfer when the set of carrying sources has changed from `before` (R117, R127). -/
def countOr (before : List (Fin 4)) (cause : Nat) (s : State) : State :=
  let now := orMembers s
  let gained := now.filter (fun i => !before.contains i)
  let lost := before.filter (fun i => !now.contains i)
  if s.path.link ≠ .source || (gained.isEmpty && lost.isEmpty) then noteCarrier s
  else
    let g := transferNibble gained s
    let l := transferNibble lost g.1
    noteCarrier (transfer .source .source g.2 l.2 cause l.1)

/-- Change the link state and let the charger judge it (R117, R143). -/
def setLink (st : LinkState) (s : State) : State :=
  let s1 := s.onPath (fun q => { q with link := st, supplement := q.supplement && st == .source,
                                        overload := q.overload && st == .source,
                                        suppMa := if st == .source || st == .return then q.suppMa else 0 })
  chgEval (when_ (s.path.supplement && st != .source) (latchEic 137) s1)

/-- One source of the OR as R113 ranks it: enabled, ramping when it joins (R121), or standby with its gate off. -/
def orPlace (rank : Nat) (i : Fin 4) (s : State) : State :=
  let x := srcAt i s
  if rank < pn Pid.SRC_OR_DEPTH s then
    if x.st = .standby then
      onSrc i (fun x => { x with st := .ramping, gate := true, limitPct := 10, replaced := false }) (refreshLimit i s)
    else onSrc i (fun x => { x with replaced := false }) s
  else if x.st = .standby then s
  else onSrc i (fun x => { x with st := .standby }) (pathOff i s)

/-- R113 over the qualified sources. -/
def orPlaces : Nat → List (Fin 4) → State → State
  | _, [], s => s
  | k, i :: l, s => orPlaces (k + 1) l (orPlace k i s)

/-- Apply R113 in SOURCE after an event with a cause of R127; `before`: the carrying sources before it. -/
def applyOr (before : List (Fin 4)) (cause : Nat) (s : State) : State :=
  if s.path.link ≠ .source || !linkRuns s then s
  else chgEval (countOr before cause (orPlaces 0 (qualified s) s))

/-- In BATTERY, begin the return when the highest-priority qualified source is above VBAT + SRC.RETURN_MARGIN_MV (R117, R118,
R121). -/
def returnCheck (s : State) : State :=
  if s.path.link ≠ .battery || !linkRuns s then s
  else match qualified s with
    | [] => s
    | i :: _ =>
      if (srcAt i s).mv ≤ s.path.vbat + pn Pid.SRC_RETURN_MARGIN_MV s then s
      else
        let s1 := onSrc i (fun x => { x with st := .ramping, gate := true, limitPct := 10 }) (refreshLimit i s)
        let need := s.path.ibat.natAbs - limNow i s1
        let s2 := s1.onPath (fun q => { q with suppMa := min need (pn Pid.CHG_I_DIS_MAX_MA s) })
        noteCarrier (setLink .return (setGdbat false s2))

/-- HANDOVER ends in BATTERY (R117): every path off; sources out of window are ABSENT, the others qualify afresh. -/
def toBattery (s : State) : State :=
  let old := s.path.carrier
  let each := fun (i : Fin 4) (t : State) =>
    let x := srcAt i t
    if x.st = .quarantined || x.st = .disabled then pathOff i t
    else if !x.inWin then onSrc i (fun x => { x with st := .absent, qualFrom := none }) (pathOff i t)
    else if x.st = .qualifying then pathOff i t
    else startQual i (pathOff i t)
  returnCheck (transfer .battery .handover 0xF old 0x09 (setLink .battery (foldS each (allFin 4) s)))

/-- HANDOVER ends at once when every enabled source has left its window (R117). -/
def handoverCheck (s : State) : State :=
  if s.path.link = .handover && (allFin 4).all (fun i =>
      let x := srcAt i s
      !(x.st == .enabled || x.st == .ramping) || !x.inWin) then toBattery s
  else s

/-- Enter HANDOVER with its transfer counted (R117). -/
def toHandover (old : LinkState) (lose : Nat) (s : State) : State :=
  handoverCheck (transfer .handover old 0xF lose 0x01 (setLink .handover s))

/-- Add a window exit to the bounce history; above SRC.BOUNCE_MAX in 60 s the source is quarantined, its path off (R115, R120). A
DISABLED source stays DISABLED. -/
def bounce (i : Fin 4) (s : State) : State :=
  let l := recentUs 60000000 s.sys.devTime (srcAt i s).exits ++ [s.sys.devTime]
  let s1 := onSrc i (fun x => { x with exits := l }) s
  if l.length ≤ pn Pid.SRC_BOUNCE_MAX s || (srcAt i s).st = .quarantined || (srcAt i s).st = .disabled then s1
  else
    let d := i.val + 256 * (l.length % 256)
    raisePickEv (0x141 + i.val) 0x11 d (some (0x1003, w32 d))
      (onSrc i (fun x => { x with st := .quarantined, qualFrom := none }) (pathOff i s1))

/-- The state of a source that has left: ABSENT, unless quarantined or disabled. -/
def srcGone (i : Fin 4) (s : State) : State :=
  onSrc i (fun x => { x with st := if x.st = .quarantined || x.st = .disabled then x.st else .absent, qualFrom := none,
                             ovp := false }) (pathOff i s)

/-- While SH0 does not run, source `i` leaves the link with its gate: the transfer that this makes waits for the restart, once (R126,
R127). In SOURCE another conducting source gains the link; with none the comparator's trip is the transfer. In RETURN the ramping source
gives the link back to the battery. A source that a takeover has replaced has given it already. -/
def hwLost (i : Fin 4) (s : State) : State :=
  let x := srcAt i s
  if !x.gate || x.replaced then s
  else match s.path.link with
    | .source =>
      match (srcOrder s).find? (fun k => k != i && (srcAt k s).gate) with
      | some k => transfer .source .source k.val i.val 0 s
      | none => s
    | .return => if x.st = .ramping then transfer (if s.path.gdbat then .handover else .battery) .return 0xF i.val 0 s else s
    | _ => s

/-- A confirmed window exit of a source (R109, R117, R119, R120); `counts`: it is a bounce. DEDUCED: while SH0 is down the gate goes off
at the exit (R125 is silent on the path, log entry 18). -/
def srcExit (i : Fin 4) (counts : Bool) (s : State) : State :=
  let before := orMembers s
  let x := srcAt i s
  let member := x.st == .enabled || x.st == .ramping
  let s1 := onSrc i (fun x => { x with inWin := false, qualFrom := none }) s
  if !linkRuns s then onSrc i (fun x => { x with gate := false }) (hwLost i s1)
  else
    let s2 := when_ counts (bounce i) s1
    if x.st = .qualifying && !x.ovp then s2
    else match s.path.link with
      | .start => s2
      | .source =>
        let s3 := srcGone i s2
        if member then applyOr before 0x08 s3 else s3
      | .handover => if member then handoverCheck s2 else srcGone i s2
      | .battery => srcGone i s2
      | .return =>
        let s3 := srcGone i s2
        if x.st ≠ .ramping then s3
        else if s.path.gdbat then toHandover .return i.val s3
        else returnCheck (transfer .battery .return 0xF i.val 0x08 (setLink .battery s3))

/-- A window entry (R109, R117, R119). -/
def srcEntry (i : Fin 4) (s : State) : State :=
  let x := srcAt i s
  let s1 := onSrc i (fun x => { x with inWin := true }) s
  if !linkRuns s then s1
  else if x.st = .quarantined || x.st = .disabled || s.path.link = .start then s1
  else if x.inWin then
    if x.replaced then applyOr (orMembers s) 0x04 (onSrc i (fun x => { x with replaced := false }) s1) else returnCheck s1
  else startQual i s1

/-- SRC.DCx_EN written, or a USB path made available or not (R115): DISABLED, or back to its window. DEDUCED (log entry 18): disabling the
ramping source takes RETURN to BATTERY as its window exit does, for which R117 has no row; and it ends a quarantine, on which R120 is
silent. -/
def srcEnable (i : Fin 4) (en : Bool) (s : State) : State :=
  let x := srcAt i s
  let before := orMembers s
  if en then
    if x.st ≠ .disabled then s
    else
      let s1 := onSrc i (fun x => { x with st := .absent }) s
      if x.inWin && linkRuns s && s.path.link != .start then startQual i s1 else s1
  else if x.st = .disabled then s
  else
    let s1 := onSrc i (fun x => { x with st := .disabled, qualFrom := none }) (pathOff i s)
    match s.path.link with
    | .source => applyOr before 0x04 s1
    | .handover => handoverCheck s1
    | .return =>
      if x.st = .ramping then returnCheck (transfer .battery .return 0xF i.val 0x08 (setLink .battery s1)) else s1
    | _ => s1

/-- The Power Frame's path controllers run: not before POR is released; after the die shutdown they run on (R20, R43, R313). -/
def frameOn (s : State) : Bool := s.sys.frameRun && !s.sys.porActive

/-- The standby takeover (R114): when an enabled source leaves its window in SOURCE, hardware enables the highest-priority standby source
in window; the leaving source's path is turned off only by its confirmed exit (R117). A trip of the comparator takes precedence; GDBAT
that conducts in supplement mode is no trip. -/
def takeover (leaving : Fin 4) (s : State) : State :=
  let x := srcAt leaving s
  if !frameOn s || s.path.link ≠ .source || (s.path.gdbat && !s.path.supplement) || x.replaced ||
      !(x.st == .enabled || x.st == .ramping) then s
  else match (srcOrder s).find? (fun i => let y := srcAt i s; y.st == .standby && y.inWin && !y.gate) with
    | none => s
    | some j =>
      let before := orMembers s
      let s1 := onSrc leaving (fun y => { y with replaced := true })
        (onSrc j (fun y => { y with st := .enabled, gate := true, limitPct := 100 }) (latchEic 125 s))
      if !linkRuns s then transfer .source .source j.val leaving.val 0 s1 else chgEval (countOr before 0x02 s1)

/-- Hold every source for a test (R266): paths off, QUALIFYING with the count at 0. -/
def holdSources (s : State) : State :=
  foldS (fun i t =>
    let x := srcAt i t
    if x.st = .quarantined || x.st = .disabled then t
    else onSrc i (fun x => { x with st := .qualifying, qualFrom := none }) (pathOff i t)) (allFin 4) s

/-- Release the sources at the end of a test: those in window start qualification (R267). -/
def releaseSources (s : State) : State :=
  foldS (fun i t =>
    let x := srcAt i t
    if x.st ≠ .qualifying then t
    else if x.inWin then startQual i t else onSrc i (fun x => { x with st := .absent }) t) (allFin 4) s

/-- A DC input by the window the image brings (R109, R129): one in window stays so until it is outside the outer limits. -/
def judgeWindow (d : Fin 2) (s : State) : State :=
  let i := dcSrc d
  let x := srcAt i s
  onSrc i (fun x => { x with inWin := x.inWin && !winLeaves i x.mv s }) (when_ (x.inWin && winLeaves i x.mv s) (latchEic (126 + i.val)) s)

/-- The configuration is loaded for the first time since POR (R117): SOURCE when a source in window conducts, else
BATTERY. Sources in window count as qualified, an over-voltage before included (R110). -/
def linkStart (s : State) : State :=
  let s0 := foldS refreshLimit (allFin 4) (foldS judgeWindow (allFin 2) (s.onPath (fun q => { q with porSet := false, told := true })))
  let ok := fun (i : Fin 4) => let x := srcAt i s0; x.inWin && x.st != .disabled
  let conducts := (allFin 4).any (fun i => ok i && (srcAt i s0).gate)
  if conducts then
    let win := (srcOrder s0).filter ok
    let depth := pn Pid.SRC_OR_DEPTH s
    let each := fun (i : Fin 4) (t : State) =>
      let rank := win.findIdx (· == i)
      if !win.contains i then pathOff i t
      else if rank < depth then onSrc i (fun x => { x with st := .enabled, gate := true, ovp := false }) t
      else onSrc i (fun x => { x with st := .standby, ovp := false }) (pathOff i t)
    noteCarrier (setLink .source (setGdbat false (foldS each (allFin 4) s0)))
  else
    let each := fun (i : Fin 4) (t : State) =>
      if (srcAt i t).st = .disabled then t else startQual i (pathOff i t)
    setLink .battery (setGdbat true (foldS each (allFin 4) s0))

/-- Log one transfer that the hardware made while SH0 did not run (R126). -/
def logHw (d : Nat) (s : State) : State :=
  let w := w32 (d + 65536 * 0x07)
  raiseEvent 0x1001 w (logEvent 0x1001 w s.sys.devTime
    (s.onPath (fun q => { q with transfers := satAdd max32 q.transfers 1 })))

/-- SH0 restarts and takes the link state from the paths it finds (R126); supplement mode is evaluated afresh. DEDUCED: with no path on and
GDBAT not conducting, for which R126 has no row, the state is BATTERY (log entry 18). -/
def linkRestart (s : State) : State :=
  let s0 := (foldS logHw s.path.hwTransfers s).onPath (fun q =>
    { q with hwTransfers := [], handoverFlag := false, supplement := false, suppMa := 0, overload := false, told := true })
  let on := (allFin 4).filter (fun i => (srcAt i s0).gate)
  let ramped := on.filter (fun i => decide ((srcAt i s0).limitPct < 100))
  let new : LinkState :=
    if on.isEmpty then .battery
    else if !ramped.isEmpty then .return
    else if s0.path.gdbat then .handover else .source
  let each := fun (i : Fin 4) (t : State) =>
    let x := srcAt i t
    let t1 := when_ (isDc i && x.inWin) (onSrc i (fun x => { x with idPending := true })) t
    if x.st = .disabled || x.st = .quarantined then t1
    else if on.contains i then
      onSrc i (fun x => { x with st := if decide (x.limitPct < 100) then .ramping else .enabled, replaced := false }) t1
    else if x.inWin then startQual i t1
    else onSrc i (fun x => { x with st := .absent, qualFrom := none, replaced := false }) t1
  let s1 := noteCarrier (setLink new (foldS each (allFin 4) s0))
  if new = .handover then handoverCheck s1 else returnCheck s1

end Sys2Proof.Machine
end

