-- ==== Sys2Proof/Machine/TestOps.lean ====
section
/-! DEFINITION. The end of TEST mode (R34) and the battery tests: conditions, start, end and the test log (R263 to R268). -/

namespace Sys2Proof.Machine

/-- Margins and armed injections go with TEST (R34, R370). -/
def testRemnants (s : State) : State := (endMargins s).onSelv (fun v => { v with injections := [] })

/-- TEST ends and NORMAL follows, where the deferred commands are decided again (R34, R35, R90). -/
def leaveTest (s : State) : State :=
  if s.sys.mode = .test then decideDeferred (setMode .normal (testRemnants s)) else s

/-- Test type code of the log. -/
def testCode : TestKind → Nat
  | .function => 1
  | .duration => 2

/-- Planned duration, s (R263). -/
def testPlanned (k : TestKind) (s : State) : Nat :=
  match k with
  | .function => pn Pid.EST_FT_DUR_S s
  | .duration => if pn Pid.EST_DT_DUR s = 0 then 3600 else 10800

/-- The recharge rule of R265. -/
def rechargeOk (s : State) : Bool :=
  let ma : Int := pn Pid.EST_RATED_MA s
  let need := Frac.ofInt (ma * pn Pid.EST_RATED_DUR_MIN s * 60)
  let qfl := ((floorFrac (pn Pid.EST_RATED_MA s) s).mul ⟨qFullMc s, 10000⟩)
  let qend := qfl.sub (Frac.ofInt (ma * testPlanned .duration s))
  let deficit := (need.sub qend).pos
  let room : Int := ((pn Pid.EST_RECHARGE_H s : Int) - 1) * 3600 * 9 * pn Pid.CHG_I_CC_MA s
  !((Frac.ofInt room).lt (deficit.mul (Frac.ofInt 10)))

/-- Groups that are UP, bit per group. -/
def groupsUp (s : State) : BitVec 8 :=
  BitVec.ofNat 8 (((allFin 8).map (fun g => b01 (s.pwr.grp[g].st == .up) * 2 ^ g.val)).sum)

/-- The first condition of R264 that does not hold, 0 when all hold; FORCE waives 0x02. -/
def testRefusal (k : TestKind) (force : Bool) (s : State) : Nat :=
  if s.path.link ≠ .source then 0x01
  else if k = .duration && !force && !rechargeOk s then 0x02
  else if s.sys.mode ≠ .normal || s.sys.service ≠ .full || s.heddle.safeHold then 0x03
  else if estFlag 6 s || estFlag 7 s || estFlag 8 s || estFlag 9 s then 0x04
  else if zoneHot s then 0x05
  else if s.est.test.isSome then 0x06
  else if s.chg.st = .batteryAbsent || s.chg.st = .suspended then 0x07
  else if (allFin 8).any (fun g => groupEn g s && groupAuto g s && s.pwr.grp[g].st != .up) then 0x08
  else 0

/-- EST.FLOOR_RATED_S in whole minutes, as the log holds it. -/
def floorMin (sec : Nat) : Nat := min 65535 (rdivN sec 60)

/-- Start a test (R263, R266). -/
def startTest (k : TestKind) (forced manual : Bool) (s : State) : State :=
  let s1 := when_ (k == .duration) (setMode .test) s
  let t : RunTest :=
    { kind := k, ts := timestamp s, at_ := s.sys.devTime, planned := testPlanned k s, lowMv := s.path.vbat,
      v0 := s.path.vbat, q0 := s.est.caddy.qOut, soc0 := s.est.soc, floor0 := floorMin s.est.floorRatedS,
      forced := forced, manual := manual, mainsLost := false, up0 := groupsUp s }
  let s2 := s1.onEst (fun e => { e with test := some t })
  latchEic 167 (raiseEvent 0x5009 0 (setFlag 14 true (holdSources s2)))

/-- Append an entry to the test log: word 0 [15:0] and words 1 to 6 (R268). -/
def logTest (low : Nat) (ws : List W) (s : State) : State :=
  s.onNvm (fun n => { n with test := n.test.appendChained (testCap s) low (uidLo s) ws })

/-- Word 0 [15:0] of a test log entry. -/
def testLow (k : TestKind) (result reason : Nat) (forced lost manual : Bool) : Nat :=
  testCode k * 4096 + result * 256 + reason * 16 + b01 forced + 2 * b01 lost + 4 * b01 manual

/-- Two halves of a word. -/
def halves (hi lo : Nat) : W := w32 (min 65535 hi * 65536 + min 65535 lo)

/-- The log entry of the running test as it ends (R268). -/
def logRunTest (t : RunTest) (result reason : Nat) (s : State) : State :=
  logTest (testLow t.kind result reason t.forced t.mainsLost t.manual)
    [w32 t.ts, halves ((s.sys.devTime - t.at_) / 1000000) t.planned, halves t.lowMv t.v0,
     w32 (min max32 (s.est.caddy.qOut - t.q0).toNat), halves s.est.soc t.soc0,
     halves (floorMin s.est.floorRatedS) t.floor0] s

/-- The running test ends (R267): logged, posted, sources released; a duration test leaves TEST. -/
def endTest (result reason : Nat) (s : State) : State :=
  match s.est.test with
  | none => s
  | some t =>
    let seq := s.store.nvm.test.next
    let s1 := (logRunTest t result reason s).onEst (fun e => { e with test := none })
    let s2 := latchEic 167 (raiseEvent 0x500A (seq.setWidth 32) (setFlag 14 false s1))
    let s3 := releaseSources s2
    if t.kind = .duration then leaveTest s3 else s3

/-- A reset interrupts the running test (R34, R267): the log records it, and TEST_RESULT waits for the next full service. -/
def interruptTest (s : State) : State :=
  match s.est.test with
  | none => s
  | some t => setFlag 14 false ((logRunTest t 3 0x5 s).onEst (fun e => { e with test := none, resultDue := some s.store.nvm.test.next }))

/-- TEST_RESULT of a test that a reset interrupted (R267). -/
def postResult (s : State) : State :=
  match s.est.resultDue with
  | none => s
  | some seq => latchEic 167 (raiseEvent 0x500A (seq.setWidth 32) (s.onEst (fun e => { e with resultDue := none })))

/-- A test that did not run is logged as POSTPONED or REFUSED; the entry's measured words are free (R264, R268, log
entry 3). -/
def logNoTest (k : TestKind) (result reason : Nat) (s : State) : State :=
  let a := takeFree s
  let b := takeFree a
  logTest (testLow k result reason false false false)
    [w32 (timestamp s), halves 0 (testPlanned k s), freeW s, 0, freeW a, freeW b] (takeFree b)

/-- Set the count of postponements in a row. -/
def setPostponed (k : TestKind) (n : Nat) (s : State) : State :=
  s.onEst (fun e => match k with
    | .function => { e with postFt := n }
    | .duration => { e with postDt := n })

/-- A scheduled test cannot start (R264): it is postponed, or refused after EST.POSTPONE_D postponements in a row. -/
def postpone (k : TestKind) (reason : Nat) (s : State) : State :=
  let n := match k with
    | .function => s.est.postFt
    | .duration => s.est.postDt
  if n < pn Pid.EST_POSTPONE_D s then setPostponed k (n + 1) (logNoTest k 4 reason s)
  else setPostponed k 0 (raiseEvent 0x500B 0 (logNoTest k 5 reason s))

/-- Failures of a running test that its own conditions bring (R267). -/
def testPoll (s : State) : State :=
  match s.est.test with
  | none => s
  | some t =>
    if estFlag 9 s then endTest 1 0x2 s
    else if (t.kind == .function && estFlag 7 s) || (t.kind == .duration && estFlag 8 s) then endTest 1 0x1 s
    else if t.up0 &&& ~~~(groupsUp s) ≠ 0 then endTest 1 0x6 s
    else s

end Sys2Proof.Machine
end

