-- ==== Sys2Proof/Machine/Flags.lean ====
section
/-! DEFINITION. Flag and status computations: every status word that the manual derives from other state (ERR_N, MON_OK, PG,
STICKY_SUMMARY, HIF_STATUS, RSTCAUSE, the early status registers, SNAPSHOT, the interrupt pins, thermal state words). -/

namespace Sys2Proof.Machine

/-- ERR_N is asserted (R47, R313, R367): the ERR latch, a monitor with ACT bit 0 in fault, the die latch or the digest
hold. -/
def errN (s : State) : Bool :=
  s.selv.errLatch || (allFin 32).any (fun m => monErr m s) || (vgetD {} s.therm.zone 8).latch || s.sys.digestHold.isSome

/-- MON_OK (R51, R202). -/
def monOk (s : State) : W := w32 (bitsNat ((allFin 32).map (fun m => let x := s.pwr.mon[m]; x.written && !x.uv && !x.ov)))

/-- PG state, bit n for PGn. -/
def pgBits (s : State) : Nat := bitsNat ((allFin 12).map (fun c => s.pwr.vr[c].pg))

/-- The channels in DEGRADED. -/
def degradedBits (s : State) : Nat := bitsNat ((allFin 12).map (fun c => decide (s.pwr.vr[c].st = .degraded)))

/-- HIF_STATUS of a port (R80). -/
def hifStatus (p : Port) (s : State) : W :=
  let q := s.hif.port p
  w32 (s.sys.mode.code * 1073741824 + s.sys.service.code * 268435456 + q.crcCount * 65536 + 256 * b01 q.busy + q.errBits)

/-- A sticky status bit is set at a source in a range (R363, R467). -/
def stickyIn (a b : Nat) (s : State) : Bool := s.selv.status.any (fun e => decide (a ≤ e.1 ∧ e.1 ≤ b ∧ e.2 ≠ 0))

/-- STICKY_SUMMARY (R80, R315, R467). SAFE_HOLD restarts at 0 and reads 1 once SAF is in limp service in Safe Hold (R13, R398, R400). -/
def stickySummary (s : State) : W :=
  w32 (bitsNat
    [hostPorts.any (fun p => decide ((s.hif.port p).errBits ≠ 0)), stickyIn 0x000 0x01F s, stickyIn 0x020 0x032 s,
     stickyIn 0x040 0x042 s, stickyIn 0x080 0x08B s, stickyIn 0x0A0 0x0B7 s, stickyIn 0x0E0 0x0FF s, stickyIn 0x100 0x128 s,
     stickyIn 0x140 0x148 s, stickyIn 0x160 0x164 s, stickyIn 0x181 0x18F s,
     stickyIn 0x1A0 0x1BB s || s.therm.zone.toList.any (·.latch), stickyIn 0x1C0 0x1C4 s,
     stickyIn 0x1E0 0x1E9 s, stickyIn 0x200 0x218 s, s.selv.carriedBits.any (fun e => decide (e.2 ≠ 0))] +
    2147483648 * b01 (s.sys.service == .limpSafe))

/-- RSTCAUSE (chapter 02). -/
def rstCause (s : State) : W :=
  w32 (s.sys.chipCount * 16777216 + s.sys.rstLast.toNat * 1048576 + s.sys.rstBits.toNat)

/-- EARLY_SUP (R51). -/
def earlySup (s : State) : W :=
  w32 (pgBits s + 67108864 * bitsNat [errN s, s.path.dcb.inWin, s.path.dca.inWin, s.path.gdbat,
    (vgetD {} s.therm.zone 8).latch, s.sys.frameRun])

/-- EARLY_STAGE (R51). -/
def earlyStage (s : State) : W := w32 (s.sys.stage.toNat * 256 + s.sys.bootErr.toNat)

/-- The early SNAPSHOT words (R50). -/
def earlySnapshot (s : State) : List W :=
  [s.sys.earlyPwr, earlySup s, monOk s, earlyStage s, rstCause s, wLo s.sys.devTime, wHi s.sys.devTime]

/-- SRC.STATE as it reads: 0x0 from a chip reset until SH0 sets it (R128). -/
def linkShown (s : State) : Nat := if s.path.told then s.path.link.code else 0

/-- SRC.DCx_STATE as it reads: 0 from a chip reset until SH0 sets it (R128). -/
def srcShown (x : Source) (s : State) : Nat := if s.path.told then x.st.code else 0

/-- The full-precision SNAPSHOT words (R98). -/
def snapshotWords (p : Port) (s : State) : List W :=
  let fl := bitsNat [s.heddle.safeHold, (vgetD {} s.therm.zone 8).latch, errN s, estFlag 0 s]
  [w32 (s.sys.mode.code * 1073741824 + s.sys.service.code * 268435456 + linkShown s * 16777216 +
     s.chg.st.code * 1048576 + (s.hif.port p).snum.toNat * 256 + fl),
   w32 s.path.vlink, w32 s.path.vbat, wInt s.path.ibat, w32 (s.est.soc * 65536), w32 s.est.floorS,
   w32 (pgBits s + 65536 * degradedBits s), monOk s, w32 (groupNibbles s), stickySummary s,
   w32 (inUse .spia s + 256 * inUse .spib s + 65536 * inUse .i2c s + 16777216 * inUse .internal s),
   w32 (min 65535 s.selv.stored + 65536 * min 65535 s.selv.dropped)]

/-! ### Interrupt pins (R95) -/

/-- The ring indices from a head up to a tail, with fuel. -/
def ringFrom : Nat → BitVec 6 → BitVec 6 → List Nat
  | 0, _, _ => []
  | n + 1, h, t => if h = t then [] else h.toNat :: ringFrom n (h + 1) t

/-- The unconsumed completion entries of a port. -/
def PortState.cqOpen (q : PortState) : List Nat := ringFrom 64 q.cqHead q.cqTail

/-- The reasons that hold, in the bits of IRQ_MASK. -/
def irqReasons (p : Port) (s : State) : List Bool :=
  let q := s.hif.port p
  [q.cqOpen.any (fun i => q.cqNotify.getLsbD i), decide (q.cqHead ≠ q.cqTail), decide (q.evqHead ≠ q.evqTail),
   decide (stickySummary s ≠ 0), decide (q.errBits ≠ 0), q.cqOpen.any (fun i => q.cqSysgen.getLsbD i)]

/-- HIRQ of a port is asserted (R95). -/
def hirq (p : Port) (s : State) : Bool :=
  s.sys.boot.earlyOpen && !s.sys.inReset && !(p == .i2c && s.hif.alertReleased) &&
    ((irqReasons p s).zipIdx.any (fun x => x.1 && (s.hif.port p).irqMask.getLsbD x.2))

/-! ### Thermal state words (R318) -/

/-- The TSNS numbers of a zone: THERM.Zz.SNS (R308). -/
def zoneTsns (z : Nat) (s : State) : List Nat :=
  let w := pn (Pid.THERM_Z_SNS z) s
  if w % 256 = 0xFF then [] else [w % 256, w / 256].filter (fun n => n < 8)

/-- The sensor codes of a zone; 8 is the die zone. -/
def zoneSens (z : Nat) (s : State) : List Nat :=
  if z = 8 then [0, 1, 2, 3] else (zoneTsns z s).map (fun n => n + 4)

/-- A zone's nibble of THERM.ZSTATE or THERM.DIE_STATE. -/
def zoneNibble (z : Nat) (s : State) : Nat :=
  let x := vgetD {} s.therm.zone z
  bitsNat [x.warn, x.throt, x.latch, (zoneSens z s).any (fun i => (vgetD {} s.therm.sens i).broken)]

/-- THERM.ZSTATE. -/
def zState (s : State) : Nat := ((List.range 8).map (fun z => zoneNibble z s * 16 ^ z)).sum

/-- THERM.FAST. -/
def thermFast (s : State) : Nat := bitsNat (s.therm.sens.toList.map (·.fast))
/-- THERM.BROKEN. -/
def thermBroken (s : State) : Nat := bitsNat (s.therm.sens.toList.map (·.broken))

/-- TSNSn.STATE. -/
def tsnsState (n : Nat) (s : State) : Nat :=
  let x := vgetD {} s.therm.sens (4 + n)
  bitsNat [x.warn, x.throt, x.shut, x.broken, x.fast]

end Sys2Proof.Machine
end

