-- ==== Sys2Proof/Machine/Link.lean ====
section
/-! DEFINITION. Sources, the DC link and the hand-over: the rows of chapter 04 (R107 to R129). -/

namespace Sys2Proof.Machine

/-- The port of a USB sink path is attached as sink (R321, R337). -/
def sinkAttached (i : Fin 4) (s : State) : Bool :=
  let x := if i.val = 2 then s.pd.a else s.pd.b
  x.st == .attachedSnk && !x.source && x.swap.isNone && !x.hrSrc && !x.held

/-- SRC_WINDOW_ENTRY (R109, R119, R337). -/
def execSrcWindowEntry (i : Fin 4) (mv : Nat) (s : State) : Out :=
  let s0 := onSrc i (fun x => { x with mv := mv }) s
  .next (if frameOn s && (isDc i || sinkAttached i s) && winEnters i mv s then
      srcEntry i (when_ (!(srcAt i s).inWin) (latchEic (126 + i.val)) s0)
    else s0)

/-- SRC_WINDOW_EXIT (R109, R117, R119, R120, R337): confirmed after SRC.WIN_DGL_US. -/
def execSrcWindowExit (i : Fin 4) (mv : Nat) (s : State) : Out :=
  let s0 := onSrc i (fun x => { x with mv := mv }) s
  .next (if frameOn s && (srcAt i s).inWin && winLeaves i mv s then srcExit i true (latchEic (126 + i.val) s0) else s0)

/-- SRC_QUARANTINE_END (R120). -/
def execSrcQuarantineEnd (i : Fin 4) (s : State) : Out :=
  .next (if linkRuns s && (srcAt i s).st = .quarantined then startQual i (onSrc i (fun x => { x with exits := [] }) s)
    else s)

/-- SRCID_READ (R111): two equal codes give the class, unequal ones an unknown source. -/
def execSrcidRead (d : Fin 2) (c1 c2 : BitVec 8) (s : State) : Out :=
  let i := dcSrc d
  .next (if (srcAt i s).idPending && shRuns 0 s then
      let a := srcidCode c1
      let b := srcidCode c2
      when_ (a == 0 || b == 0) (raisePick (0x141 + d.val) 0x10 0)
        (refreshLimit i (onSrc i (fun x => { x with cls := if a = b then a else 0xFF, idPending := false }) s))
    else s)

/-- SRC_QUALIFIED (R113, R117 to R119). -/
def execSrcQualified (i : Fin 4) (s : State) : Out :=
  let x := srcAt i s
  .next (if linkRuns s && x.st = .qualifying && x.inWin && x.qualFrom.isSome && s.est.test.isNone then
      let before := orMembers s
      let s1 := onSrc i (fun x => { x with st := .standby, qualFrom := none, ovp := false }) s
      returnCheck (applyOr before 0x0A s1)
    else s)

/-- The input over-voltage level: SRC.DCx_VMAX_MV, or the 75.0 V of the POR settings (R108, R110). -/
def ovpLevel (d : Fin 2) (s : State) : Nat := if s.path.porSet then 75000 else pn (Pid.SRC_DC_VMAX_MV d.val) s

/-- INPUT_OVP (R110): hardware turns the path off; the source must qualify again. -/
def execInputOvp (d : Fin 2) (mv : Nat) (s : State) : Out :=
  let i := dcSrc d
  let x := srcAt i s
  let s0 := onSrc i (fun x => { x with mv := mv }) s
  .next (if frameOn s && decide (ovpLevel d s < mv) then
      let before := orMembers s
      let s1 := onSrc i (fun x => { x with ovp := true }) (pathOff i (when_ (!linkRuns s) (hwLost i) (latchEic (131 + d.val) s0)))
      let s2 := when_ (x.st == .ramping || x.st == .enabled)
        (onSrc i (fun y => { y with limitPct := x.limitPct })) s1
      if !linkRuns s then s2
      else if x.st = .enabled || x.st = .ramping || x.st = .standby then
        match s.path.link with
        | .source => applyOr before 0x05 (startQual i s1)
        | .battery => startQual i s1
        | _ => if x.st = .standby then startQual i s1 else s2
      else s1
    else s0)

/-- STANDBY_TAKEOVER (R114). -/
def execStandbyTakeover (leaving : Fin 4) (s : State) : Out := .next (takeover leaving s)

/-- HANDOVER_TRIP (R116, R117, R121). A trip turns GDBAT on in every link state; in HANDOVER and BATTERY that is all. -/
def execHandoverTrip (vlink vbat : Nat) (s : State) : Out :=
  let s0 := s.onPath (fun q => { q with vlink := vlink, vbat := vbat })
  .next (if !frameOn s || !decide (vlink + 20 ≤ vbat ∨ vlink < pn Pid.SRC_VLINK_UV_MV s) then s0
    else if s.path.link = .handover || s.path.link = .battery then setGdbat true s0
    else
      let s1 := setGdbat true (latchEic 124 (s0.onPath (fun q => { q with handoverFlag := !linkRuns s })))
      match s.path.link with
      | .source =>
        if linkRuns s then toHandover .source s.path.carrier s1
        else if s.path.gdbat then s1 else transfer .handover .source 0xF s.path.carrier 0 s1
      | .return =>
        match (allFin 4).find? (fun i => let x := srcAt i s; x.st == .ramping && !x.inWin) with
        | some i =>
          if linkRuns s then toHandover .return i.val (srcGone i s1)
          else if (srcAt i s).gate then transfer .handover .return 0xF i.val 0 s1 else s1
        | none => s1
      | _ => s1)

/-- HO_MAX_EXPIRY (R117). -/
def execHoMaxExpiry (s : State) : Out := .next (if linkRuns s && s.path.link = .handover then toBattery s else s)

/-- A path may conduct as an ideal diode: a DC input in its POR window before the image is loaded and in the OR afterwards; the sink
pair of an attached port in the OR, with the source pair off; GDBAT where it is not held blocking (R107, R108, R113, R116, R121, R122,
R321). -/
def diodeEnabled (g : Gate) (s : State) : Bool :=
  let dc := fun (i : Fin 4) =>
    let x := srcAt i s
    if s.path.link = .start then x.inWin && !x.ovp
    else (x.st == .enabled || x.st == .ramping) && !x.ovp && s.path.link != .battery
  match g with
  | .dca => dc 0
  | .dcb => dc 1
  | .snk u =>
    let x := srcAt (usbSrc u) s
    (x.st == .enabled || x.st == .ramping) && s.path.link != .battery && sinkAttached (usbSrc u) s && !(pdPort u s).gsrc
  | .bat => s.path.link == .start || s.path.link == .handover || s.path.link == .battery || s.path.supplement ||
      s.path.gdbat

/-- Set a path's gate. -/
def setGate (g : Gate) (b : Bool) (s : State) : State :=
  match g with
  | .dca => onSrc 0 (fun x => { x with gate := b }) s
  | .dcb => onSrc 1 (fun x => { x with gate := b }) s
  | .snk u => onSrc (usbSrc u) (fun x => { x with gate := b }) s
  | .bat => setGdbat b s

/-- IDEAL_DIODE_TURN_ON (R107): a forward drop of 20 mV or more, in mV. -/
def execIdealDiodeTurnOn (g : Gate) (drop : Int) (s : State) : Out :=
  .next (if frameOn s && decide (20 ≤ drop) && diodeEnabled g s then setGate g true s else s)

/-- IDEAL_DIODE_REVERSE_OFF (R107): a drop of -5 mV or less. -/
def execIdealDiodeReverseOff (g : Gate) (drop : Int) (s : State) : Out :=
  .next (if frameOn s && decide (drop ≤ -5) then setGate g false s else s)

/-- The sum of the limits in force of the sources in the OR, mA. -/
def orLimit (s : State) : Nat := ((orMembers s).map (fun i => limNow i s)).sum

/-- The return is complete (R117): SOURCE, GDBAT held blocking, the other qualified sources join. -/
def returnDone (i : Fin 4) (s : State) : State :=
  let s1 := setGdbat false (onSrc i (fun x => { x with st := .enabled }) s)
  let s2 := noteCarrier (transfer .source .return i.val 0xF 0x03 (setLink .source s1))
  applyOr (orMembers s2) 0x0A s2

/-- RAMP_STEP (R117, R121): one step of 1 %, with the battery's contribution to the present link demand. -/
def execRampStep (i : Fin 4) (demandMa : Nat) (s : State) : Out :=
  .next (if !linkRuns s || (srcAt i s).st ≠ .ramping then s
    else
      let p := min 100 ((srcAt i s).limitPct + 1)
      let s1 := onSrc i (fun x => { x with limitPct := p }) s
      let need := min (demandMa - orLimit s1) (pn Pid.CHG_I_DIS_MAX_MA s)
      let s2 := s1.onPath (fun q => { q with suppMa := if disAllowed s1 then need else 0 })
      if p < 100 then chgEval s2
      else if s.path.link = .return then (if demandMa ≤ orLimit s1 then returnDone i s2 else chgEval s2)
      else chgEval (onSrc i (fun x => { x with st := .enabled }) s2))

/-- SUPPLEMENT_START (R122): step 1 reduces the charger; what is left of the excess starts supplement mode, unless the
converter may not discharge (R149). -/
def execSupplementStart (excessMa : Nat) (s : State) : Out :=
  .next (if !linkRuns s || s.path.link ≠ .source || (orMembers s).isEmpty then s
    else
      let cut := min excessMa s.chg.chargeMa
      let s1 := s.onChg (fun c => { c with chargeMa := c.chargeMa - cut })
      let left := excessMa - cut
      if left = 0 || !disAllowed s then s1
      else
        let s2 := s1.onPath (fun q => { q with supplement := true, suppMa := min left (pn Pid.CHG_I_DIS_MAX_MA s) })
        chgEval (when_ (!s.path.supplement) (latchEic 137) s2))

/-- SOURCE_OVERLOAD (R122). -/
def execSourceOverload (s : State) : Out :=
  .next (if s.path.supplement && !s.path.overload then
      raisePickEv 0x140 0x12 0 (some (0x1002, 0)) (s.onPath (fun q => { q with overload := true }))
    else s)

/-- The linear limiter of a DC input ends. -/
def limiterEnd (d : Fin 2) (s : State) : State :=
  let x := srcAt (dcSrc d) s
  when_ (x.limiting || x.released) (fun t => latchEic (133 + d.val)
    (onSrc (dcSrc d) (fun y => { y with limiting := false, released := false }) t)) s

/-- SUPPLEMENT_END (R122): GDBAT is held blocking again; limiters of the ended excess end. -/
def execSupplementEnd (s : State) : Out :=
  .next (if linkRuns s && s.path.link = .source then
      let s1 := foldS (fun (u : Fin 2) t => onSrc (usbSrc u) (fun y => { y with limiting := false }) t) (allFin 2) (foldS limiterEnd (allFin 2) s)
      if s.path.supplement then
        chgEval (setGdbat false (latchEic 137 (s1.onPath (fun q =>
          { q with supplement := false, suppMa := 0, overload := false }))))
      else s1
    else s)

/-- SRC_LIMITING (R108, R112, R122, R338): hardware regulates a DC input, or a USB sink path, above its limit + 10 %; only a DC
input has the pick. -/
def execSrcLimiting (i : Fin 4) (c : Sys2Proof.InputCurrent) (s : State) : Out :=
  let s0 := noteCurrent i c s
  let x := srcAt i s0
  .next (if !frameOn s || isDc i != (match c with | .drop _ => true | .sense _ => false) then s
    else if !s.path.porSet && x.gate && !x.limiting && !x.released && !x.iLow && decide (110 * limNow i s < 100 * x.iMa) then
      let s1 := onSrc i (fun y => { y with limiting := true }) s0
      if isDc i then raisePick (0x141 + i.val) 0x13 0 (latchEic (133 + i.val) s1) else s1
    else s0)

/-- A path opened by the expiry of its limiter (R124, R338): a bounce is counted and the source qualifies afresh. -/
def limiterOpen (i : Fin 4) (s : State) : State :=
  let x := srcAt i s
  let before := orMembers s
  let s1 := pathOff i (when_ (!linkRuns s) (hwLost i) s)
  if !linkRuns s then s1
  else
    let s2 := bounce i s1
    let s3 := if (srcAt i s2).st = .quarantined || (srcAt i s2).st = .disabled then s2 else startQual i s2
    match s.path.link with
    | .source => applyOr before 0x06 s3
    | .return =>
      if x.st = .ramping then returnCheck (transfer .battery .return 0xF i.val 0x06 (setLink .battery s3)) else s3
    | .handover => handoverCheck s3
    | _ => s3

/-- SRC_LIMIT_EXPIRED (R122, R124). -/
def execSrcLimitExpired (d : Fin 2) (s : State) : Out :=
  let i := dcSrc d
  .next (if frameOn s && (srcAt i s).limiting then
      let s1 := raisePick (0x141 + d.val) 0x14 0 (latchEic (133 + d.val) s)
      if pn Pid.SRC_LIN_EXPIRE s = 1 then limiterOpen i s1
      else onSrc i (fun y => { y with limiting := false, released := true }) s1
    else s)

end Sys2Proof.Machine
end

