-- ==== Sys2Proof/Machine/PdOps.lean ====
section
/-! DEFINITION. The USB ports' shared operations: the linked channel, offered PDOs, capabilities, attach and unattached states,
Hard Reset, error recovery, protection reactions (R321 to R346). -/

namespace Sys2Proof.Machine

/-- Change a port. -/
def onPdp (u : Fin 2) (f : PdPort → PdPort) (s : State) : State :=
  s.onPd (fun q => if u.val = 0 then { q with a := f q.a } else { q with b := f q.b })

/-- The linked channel: PDx.VR. -/
def pdChan (u : Fin 2) (s : State) : Option (Fin 12) :=
  let v := pn (Pid.PD_VR u.val) s
  if h : v < 12 then some ⟨v, h⟩ else none

/-- EIC sources of a port: CC change, protection, VBUS comparator (R471). -/
def pdEic (u : Fin 2) (k : Nat) : Nat := 188 + k + 3 * u.val

/-- PDx.STATE codes (R325). -/
def TcState.code : TcState → Nat
  | .disabled => 0x0
  | .unattachedSnk => 0x1
  | .attachWaitSnk => 0x2
  | .attachedSnk => 0x3
  | .unattachedSrc => 0x4
  | .attachWaitSrc => 0x5
  | .attachedSrc => 0x6
  | .trySrc => 0x7
  | .tryWaitSnk => 0x8
  | .trySnk => 0x9
  | .tryWaitSrc => 0xA
  | .errorRecovery => 0xB
  | .locked => 0xC

/-- The port is attached; a port keeps its attached state's name through a PR_Swap as its power role says. -/
def PdPort.attached (x : PdPort) : Bool := x.st == .attachedSnk || x.st == .attachedSrc
/-- The power role in the codes of PD_STATUS: 0 none, 1 source, 2 sink. -/
def PdPort.role (x : PdPort) : Nat := if !x.attached then 0 else if x.source then 1 else 2

/-! ### The linked channel (R326, R328, R335) -/

/-- The PD core writes a channel's set point: a running channel slews, another starts from it (R335). -/
def setChan (c : Fin 12) (mv : Nat) (s : State) : State :=
  if s.pwr.vr[c].st.running then slewTo c mv s
  else s.onPwr (fun w => { w with vr := vmod w.vr c (fun x => { x with setMv := mv, att := attFor c mv s }) })

/-- The linked channel is enabled at 5000 mV (R326). -/
def chanFive (u : Fin 2) (s : State) : State :=
  match pdChan u s with
  | none => s
  | some c => onPdp u (fun x => { x with chanOn := true }) (enableRail (.vr c) (setChan c 5000 s)).1

/-- The linked channel is disabled, with its active discharge (R328). -/
def chanDown (u : Fin 2) (s : State) : State :=
  match pdChan u s with
  | none => s
  | some c => onPdp u (fun x => { x with chanOn := false }) (disableRail (.vr c) s)

/-- PG of the linked channel. -/
def chanPg (u : Fin 2) (s : State) : Bool := (pdChan u s).any (fun c => s.pwr.vr[c].pg)

/-! ### The sink path as a link source (R327, R337, R343) -/

/-- A port's voltage V of R337. -/
def PdPort.volts (x : PdPort) : Nat := if x.pos = 0 then 5000 else x.mv

/-- The limit by the partner's Rp (R327). -/
def rpMa : RpLevel → Nat
  | .dflt => 500
  | .a15 => 1500
  | .a30 => 3000

/-- The sink path leaves the OR: a window exit, a bounce when it counts as one (R337, R343). -/
def sinkOut (u : Fin 2) (counts : Bool) (s : State) : State :=
  let i := usbSrc u
  if (srcAt i s).inWin || (srcAt i s).gate || counts then
    latchEic (126 + i.val) (srcExit i counts (pathOffKeep i s))
  else s
where
  /-- The sink pair's gate goes off before the link state machine judges the exit. -/
  pathOffKeep (i : Fin 4) (s : State) : State := onSrc i (fun x => { x with gate := false }) s

/-! ### Offered PDOs (R330 to R334) -/

/-- Word `k` of PDx.SRC_PDO. -/
def pdoWord (u : Fin 2) (k : Nat) (s : State) : Nat := (pvw (Pid.PD_SRC_PDO u.val) k s).toNat
/-- VALID. -/
def pdoValid (u : Fin 2) (k : Nat) (s : State) : Bool := (pdoWord u k s).testBit 31
/-- Voltage of a word, mV. -/
def pdoMv (u : Fin 2) (k : Nat) (s : State) : Nat := ((pdoWord u k s / 1024) % 1024) * 50

/-- The current at which word `k` is offered now, mA; `none`: not offered (R330 to R334). -/
def offered (u : Fin 2) (k : Nat) (s : State) : Option Nat :=
  let x := pdPort u s
  let v := pdoMv u k s
  let epr := decide (7 ≤ k)
  if !pdoValid u k s || v = 0 || x.withdrawn.getLsbD k || (epr && !(x.epr && x.cableEpr && pb (Pid.PD_EPR_EN u.val) s)) then none
  else
    let l := [(pdoWord u k s % 1024) * 10, pn (Pid.PD_SRC_MAX_MW u.val) s * 1000 / v] ++
      (if x.throttled then [pn Pid.THERM_PD_THROT_MW s * 1000 / v] else []) ++ (if x.cable5a then [] else [3000])
    let ma := (l.foldl min 65535) / 10 * 10
    if ma < 500 && k ≠ 0 then none else some ma

/-- The offered list: word indices and currents. -/
def offeredList (u : Fin 2) (s : State) : List (Nat × Nat) :=
  (List.range 11).filterMap (fun k => (offered u k s).map (fun ma => (k, ma)))

/-- The offered PDOs as they are sent: the EPR Mode Capable bit stands in the 5 V PDO (R330). -/
def sentPdos (u : Fin 2) (s : State) : List SentPdo :=
  (offeredList u s).map (fun o =>
    { pos := o.1 + 1, mv := pdoMv u o.1 s, ma := o.2, dualRolePower := pn (Pid.PD_ROLE u.val) s == 0, unconstrained := false,
      usbComm := false, dualRoleData := true, eprCapable := o.1 == 0 && pb (Pid.PD_EPR_EN u.val) s })

/-- Send the source capabilities; a valid request is then awaited (R330 to R332). -/
def sendCaps (u : Fin 2) (s : State) : State :=
  let l := sentPdos u s
  onPdp u (fun x => { x with sent := if x.epr then .eprSourceCaps else .sourceCaps, awaitReq := true, offer := l }) s

/-- After a change: a source whose offered list differs from `old` sends it (R331, R333). -/
def capsChanged (u : Fin 2) (old : List (Nat × Nat)) (s : State) : State :=
  let x := pdPort u s
  if s.pd.coreRuns && x.st == .attachedSrc && x.source && x.gsrc && offeredList u s ≠ old then sendCaps u s else s

/-- Throttling of a port by the zones begins or ends (R311, R333). -/
def pdThrottle (u : Fin 2) (b : Bool) (s : State) : State :=
  if (pdPort u s).throttled == b then s
  else capsChanged u (offeredList u s) (onPdp u (fun x => { x with throttled := b }) s)

/-! ### The sink's request (R336) -/

/-- Power of a choice at a current, mW x 1000. -/
def capPow (mv ma : Nat) : Nat := mv * ma

/-- The better of two candidates (pos, mV, mA): higher power, then higher voltage (R336). -/
def better (a b : Nat × Nat × Nat) : Nat × Nat × Nat :=
  let pa := capPow a.2.1 a.2.2
  let pb := capPow b.2.1 b.2.2
  if pa < pb || (pa == pb && a.2.1 < b.2.1) then b else a

/-- The best of a list. -/
def bestOf : List (Nat × Nat × Nat) → Option (Nat × Nat × Nat)
  | [] => none
  | a :: l => some (l.foldl better a)

/-- The request for the stored offer: position, mV, mA, mismatch and PPS (R336). -/
def chooseRequest (u : Fin 2) (s : State) : (Nat × Nat × Nat) × Bool × Bool :=
  let x := pdPort u s
  let lo := pn (Pid.PD_SNK_VMIN_MV u.val) s
  let hi := pn (Pid.PD_SNK_VMAX_MV u.val) s
  let top := min (pn (Pid.PD_SNK_IMAX_MA u.val) s) (if x.cable5a then 5000 else 3000)
  let fixed := x.caps.filterMap (fun o =>
    if o.kind = .fixed && decide (lo ≤ o.maxMv ∧ o.maxMv ≤ hi) && (x.epr || decide (o.pos ≤ 7)) then
      some (o.pos, o.maxMv, min o.ma top) else none)
  let pps := x.caps.filterMap (fun o =>
    let v := min o.maxMv hi
    if o.kind = .pps && decide (max o.minMv lo ≤ v) then some (o.pos, v, min o.ma top) else none)
  let low := fun (c : Nat × Nat × Nat) => decide (capPow c.2.1 c.2.2 < pn (Pid.PD_SNK_PMIN_MW u.val) s * 1000)
  match bestOf fixed with
  | some c => (c, low c, false)
  | none =>
    match (if pb (Pid.PD_PPS_EN u.val) s then bestOf pps else none) with
    | some c => (c, low c, true)
    | none =>
      let five := (x.caps.find? (fun o => o.pos == 1)).elim (1, 5000, top) (fun o => (o.pos, 5000, min o.ma top))
      (five, true, false)

/-- Send the request chosen from the stored offer. -/
def sendRequest (u : Fin 2) (s : State) : State :=
  let r := chooseRequest u s
  onPdp u (fun x => { x with pend := some r.1, mismatch := r.2.1, pps := r.2.2, slewed := false, hrSnk := false,
                             sent := if x.epr then .eprRequest else .request }) s

/-! ### States (R325, R326, R344) -/

/-- Service mode ends (R347). -/
def svcEnd (u : Fin 2) (s : State) : State :=
  if (pdPort u s).svc then raiseEvent 0x8007 0 (onPdp u (fun x => { x with svc := false }) s) else s

/-- No contract, EPR mode or swap any more. -/
def dropContract (u : Fin 2) (s : State) : State :=
  svcEnd u (onPdp u (fun x =>
    { x with pos := 0, mv := 0, ma := 0, pend := none, slewed := false, epr := false, awaitReq := false, swap := none,
             swapOk := false, held := false, pps := false, mismatch := false, caps := [], offer := [] }) s)

/-- The port asks a dual-role partner for a PR_Swap: as source, once VLINK is below 9 V + PD.HR_MV (R341). -/
def askPrSwap (u : Fin 2) (vlink : Nat) (s : State) : State :=
  let x := pdPort u s
  if s.pd.coreRuns && x.st == .attachedSrc && x.source && x.gsrc && x.swap.isNone && x.partnerDrp &&
      decide (vlink < 9000 + pn Pid.PD_HR_MV s) then
    onPdp u (fun x => { x with swap := some .pr, swapOk := false, sent := .prSwap }) s
  else s

/-- The port can source: it has a linked channel (R325). -/
def canSource (u : Fin 2) (s : State) : Bool := (pdChan u s).isSome

/-- The unattached state of PDx.ROLE (R325). -/
def idleState (u : Fin 2) (s : State) : TcState × CcDrive :=
  let r := pn (Pid.PD_ROLE u.val) s
  if r = 3 then (.disabled, .open_)
  else if r = 2 && canSource u s then (.unattachedSrc, .rp)
  else (.unattachedSnk, .rd)

/-- Everything about an attachment ends; the cable and the partner are gone. -/
def detachFields (x : PdPort) : PdPort :=
  { x with vconn := false, vconnOc := false, source := false, dfp := false, vconnSrc := false, rp := .dflt, cable5a := false,
           cableEpr := false, partnerDrp := false, ra := false, hardResets := 0, hrCount := 0, hrSrc := false, hrSnk := false, sent := .none_, chanOn := false }

/-- Enter the unattached state. -/
def unattached (u : Fin 2) (s : State) : State :=
  let i := idleState u s
  onPdp u (fun x => { detachFields x with st := i.1, cc := i.2 }) (dropContract u s)

/-- VBUS of a source is discharged through the pair (R328): the pair stays on and the channel pulls VBUS down. -/
def srcDischarge (u : Fin 2) (s : State) : State :=
  chanDown u (onPdp u (fun x => { x with discharging := x.gsrc }) s)

/-- Leave an attached role: the sink path leaves the link as a bounce, or the source discharges VBUS (R328, R337). -/
def leaveRole (u : Fin 2) (s : State) : State :=
  let x := pdPort u s
  if x.st == .attachedSnk then sinkOut u true s
  else if x.st == .attachedSrc then srcDischarge u s
  else s

/-- ERROR_RECOVERY: CC pins open and gates off, but for a source pair that discharges VBUS (R328, R344). -/
def errorRecovery (u : Fin 2) (s : State) : State :=
  let s1 := dropContract u (leaveRole u s)
  latchEic (pdEic u 0) (onPdp u (fun x => { detachFields x with st := .errorRecovery, cc := .open_ }) s1)

/-- LOCKED (R340): CC pins open, gates and VCONN off. -/
def lockPort (u : Fin 2) (s : State) : State :=
  let s1 := dropContract u (leaveRole u s)
  raisePickEv (0x1C0 + u.val) 0x15 0 (some (0x8006, 0))
    (onPdp u (fun x => { detachFields x with st := .locked, cc := .open_, gsrc := false, discharging := false }) s1)

/-- A Hard Reset is sent or received (R332, R337, R344). -/
def hardReset (u : Fin 2) (sent : Bool) (s : State) : State :=
  let x := pdPort u s
  if !x.attached then s
  else
    let src := if x.swap = some .pr then x.att0.1 else x.source
    let s1 := if x.st == .attachedSnk then sinkOut u true s else s
    let s2 := onPdp u (fun y => if x.swap = some .pr then
      { y with source := x.att0.1, dfp := x.att0.2.1, vconnSrc := x.att0.2.2,
               vconn := x.att0.2.2 && (if x.vconnSrc then y.vconn else !y.vconnOc),
               st := if x.att0.1 then .attachedSrc else .attachedSnk } else y) s1
    let s3 := onPdp u (fun y => { y with hardResets := y.hardResets + 1, hrCount := y.hrCount + 1,
                                         sent := if sent then .hardReset else y.sent }) (dropContract u s2)
    if 2 < (pdPort u s3).hrCount then
      raisePickEv (0x1C0 + u.val) 0x14 0 (some (0x8005, 0)) (errorRecovery u s3)
    else if src then
      chanDown u (onPdp u (fun y => { y with hrSrc := true, gsrc := y.gsrc || x.swap == some .pr }) s3)
    else
      onPdp u (fun y => { y with hrSnk := true, gsrc := false, cc := .rd }) (when_ (decide (x.swap = some .pr)) (chanDown u) s3)

/-- A protection reaction of R339: its pick and event, and LOCKED after PDx.FAULT_MAX of them in 60 s (R340); else `go`. -/
def pdFault (u : Fin 2) (kind : Nat) (go : State → State) (s : State) : State :=
  let l := recentUs 60000000 s.sys.devTime (pdPort u s).faults ++ [s.sys.devTime]
  let s1 := raisePickEv (0x1C0 + u.val) kind 0 (some (0x8005, 0)) (latchEic (pdEic u 1) (onPdp u (fun x => { x with faults := l }) s))
  if pn (Pid.PD_FAULT_MAX u.val) s ≤ l.length then lockPort u s1 else go s1

/-- The cause of PD_LOCKED is gone (R340): VBUS below 0.8 V for 1 s. -/
def lockGone (u : Fin 2) (s : State) : Bool :=
  ((pdPort u s).lowSince).any (fun t => decide (t + 1000000 ≤ s.sys.devTime))

/-- An accepted FAULT_CLEAR of PD_LOCKED: the port returns to its unattached state (R340). -/
def lockCleared (u : Fin 2) (s : State) : State :=
  if (pdPort u s).st = .locked then unattached u (onPdp u (fun x => { x with faults := [] }) s) else s

/-- Take VBUS as last read; the time below 0.8 V counts for R340. -/
def noteVbus (u : Fin 2) (mv : Nat) (s : State) : State :=
  onPdp u (fun x => { x with vbus := mv, lowSince := if mv < 800 then some (x.lowSince.getD s.sys.devTime) else none }) s

/-- A reset of the PD core resets the port logic (R53, R345): gates off and CC pins open at once; a sink path leaves the OR,
a linked channel is carried over behind the open pair. -/
def pdReset (s : State) : State :=
  let one := fun (u : Fin 2) (t : State) =>
    let x := pdPort u t
    let t1 := svcEnd u (if x.st == .attachedSnk then sinkOut u true t else t)
    onPdp u (fun y => { vbus := y.vbus, lowSince := y.lowSince, throttled := y.throttled }) t1
  (foldS one (allFin 2) s).onPd (fun q => { q with coreRuns := false })

end Sys2Proof.Machine
end

