-- ==== Sys2Proof/Machine/Por.lean ====
section
/-! DEFINITION. Power-on reset as one operation (R20, R43, R44, R54), and what ends a general switch-off of the rails
(R20, R57, R313). -/

namespace Sys2Proof.Machine

/-- START entries among the staged ones of the event log (R410). -/
def LogRing.stagedStarts (l : LogRing) : Nat :=
  (newest l.staged l.entries).countP (fun e => (e.getD 0 0).setWidth 16 == 0#16)

/-- The NVM at a loss of the retained memory: log entries not yet written are lost, a START entry with its run number too (R29, R407,
R410). -/
def Nvm.loseStaged (n : Nvm) : Nvm :=
  { n with test := n.test.lose, caddy := n.caddy.lose, event := n.event.lose, learnedDirty := false,
           run := n.run - n.event.stagedStarts }

/-- POR is asserted with a cause, code of RSTCAUSE.LAST: everything takes its POR value but what outlives power and the
voltages outside (R20, R44, R54). Start-up waits for POR_RELEASE. -/
def assertPor (cause : Nat) (s : State) : State :=
  let r := State.reset
  { r with
    sys := { r.sys with free := s.sys.free, porActive := true, porCause := cause, inReset := true, sup := s.sys.sup,
                        frameRun := false, rstBits := 0 },
    path := { r.path with vlink := s.path.vlink, vbat := s.path.vbat, ibat := s.path.ibat },
    store := { s.store with par := {}, nvm := s.store.nvm.loseStaged, otp := { s.store.otp with shadow := [] },
                            fw := { flash := s.store.fw.flash, prog := s.store.fw.prog }, res := {} },
    pending := s.pending }

/-- The last rail has fallen: the die shutdown stops the regulation part of the Power Frame (R20, R313), and the long form
of RESET_N ends in POR (R57). -/
def afterRailFall (s : State) : State :=
  if !allRailsOff s then s
  else
    let s1 := when_ s.sys.dieStopping (State.onSys (fun y => { y with dieStopping := false, regStopped := true })) s
    if s1.sys.rstnLong then assertPor 4 s1 else s1

end Sys2Proof.Machine
end

