-- ==== Sys2Proof/Machine/Therm.lean ====
section
/-! DEFINITION. Temperature: a sensor's reads, level flags and rate, the zone votes and their actions, the die trip, and the
rows of chapter 10 (R303 to R319). -/

namespace Sys2Proof.Machine

/-- Change a sensor. -/
def onSens (i : Fin 12) (f : Sensor → Sensor) (s : State) : State := s.onTherm (fun t => { t with sens := vmod t.sens i f })

/-- Change a zone; 8 is the die zone. -/
def onZone (z : Fin 9) (f : Zone → Zone) (s : State) : State := s.onTherm (fun t => { t with zone := vmod t.zone z f })

/-- The acquisition runs: its clock is locked and it is in no reset (R45, R411). -/
def acqRuns (s : State) : Bool :=
  s.sys.boot.acqLocked && !s.sys.inReset && !s.sys.pfHeld && (s.sys.power == .run || s.sys.power == .doze)

/-- TSNSn.KIND of a sensor code; a die sensor is 3 here. -/
def sensKind (i : Fin 12) (s : State) : Nat := if i.val < 4 then 3 else pn (Pid.TSNS_KIND (i.val - 4)) s

/-! ### Actions of the zones -/

/-- The parameters ACT and CHG_PCT of a zone. -/
def zoneAct (z : Fin 9) (s : State) : Nat := if z.val = 8 then pn Pid.THERM_DIE_ACT s else pn (Pid.THERM_Z_ACT z.val) s
/-- CHG_PCT of a zone. -/
def zonePct (z : Fin 9) (s : State) : Nat := if z.val = 8 then pn Pid.THERM_DIE_CHG_PCT s else pn (Pid.THERM_Z_CHG_PCT z.val) s

/-- The zones at THROTTLE whose ACT has bit `k`. -/
def throttlers (k : Nat) (s : State) : List (Fin 9) :=
  (allFin 9).filter (fun z => s.therm.zone[z].throt && (zoneAct z s).testBit k)

/-- The throttle actions are brought to what the zones ask for (R311). -/
def throttleActions (s : State) : State :=
  let pct := ((throttlers 0 s).map (fun z => zonePct z s)).foldl min 100
  let s1 := if s.chg.throtPct = pct then s else s.onChg (fun c => { c with throtPct := pct })
  pdThrottle 1 (!(throttlers 2 s).isEmpty) (pdThrottle 0 (!(throttlers 1 s).isEmpty) s1)

/-- Rails go off by a thermal shutdown: all of them first, then each group and waiting command reacts (R210, R216, R312). -/
def thermOff (rails : List Rail) (s : State) : State :=
  let on := rails.filter (fun r => railEnabled r s || railHeld r s)
  foldS (fun r t => railFault r 4 t) on (foldS disableRail rails s)

/-- The rails of a zone: THERM.Zz.RAILS (R312). -/
def zoneRails (z : Nat) (s : State) : List Rail :=
  (List.range 48).filterMap (fun r => if (pn64 (Pid.THERM_Z_RAILS z) s).testBit r then railOf r else none)

/-- A zone's latch sets (R312, R314). -/
def zoneShutdown (z : Fin 9) (s : State) : State :=
  let s1 := onZone z (fun x => { x with latch := true }) s
  if z.val < 8 then thermOff (zoneRails z.val s) s1 else s1

/-- The die shutdown: the die latch, every rail off with its discharge, the charger idle; the Power Frame stops when the last
rail is down (R20, R313). -/
def dieShutdown (s : State) : State :=
  if (vgetD {} s.therm.zone 8).latch then s
  else
    let s1 := (zoneShutdown 8 s).onSys (fun y => { y with dieStopping := true })
    let s2 := chgDrive (thermOff allRails s1)
    afterRailFall (pathPor s2)

/-! ### Votes (R308 to R310) -/

/-- Whether a vote holds: `k` 0 WARN, 1 THROTTLE, 2 SHUTDOWN (R308). -/
def zoneVote (z : Nat) (k : Nat) (s : State) : Bool :=
  let m := zoneSens z s
  let flag := fun (i : Nat) => let x := vgetD ({} : Sensor) s.therm.sens i
    if k = 0 then x.warn else if k = 1 then x.throt else x.shut
  if m.isEmpty then false
  else if k < 2 then m.any flag
  else if z = 8 then decide (2 ≤ (m.filter flag).length)
  else m.all flag

/-- The pick source of a zone (R310). -/
def zoneSrc (z : Nat) : Nat := if z = 8 then 0x1A0 else 0x1A8 + z

/-- A zone level changes: pick, host event, EIC source (R310, R469, R471). -/
def levelChange (z k : Nat) (b : Bool) (s : State) : State :=
  let s1 := latchEic (if z = 8 then 144 else 145 + z) s
  raisePickEv (zoneSrc z) (0x10 + k) (32768 * b01 b)
    (some (0x7001 + k, w32 (2147483648 * b01 b + (if z = 8 then 0xF else z)))) s1

/-- One evaluation of a zone: every level whose vote has changed, its report and its actions (R308 to R313). -/
def zoneEval (z : Fin 9) (s : State) : State :=
  let x := s.therm.zone[z]
  let w := zoneVote z.val 0 s
  let t := zoneVote z.val 1 s
  let d := zoneVote z.val 2 s
  let s1 := onZone z (fun y => { y with warn := w, throt := t, shut := d }) s
  let s2 := when_ (x.warn != w) (levelChange z.val 0 w) s1
  let s3 := when_ (x.throt != t) (levelChange z.val 1 t) s2
  let s4 := when_ (x.shut != d) (levelChange z.val 2 d) s3
  if d && !x.shut then (if z.val = 8 then dieShutdown s4 else zoneShutdown z s4) else s4

/-- The zone of a sensor. -/
def sensZone (i : Fin 12) (s : State) : Option (Fin 9) := (allFin 9).find? (fun z => (zoneSens z.val s).contains i.val)

/-- The vote of a sensor's zone follows its flags, and the throttle actions follow the votes (R309, R311). -/
def voteOf (i : Fin 12) (s : State) : State :=
  match sensZone i s with
  | none => s
  | some z => throttleActions (zoneEval z s)

/-! ### One read of a sensor (R303 to R307) -/

/-- The temperature of an NTC, 0.1 degC, from its pin at `v` in 1/8 LSB of 0.3 mV under a reference of 1.2 V (R303): a shorted pin reads
hot, an open one cold. -/
def ntcC10 (v : Int) (r25 beta : Nat) : Int :=
  if v ≤ 0 then 32767
  else if 32000 ≤ v then -32768
  else
    -- ln(R / R25_OHM) with R = 10 000 V / (V_ref - V)
    let l := lnFix (10000 * v.toNat) ((32000 - v).toNat * r25)
    let d : Int := 100 * beta * 2 ^ 64 + 29815 * l
    if d ≤ 0 then 32767 else rdiv (596300 * beta * 2 ^ 64 - 5463 * d) (2 * d)

/-- The temperature of a diode, 0.1 degC, from the difference of its forward voltages in 1/8 LSB of 0.3 mV (R303): q / (k ln 10) is
5039.778 K/V. -/
def diodeC10 (v : Int) (ideal : Nat) : Int := rdiv (v * 375 * 5039778 - 27315 * 100000 * (ideal : Int)) (1000000 * ideal)

/-- The temperature a read of a sensor gives: by its TSNSn.KIND, and for a die sensor what the VENDOR trims make of the code, which the
manual leaves to them (R303, R304). -/
def readC10 (i : Fin 12) (r : InputResult) (s : State) : Int :=
  match sensKind i s with
  | 1 => ntcC10 r.value.toInt (pn (Pid.TSNS_R25_OHM (i.val - 4)) s) (pn (Pid.TSNS_BETA (i.val - 4)) s)
  | 2 => diodeC10 r.value.toInt (pn (Pid.TSNS_IDEAL (i.val - 4)) s)
  | _ => r.tempC10

/-- A read is bad (R305): NTC pin open or shorted, diode voltage or temperature out of range. -/
def badRead (i : Fin 12) (r : InputResult) (s : State) : Bool :=
  let v := r.value.toInt
  let c := readC10 i r s
  let range := decide (c < -550 ∨ 2000 < c)
  match sensKind i s with
  | 1 => range || decide (31680 ≤ v ∨ v < 320)
  | 2 => range || decide (r.vfMv < 200 ∨ 900 < r.vfMv)
  | _ => range

/-- A level flag after a reading: sets at the level, clears below it by the hysteresis (R306). -/
def levelFlag (old : Bool) (c lvl hyst : Int) : Bool := if lvl ≤ c then true else if c < lvl - hyst then false else old

/-- A sensor becomes broken (R305 to R307). -/
def sensBroken (i : Fin 12) (s : State) : State :=
  let x := s.therm.sens[i]
  let s1 := onSens i (fun x => { x with broken := true, good := false, warn := true, throt := true, shut := true, fast := true,
                                        c10 := none, bad := 2 }) s
  let s2 := latchEic 154 (when_ (!x.fast) (latchEic 155) s1)
  raisePickEv (0x1B0 + i.val) 0x13 0 (some (0x7004, w32 (2147483648 + i.val))) s2

/-- A good read of a healthy sensor: flags and rate (R306, R307). -/
def sensGood (i : Fin 12) (c : Int) (s : State) : State :=
  let x := s.therm.sens[i]
  let l := fun k => x.levels.getD k 0
  let fast := levelFlag x.fast c (l 1 - 100) (l 4)
  when_ (x.fast != fast) (latchEic 155) (onSens i (fun x =>
    { x with c10 := some c, bad := 0, warn := levelFlag x.warn c (l 0) (l 3), throt := levelFlag x.throt c (l 1) (l 4),
             shut := levelFlag x.shut c (l 2) (l 5), fast := fast }) s)

/-- One read of a sensor by the round engine: broken detection, flags, rate and votes (R305 to R311). A first bad read still
counts as a reading. -/
def sensorRead (i : Fin 12) (r : InputResult) (s : State) : State :=
  let x := s.therm.sens[i]
  if sensKind i s = 0 then onSens i (fun x => { x with c10 := none }) s
  else if badRead i r s then
    if x.broken then onSens i (fun x => { x with good := false }) s
    else if x.bad = 0 then voteOf i (onSens i (fun x => { x with bad := 1 }) (sensGood i (readC10 i r s) s))
    else voteOf i (sensBroken i s)
  else if x.broken then onSens i (fun x => { x with good := true }) s
  else voteOf i (sensGood i (readC10 i r s) s)

/-- SENSOR_HEALTHY (R305, R306): after 1 s of good reads; the flags stay until the next read. -/
def execSensorHealthy (i : Fin 12) (s : State) : Out :=
  let x := s.therm.sens[i]
  .next (if x.broken && x.good && acqRuns s then
      raiseEvent 0x7004 (w32 i.val) (latchEic 154 (onSens i (fun x => { x with broken := false, good := false, bad := 0 }) s))
    else s)

/-- The Power Frame's die comparators that `mask` sets, 2 of 4 for the deglitch time, trip (R313). -/
def execDieTrip (mask : BitVec 4) (s : State) : Out :=
  let s0 := s.onTherm (fun t => { t with dieCmp := mask })
  let n := ((List.range 4).filter (fun k => mask.getLsbD k)).length
  .next (if n < 2 || s.sys.porActive || !s.sys.frameRun || (vgetD {} s.therm.zone 8).latch then s0
    else
      dieShutdown (raisePickEv 0x1A0 0x12 0x8000 (some (0x7003, w32 (2147483648 + 0xF))) (latchEic 153 s0)))

/-- The levels of a sensor as the parameters stand (R306, R318). -/
def paramLevels (i : Fin 12) (s : State) : List Int :=
  if i.val < 4 then
    [pv Pid.THERM_DIE_WARN s, pv Pid.THERM_DIE_THROT s, pv Pid.THERM_DIE_SHUT s, pv Pid.THERM_DIE_WARN_HYST s,
     pv Pid.THERM_DIE_THROT_HYST s, pv Pid.THERM_DIE_SHUT_HYST s]
  else
    let n := i.val - 4
    [pv (Pid.TSNS_WARN n) s, pv (Pid.TSNS_THROT n) s, pv (Pid.TSNS_SHUT n) s, pv (Pid.TSNS_WARN_HYST n) s,
     pv (Pid.TSNS_THROT_HYST n) s, pv (Pid.TSNS_SHUT_HYST n) s]

/-- SH5 writes a sensor's raw codes (R319). -/
def writeLevels (i : Fin 12) (s : State) : State := onSens i (fun x => { x with levels := paramLevels i s }) s

/-- THRESHOLD_RAW_WRITE (R28, R319). -/
def execThresholdRawWrite (i : Fin 12) (s : State) : Out := .next (if shRuns 5 s then writeLevels i s else s)

/-- The round engine restarts (R316): levels, fast set and broken states restart clear and the throttle actions end; latches
stay. -/
def thermRestart (s : State) : State :=
  throttleActions (s.onTherm (fun t =>
    { t with sens := vmap (fun x => { levels := x.levels }) t.sens, zone := vmap (fun z => { latch := z.latch }) t.zone }))

end Sys2Proof.Machine
end

