-- ==== Sys2Proof/Machine/AcqOps.lean ====
section
/-! DEFINITION. The acquisition's shared operations: slices and their grants, capture records, the reference, round results
and their comparisons, resets of the subsystem (R273 to R300). -/

namespace Sys2Proof.Machine

/-- Change a capture slot. -/
def onCap (k : Fin 8) (f : CapSlot → CapSlot) (s : State) : State := s.onAcq (fun a => { a with slot := vmod a.slot k f })

/-- Change a crossing comparator. -/
def onCc (c : Fin 32) (f : Crossing → Crossing) (s : State) : State := s.onAcq (fun a => { a with cc := vmod a.cc c f })

/-! ### Descriptors (R273, R294, R297) -/

/-- The pool of host capture slots, bytes (R293). -/
def poolSize : Nat := 265728

/-- Bytes of a record of `n` samples (R294). -/
def recBytes (n : Nat) : Nat := 64 * (1 + (n + 31) / 32)

/-- The bits of a mask below `n`, lowest first. -/
def maskBitList (n mask : Nat) : List Nat := (List.range n).filter (fun k => mask.testBit k)

/-- Slices per input (R273). -/
def CapDesc.spi (d : CapDesc) : Nat := if d.mode = 0 then 1 else if d.mode = 1 then 4 else 16

/-- The slice mask of each input, in byte order (R297). -/
def CapDesc.inputSlices (d : CapDesc) : List Nat :=
  if d.mode = 0 then (maskBitList 16 d.mask).map (fun k => 2 ^ k)
  else if d.mode = 1 then (maskBitList 4 d.mask).map (fun g => 15 * 16 ^ g)
  else [0xFFFF]

/-- All slices of a descriptor. -/
def CapDesc.slices (d : CapDesc) : Nat := d.inputSlices.foldl (· ||| ·) 0

/-- The payload of CAPTURE_ARM as a descriptor (R297). -/
def parseDesc (x : Slot) : CapDesc :=
  let w := (x.word 1).toNat
  let m := (x.word 3).toNat
  let mode := (w / 16) % 4
  { mode := mode, urgent := w.testBit 6, rearms := (w / 256) % 16, trig := (w / 4096) % 4, trigNo := (w / 65536) % 32,
    inputs := ((bytesLe (x.word 2)).map (·.toNat)).filter (fun b => b ≠ 0xFF),
    mask := if mode = 0 then m % 65536 else if mode = 1 then m % 16 else 0,
    dec := (x.word 4).toNat % 8192, pre := (x.word 5).toNat, n := (x.word 6).toNat }

/-- The descriptor is malformed (R296, R297). -/
def CapDesc.malformed (d : CapDesc) : Bool :=
  d.mode == 3 || d.dec == 0 || decide (4096 < d.dec) || d.inputs.isEmpty || d.inputs.any (fun c => decide (0x70 ≤ c)) ||
    d.inputs.length != d.inputSlices.length || decide (d.n ≤ d.pre) || (d.mode == 2 && d.pre != 0) ||
    (d.trig == 1 && decide (4 ≤ d.trigNo))

/-- The protected slices (R278). -/
def protectedMask (s : State) : Nat := (2 ^ pn Pid.ACQ_ROUND_SLICE s) ||| pn Pid.ACQ_RING_SLICES s

/-- Masks share a slice. -/
def overlap (a b : Nat) : Bool := decide (a &&& b ≠ 0)

/-- The descriptor breaks R280: it names a protected slice, and is neither URGENT without pre-trigger samples nor GANG, or is
longer than ACQ.GANG_MAX_US. -/
def breaksR280 (d : CapDesc) (s : State) : Bool :=
  overlap d.slices (protectedMask s) &&
    (!(d.mode == 2 || (d.urgent && d.pre == 0)) ||
      decide (pn Pid.ACQ_GANG_MAX_US s * d.spi * 480 < d.n * d.dec * 16 * (1 + b01 (pb Pid.ACQ_RATE_HALF s))))

/-- Bytes of the pool that slots other than `k` leave free. -/
def poolFree (k : Nat) (s : State) : Nat :=
  poolSize - (s.acq.slot.toList.mapIdx (fun j x => if j = k then 0 else x.bytes)).sum

/-- The slot runs a record now, or with pre-trigger samples holds its slices while armed (R297). -/
def CapSlot.holds (x : CapSlot) : Bool :=
  !x.waiting && (x.st == .running || (x.st == .armed && x.desc.any (fun d => d.pre != 0)))

/-- Slices that a slot holds. -/
def CapSlot.held (x : CapSlot) : Nat := if x.holds then x.desc.elim 0 CapDesc.slices else 0

/-- The slot's descriptor is URGENT. -/
def CapSlot.urgent (x : CapSlot) : Bool := x.desc.any (·.urgent)

/-! ### Grants (R278 to R280) -/

/-- Conversions can be made: the reference has settled and the clock runs (R283, R285). -/
def converting (s : State) : Bool := acqRuns s && s.acq.settled

/-- The round slice as a mask. -/
def roundMask (s : State) : Nat := 2 ^ pn Pid.ACQ_ROUND_SLICE s

/-- The request of slot `k` can be granted now: no request of equal or higher priority holds one of its slices, and within a
running round no other capture has taken protected slices (R278, R280). -/
def grantable (k : Fin 8) (s : State) : Bool :=
  let x := s.acq.slot[k]
  match x.desc with
  | none => false
  | some d =>
    converting s &&
    (allFin 8).all (fun j => j == k || !(overlap s.acq.slot[j].held d.slices) || (d.urgent && !s.acq.slot[j].urgent)) &&
    (d.urgent || (!(s.acq.running && overlap d.slices (roundMask s)) &&
      !(s.acq.rings && overlap d.slices (pn Pid.ACQ_RING_SLICES s)))) &&
    !(s.acq.running && s.acq.protUsed && overlap d.slices (protectedMask s))

/-- A slot's request waits. -/
def waitSlot (k : Fin 8) (s : State) : State :=
  onCap k (fun x => { x with waiting := true, delayed := true, refHeld := x.refHeld || !s.acq.settled }) s

/-- A new request of a slot, numbered in order of arrival. -/
def newRequest (k : Fin 8) (s : State) : State :=
  let s1 := onCap k (fun x => { x with order := s.acq.nextOrder, trigAt := s.sys.devTime }) s
  waitSlot k (s1.onAcq (fun a => { a with nextOrder := a.nextOrder + 1 }))

/-- A capture loses its slices: the record is discarded whole and the slot re-arms with its descriptor, using no re-arm (R279).
A capture that starts at its arming asks again. -/
def preempt (k : Fin 8) (s : State) : State :=
  let s1 := onCap k (fun x => { x with st := .armed, waiting := false, restarted := true, coefChanged := false }) s
  if s.acq.slot[k].desc.any (fun d => d.trig == 0) then newRequest k s1 else s1

/-- Work of lower priority leaves the slices of a mask: captures that are not URGENT (R279). -/
def takeSlices (m : Nat) (but : Option (Fin 8)) (s : State) : State :=
  foldS (fun j t =>
    if some j ≠ but && overlap t.acq.slot[j].held m && !t.acq.slot[j].urgent then preempt j t else t) (allFin 8) s

/-- A request that asks for slices another waiting slot also needs, and goes first: higher priority, or the same and earlier
(R278). -/
def goesFirst (j k : Fin 8) (s : State) : Bool :=
  let x := s.acq.slot[j]
  let y := s.acq.slot[k]
  x.waiting && j != k && overlap (x.desc.elim 0 CapDesc.slices) (y.desc.elim 0 CapDesc.slices) &&
    ((x.urgent && !y.urgent) || (x.urgent == y.urgent && decide (x.order < y.order)))

/-- An ACQ_TRIGGER command ends once each slot it names with trigger kind 3 has started (R296). -/
def triggerPoll (s : State) : State :=
  let waits := fun (x : Slot) => (allFin 8).any (fun k =>
    x.payload.any (fun w => w.getLsbD k.val) && s.acq.slot[k].waiting && s.acq.slot[k].desc.any (fun d => d.trig == 3))
  foldS (fun x t => complete x.port x.tag 0 [] t)
    (s.hif.slots.filter (fun x => x.op == 0x605 && x.status == .running && !waits x)) s

/-- The slot's slices are granted: lower-priority work leaves them and the record begins (R278 to R280). -/
def grantSlot (k : Fin 8) (s : State) : State :=
  let m := s.acq.slot[k].desc.elim 0 CapDesc.slices
  let s1 := takeSlices m (some k) s
  let s2 := s1.onAcq (fun a =>
    { a with protUsed := a.protUsed || (a.running && overlap m (protectedMask s)),
             restart := a.restart || (a.running && overlap m (roundMask s)) })
  triggerPoll (onCap k (fun x =>
    { x with st := .running, waiting := false, coefChanged := false, ver0 := s.acq.coefVer }) s2)

/-- A slot's record is asked for: it starts at once when its slices are free and conversions are made, and waits otherwise
(R278, R282, R283). -/
def startRecord (k : Fin 8) (s : State) : State :=
  let x := s.acq.slot[k]
  let s1 := newRequest k s
  if grantable k s && !(allFin 8).any (fun j => goesFirst j k s1) then
    grantSlot k (onCap k (fun y => { y with delayed := x.delayed, refHeld := x.refHeld }) s1)
  else s1

/-- A trigger reaches a slot by a timer or a comparator: it starts a record, or is counted while one is still running or waiting
to run (R281, R284). -/
def triggerSlot (k : Fin 8) (s : State) : State :=
  let x := s.acq.slot[k]
  if x.st = .running || x.waiting then onCap k (fun y => { y with ignored := satAdd max32 y.ignored 1 }) s
  else if x.st = .armed then startRecord k s
  else s

/-- A slot is armed with a descriptor and its pool space (R297). -/
def armSlot (k : Fin 8) (d : CapDesc) (bytes : Nat) (s : State) : State :=
  let s1 := onCap k (fun x => { ({} : CapSlot) with st := .armed, desc := some d, left := d.rearms, seq := x.seq, bytes := bytes }) s
  if d.trig = 0 then startRecord k s1
  else if d.pre ≠ 0 && !converting s then onCap k (fun x => { x with refHeld := !s.acq.settled, delayed := true }) s1
  else s1

/-! ### Records (R277, R294) -/

/-- The input is differential (R276). -/
def differential (code : Nat) : Bool := (0x18 ≤ code && code ≤ 0x23) || code == 0x54 || code == 0x55

/-- A sample is over range (R277). -/
def overSample (code : Nat) (v : BitVec 16) : Bool := v == 0x7FFF || (differential code && v == 0x8000)

/-- The header words of a record (R294). The trigger's offset within its microsecond is a free value, and so is the comparator
number of a record that no timer or comparator started (log entry 3). -/
def recHeader (k : Nat) (x : CapSlot) (d : CapDesc) (seq : BitVec 16) (code slices : Nat) (data : List (BitVec 16))
    (trunc : Bool) (s : State) : List W :=
  let f := (freeW s).toNat
  let no := if d.trig = 1 || d.trig = 2 then d.trigNo else (f / 512) % 32
  let clipped := data.any (overSample code)
  let flags := bitsNat [pb Pid.ACQ_RATE_HALF s, clipped, s.acq.suspect, s.acq.degraded, s.acq.corrStale, x.coefChanged, x.refHeld,
    x.delayed, trunc, x.restarted]
  [w32 (seq.toNat * 65536 + 256 + d.mode * 64 + 32 * b01 d.urgent + k), w32 (code * 16777216 + slices * 256), wLo x.trigAt,
   wHi x.trigAt, w32 data.length, w32 (min d.pre data.length), w32 (d.dec * 65536 + d.spi * 256 + d.trig * 64 + no),
   w32 ((f % 480) * 8388608 + flags * 8192 + x.ver0.toNat % 256)]

/-- One input's record ends: stored, counted, reported (R294, R380, R471). -/
def addRecord (k : Fin 8) (code slices : Nat) (data : List (BitVec 16)) (trunc : Bool) (s : State) : State :=
  let x := s.acq.slot[k]
  match x.desc with
  | none => s
  | some d =>
    let r : CapRec := { hdr := recHeader k.val x d x.seq code slices data trunc s, data := data }
    let s1 := onCap k (fun y => { y with recs := y.recs ++ [r], seq := y.seq + 1, count := satAdd max32 y.count 1 }) (takeFree s)
    latchEic (176 + k.val) (raiseEvent 0x6001 0 s1)

/-- The records of a slot's inputs end, one per input. -/
def addRecords (k : Fin 8) (data : List (List (BitVec 16))) (trunc : Bool) (s : State) : State :=
  match s.acq.slot[k].desc with
  | none => s
  | some d => foldS (fun e t => addRecord k e.1.1 e.1.2 e.2 trunc t) ((d.inputs.zip d.inputSlices).zip data) s

/-- After its records a slot re-arms, or is done (R281, R296). -/
def nextArming (k : Fin 8) (s : State) : State :=
  let x := s.acq.slot[k]
  let s1 := onCap k (fun y => { y with waiting := false, restarted := false, delayed := false, refHeld := false,
                                       coefChanged := false }) s
  if x.left = 0 then onCap k (fun y => { y with st := .done }) s1
  else
    let s2 := onCap k (fun y => { y with st := .armed, left := y.left - 1 }) s1
    if x.desc.any (fun d => d.trig == 0) then startRecord k s2 else s2

/-- `n` free samples (log entry 3). -/
def freeSamples (n : Nat) (s : State) : List (BitVec 16) :=
  (List.range n).map (fun i => (Config.freeWord (s.sys.free + i)).extractLsb' 0 16)

/-- One input's truncated record with as many samples as had been taken, which the model leaves free. -/
def truncOne (k : Fin 8) (n : Nat) (e : Nat × Nat) (s : State) : State :=
  let m := (freeW s).toNat % (n + 1)
  let s1 := takeFree s
  let data := freeSamples m s1
  addRecord k e.1 e.2 data true (s1.onSys (fun y => { y with free := y.free + m }))

/-- The running record of a slot ends with TRUNCATED (R296, R299). -/
def truncRecords (k : Fin 8) (s : State) : State :=
  match s.acq.slot[k].desc with
  | none => s
  | some d => foldS (fun e t => truncOne k d.n e t) (d.inputs.zip d.inputSlices) s

/-- Every running record ends with TRUNCATED, at a switch of the ACQ clock (R299). -/
def truncateAll (s : State) : State :=
  foldS (fun k t => if t.acq.slot[k].st = .running then nextArming k (truncRecords k t) else t) (allFin 8) s

/-! ### The reference (R285, R286) -/

/-- The reference changes: conversions are held until it has settled, and EIC source 186 latches (R285, R471). -/
def setRef (r : BitVec 2) (s : State) : State :=
  let s1 := s.onAcq (fun a => { a with ref := r, settled := false, heldBySettle := a.heldBySettle || a.running,
                                       restart := a.restart || a.running })
  when_ s.acq.settled (latchEic 186) s1

/-- The reference changes by itself: REF_FALLBACK (R286). -/
def refFallback (r : BitVec 2) (s : State) : State := raisePick 0x181 0x11 0 (setRef r s)

/-- The bandgap not in use, as an input code. -/
def otherBandgap (s : State) : Option Nat :=
  if s.acq.ref = 0 then some 0x6D else if s.acq.ref = 1 then some 0x6C else none

/-- The check of the bandgap not in use in a round (R286). Whether REFIN is in its window and finds the bandgap in use further off
is a free value. -/
def bandgapCheck (v : Int) (s : State) : State :=
  if 768 < (v - 25600).natAbs * 10 then
    let n := s.acq.badRounds + 1
    let s1 := s.onAcq (fun a => { a with badRounds := min 3 n, goodRounds := 0 })
    if n = 3 then
      let s2 := raisePick 0x181 0x10 0 (s1.onAcq (fun a => { a with suspect := true }))
      when_ (freeB s2) (refFallback (if s.acq.ref = 0 then 1 else 0)) (takeFree s2)
    else s1
  else
    let n := s.acq.goodRounds + 1
    s.onAcq (fun a => { a with badRounds := 0, goodRounds := min 3 n, suspect := a.suspect && decide (n < 3) })

/-! ### Round results (R277, R292) -/

/-- A word of the round table (R292). -/
def RoundEntry.word (e : RoundEntry) : W :=
  w32 (e.rseq.toNat * 16777216 + bitsNat [e.overrange, e.corrStale, e.clkDeg, e.refSuspect, e.restarted] * 524288 + e.value.toNat)

/-- Write a result to the round table. -/
def tableWrite (r : InputResult) (s : State) : State :=
  let e : RoundEntry :=
    { rseq := s.acq.rseq, restarted := r.restarted || s.acq.restart, refSuspect := s.acq.suspect, clkDeg := s.acq.degraded,
      corrStale := s.acq.corrStale, overrange := r.overrange || overSample r.code.val r.value, value := r.value }
  s.onAcq (fun a => { a with table := sput r.code.val e a.table, restart := false })

/-- The round watches compare a result (R292). -/
def roundWatches (code : Nat) (v : Int) (s : State) : State :=
  foldS (fun w t =>
    if pn (Pid.ACQ_RW_INPUT w) t = code then
      let out := decide (v < pv (Pid.ACQ_RW_LOW w) t ∨ pv (Pid.ACQ_RW_HIGH w) t < v)
      if t.acq.rw.getLsbD w = out then t
      else latchEic (48 + w) (t.onAcq (fun a => { a with rw := if out then a.rw ||| (1#16 <<< w) else a.rw &&& ~~~(1#16 <<< w) }))
    else t) (List.range 16) s

/-- The sensor of an input code (R276). -/
def sensorOf (code : Nat) : Option (Fin 12) :=
  if h : 0x60 ≤ code ∧ code ≤ 0x63 then some ⟨code - 0x60, by omega⟩
  else if h : 0x58 ≤ code ∧ code ≤ 0x5F then some ⟨code - 0x58 + 4, by omega⟩
  else none

/-- A result of a shunt input, mA: 50 uV per LSB over a shunt in uOhm (R276, R277). -/
def shuntMa (v : Int) (uohm : Nat) : Int := rdiv (v * 50 * 1000) (8 * uohm)

/-- A result in interface units (R8, R277); temperatures stand apart. -/
def scaled (code : Nat) (v : Int) (s : State) : Int :=
  if code ≤ 0x17 then
    tquot ((v * 750 - (pn (Pid.PH_IMON_REF_MV code) s : Int) * 8000) * 1000) (8 * pn (Pid.PH_IMON_GAIN_UV_A code) s)
  else if code ≤ 0x23 then
    let c := code - 0x18
    rdiv ((v * 1500 - (pn (Pid.VR_RTH_OHM c) s : Int) * 80) * pn (Pid.VR_DIV c) s) 8000000
  else if code ≤ 0x2F then rdiv (v * 1500 * pn (Pid.VR_DIV_LOC (code - 0x24)) s) 8000000
  else if code ≤ 0x4F then rdiv (v * 600 * pn (Pid.MON_DIV (code - 0x30)) s) 8000000
  else if code ≤ 0x53 then rdiv (v * 20) 8
  else if code = 0x54 then shuntMa v (pn Pid.EST_RSHUNT_UOHM s)
  else if code = 0x55 then shuntMa v (pn Pid.CHG_RSNS_UOHM s)
  else if code ≤ 0x57 then rdiv (v * 15) 8
  else if code = 0x64 then rdiv (v * 20) 8
  else if code = 0x66 then rdiv (v * 300) 8000
  else if code = 0x67 then rdiv (v * 750) 8000
  else if code = 0x6A then rdiv (v * 4) 8
  else rdiv (v * 1500) 8000

/-- A DC input's voltage as read: its current follows from the drop to VLINK while its gate is on (R112), and in BATTERY a source that
rises above its margin is taken back (R118). -/
def noteDc (i : Fin 4) (mv : Nat) (s : State) : State :=
  let s1 := onSrc i (fun x => { x with mv := mv }) s
  returnCheck (when_ ((srcAt i s).gate) (noteCurrent i (.drop ((mv - s.path.vlink) * 1000))) s1)

/-- The readings that other parts of the state hold follow the round (R8, R292); in DOZE a VBAT below V_RECHG in DONE wakes SYS (R140). -/
def noteReading (code : Nat) (v : Int) (s : State) : State :=
  let x := scaled code v s
  if code = 0x50 then
    let s1 := s.onPath (fun q => { q with vlink := x.toNat })
    let low := decide (x.toNat < 9000 + pn Pid.PD_HR_MV s ∧ 9000 + pn Pid.PD_HR_MV s ≤ s.path.vlink)
    when_ low (fun t => askPrSwap 1 x.toNat (askPrSwap 0 x.toNat t)) s1
  else if code = 0x51 then
    let s1 := returnCheck (s.onPath (fun q => { q with vbat := x.toNat }))
    when_ (s.chg.st == .done && !vrla s && decide (x.toNat < vRechg s * cells s)) dozeWake s1
  else if code = 0x52 then noteDc 0 x.toNat s
  else if code = 0x53 then noteDc 1 x.toNat s
  else if code = 0x54 then s.onPath (fun q => { q with ibat := x })
  else if code = 0x56 then noteVbus 0 x.toNat s
  else if code = 0x57 then noteVbus 1 x.toNat s
  else s

/-- A result of a round or of a fast read: table, readings, comparisons (R292). -/
def roundResult (r : InputResult) (s : State) : State :=
  let v := r.value.toInt
  let s1 := roundWatches r.code.val v (noteReading r.code.val v (tableWrite r s))
  match sensorOf r.code.val with
  | some i => sensorRead i r s1
  | none => if otherBandgap s1 = some r.code.val then bandgapCheck v s1 else s1

/-- Between the rounds of DOZE the stop of ACQ is marked planned (R59, R65). -/
def acqPause (s : State) : State :=
  s.onSys (fun y => { y with planned := { y.planned with acq := decide (y.power = .doze) } })

/-- A round begins: ACQ is expected to run, and the round takes the round slice from work of lower priority (R59, R279, R290). -/
def startRound (s : State) : State :=
  let urgent := (allFin 8).any (fun j => overlap s.acq.slot[j].held (protectedMask s) && s.acq.slot[j].urgent)
  takeSlices (roundMask s) none ((s.onSys (fun y => { y with planned := { y.planned with acq := false } })).onAcq (fun a =>
    { a with running := true, rseq := a.rseq + 1, heldBySettle := !a.settled, protUsed := urgent }))

/-- An URGENT record holds the round slice, so the round waits. -/
def roundBlocked (s : State) : Bool :=
  (allFin 8).any (fun j => overlap s.acq.slot[j].held (roundMask s) && s.acq.slot[j].urgent)

/-! ### Crossings and resets (R284, R298) -/

/-- A write to a comparator's parameter disarms it (R284). -/
def ccWritten (c : Fin 32) (s : State) : State := onCc c (fun x => { x with armed := false, written := true }) s

/-- The acquisition comes up: its reference starts settling, the battery rings run, the comparators arm (R45, R284, R285). -/
def acqStart (s : State) : State :=
  s.onAcq (fun a => { a with ref := BitVec.ofNat 2 (pn Pid.ACQ_REF_SEL s), settled := false, rings := true,
                             cc := vmap (fun _ => { written := true }) a.cc })

/-- A slot is ended by a block reset: LOST, with its pick and event, when it was not IDLE (R298). Its count, SEQ and reservation
restart. -/
def loseSlot (k : Fin 8) (s : State) : State :=
  if s.acq.slot[k].st = .idle then s
  else raisePickEv (0x188 + k.val) 0x15 0 (some (0x6002, 0)) (onCap k (fun x => { ({} : CapSlot) with st := .lost, seq := x.seq }) s)

/-- A block reset of the acquisition (R53, R298, R316): captures are lost, the round table is invalid, SH5's set and the
reference stay as parameters and coefficients give them. -/
def acqReset (s : State) : State :=
  let s1 := foldS loseSlot (allFin 8) s
  let s2 := s1.onAcq (fun a =>
    { ({} : Acq) with rseq := a.rseq, rseqDone := a.rseqDone, slot := a.slot, nextOrder := a.nextOrder, ref := a.ref,
                      corrValid := a.corrValid, corrStale := a.corrStale, coefVer := a.coefVer, coef := a.coef, pourAt := a.pourAt,
                      degraded := a.degraded })
  triggerPoll (thermRestart s2)

end Sys2Proof.Machine
end

