-- ==== Sys2Proof/Machine/Acq.lean ====
section
/-! DEFINITION. The rows of the acquisition (R281 to R299). -/

namespace Sys2Proof.Machine

/-! ### Commands (R296, R297) -/

/-- The slot number in payload word 1 [2:0]. -/
def slotArg (x : Slot) : Fin 8 := ⟨(x.word 1).toNat % 8, by omega⟩

/-- CAPTURE_ARM (R297). -/
def execCaptureArm (p : Port) (tag : Tag) (s : State) : Out :=
  .next (runCmd 0x601 p tag (fun x s =>
    let k := slotArg x
    let d := parseDesc x
    let bytes := (d.rearms + 1) * d.inputs.length * recBytes d.n
    let free := poolFree k.val s
    let clash := (allFin 8).any (fun j => j != k && overlap s.acq.slot[j].held d.slices &&
      (d.pre != 0 || s.acq.slot[j].desc.any (fun e => e.pre != 0)))
    if d.malformed then complete p tag 0x14 [w32 1] s
    else if free < bytes then complete p tag 0x14 [w32 2, w32 free] s
    else if breaksR280 d s then complete p tag 0x14 [w32 3] s
    else if clash || s.sys.power ≠ .run || s.heddle.safeHold then wrongState p tag 0 s
    else done p tag [w32 k.val, w32 bytes, w32 s.acq.slot[k].seq.toNat] (triggerPoll (armSlot k d bytes s))) s)

/-- CAPTURE_DISARM (R296): a running record ends with TRUNCATED; records taken stay readable. -/
def execCaptureDisarm (p : Port) (tag : Tag) (s : State) : Out :=
  .next (runCmd 0x602 p tag (fun x s =>
    let k := slotArg x
    let s1 := if s.acq.slot[k].st = .running then truncRecords k s else s
    let live := s.acq.slot[k].st == .running || s.acq.slot[k].st == .armed
    let s2 := if live then onCap k (fun y => { y with st := if y.recs.isEmpty then .idle else .done, waiting := false }) s1 else s1
    done p tag [] (triggerPoll s2)) s)

/-- State codes of CAPTURE_STATUS. -/
def SlotState.code : SlotState → Nat
  | .idle => 0
  | .armed => 1
  | .running => 2
  | .done => 3
  | .lost => 4

/-- CAPTURE_STATUS (R296). The SEQ of a last record that does not exist is a free value. -/
def execCaptureStatus (p : Port) (tag : Tag) (s : State) : Out :=
  .next (runCmd 0x603 p tag (fun x s =>
    let y := s.acq.slot[slotArg x]
    let last := if y.recs.isEmpty then (freeW s).toNat % 65536 else (y.seq - 1).toNat
    done p tag [w32 y.st.code, w32 y.count, w32 last, w32 y.left, w32 y.ignored, w32 y.bytes]
      (if y.recs.isEmpty then takeFree s else s)) s)

/-- Two samples as a word, the earlier one low. -/
def pairWords : List (BitVec 16) → List W
  | [] => []
  | [a] => [w32 a.toNat]
  | a :: b :: l => w32 (a.toNat + 65536 * b.toNat) :: pairWords l

/-- A record as words: header line, then data lines padded with 0 (R294). -/
def recWords (r : CapRec) : List W := padTo 16 0 r.hdr ++ padTo (16 * ((r.data.length + 31) / 32)) 0 (pairWords r.data)

/-- CAPTURE_READ (R296). -/
def execCaptureRead (p : Port) (tag : Tag) (s : State) : Out :=
  .next (runCmd 0x604 p tag (fun x s =>
    let off := (x.word 2).toNat
    match s.acq.slot[slotArg x].recs[((x.word 1).toNat / 256) % 256]? with
    | none => badId p tag 0 s
    | some r => if off % 4 ≠ 0 then outOfRange p tag 1 s else done p tag (((recWords r).drop (off / 4)).take 12) s) s)

/-- ACQ_TRIGGER (R282, R296): starts every named slot with trigger kind 3, and ends once each has started. -/
def execAcqTrigger (p : Port) (tag : Tag) (s : State) : Out :=
  .next (runCmd 0x605 p tag (fun x s =>
    let go := fun (k : Fin 8) (t : State) =>
      let y := t.acq.slot[k]
      if (x.word 1).getLsbD k.val && y.desc.any (fun d => d.trig == 3) && y.st == .armed && !y.waiting then startRecord k t else t
    triggerPoll (foldS go (allFin 8) (modSlot p tag (fun z => { z with status := .running }) s))) s)

/-- The input is a temperature. -/
def isTemp (code : Nat) : Bool := 0x58 ≤ code && code ≤ 0x63

/-- One word of ACQ_READ, and whether it has no valid result (R296). -/
def acqReadWord (w : W) (s : State) : W × Bool :=
  let code := w.toNat % 256
  let e := if s.acq.roundValid then sfind s.acq.table code else none
  let bad := if isTemp code then 0x00007FFF#32 else 0x80000000#32
  match e with
  | none => (bad, true)
  | some r =>
    if w.getLsbD 8 then (wInt r.value.toInt, false)
    else match sensorOf code with
      | none => (wInt (scaled code r.value.toInt s), false)
      | some i => match sensorTemp i.val s with
        | none => (bad, true)
        | some c => (wInt c, false)

/-- ACQ_READ (R296). -/
def execAcqRead (p : Port) (tag : Tag) (s : State) : Out :=
  .next (runCmd 0x610 p tag (fun x s =>
    let wrong := fun (w : W) => decide (0x70 ≤ w.toNat % 256) || (decide (0x6C ≤ w.toNat % 256) && !w.getLsbD 8)
    let rs := x.payload.map (fun w => acqReadWord w s)
    match x.payload.findIdx? wrong with
    | some i => outOfRange p tag i s
    | none => (if rs.any (·.2) then doneNote else done) p tag (rs.map (·.1)) s) s)

/-! ### Rounds (R290 to R292) -/

/-- ROUND_START (R290): at every multiple of 10 ms of device time. -/
def execRoundStart (s : State) : Out :=
  let s1 := tickTo 4 10000 s
  .next (if !acqRuns s1 then s1
    else if s1.acq.running then s1.onAcq (fun a => { a with nextDue := true })
    else startRound s1)

/-- ROUND_RESULT (R292): only while a round runs, the reference has settled and the round slice is not taken. -/
def execRoundResult (r : InputResult) (s : State) : Out :=
  .next (if converting s && s.acq.running && !roundBlocked s then roundResult r s else s)

/-- ROUND_COMPLETE (R290). In DOZE the power manager stops ACQ until the next round (R59, R65). -/
def execRoundComplete (elapsedUs : Nat) (s : State) : Out :=
  .next (if converting s && s.acq.running && !roundBlocked s then
      let late := decide (1000 < elapsedUs) && !s.acq.heldBySettle
      let s1 := s.onAcq (fun a => { a with running := false, roundValid := true, rseqDone := a.rseq, protUsed := false,
                                           nextDue := false, heldBySettle := false })
      let s2 := latchEic 184 (s1.onSys (fun y => { y with boot := { y.boot with firstRound := true } }))
      let s3 := when_ late (raisePick 0x183 0x13 0) s2
      if s.acq.nextDue then startRound s3 else acqPause s3
    else s)

/-- FAST_THERMAL_READ (R291): at a 1 ms boundary that starts no round, the sensors at the fast rate. -/
def execFastThermalRead (rs : List InputResult) (s : State) : Out :=
  let s1 := tickTo 5 1000 s
  let read := fun (r : InputResult) (t : State) =>
    match sensorOf r.code.val with
    | none => t
    | some i => if t.therm.sens[i].fast then roundResult r t else t
  .next (if s1.sys.devTime % 10000 ≠ 0 && converting s1 && !roundBlocked s1 && (thermFast s1 != 0) then
      latchEic 185 (foldS read rs (takeSlices (roundMask s1) none s1))
    else s1)

/-! ### Triggers and records (R278 to R284, R294, R295) -/

/-- CROSSING_TRIP (R283, R284). -/
def execCrossingTrip (c : Fin 32) (s : State) : Out :=
  let live := s.sys.boot.cfgLoaded && !s.sys.inReset && !s.sys.pfHeld && s.acq.cc[c].armed &&
    decide (pn (Pid.ACQ_CC_INPUT c.val) s < 0x70)
  .next (if !live then s
    else
      let s1 := latchEic (16 + c.val) (onCc c (fun _ => { armed := false, tripped := true }) s)
      let cap := pn (Pid.ACQ_CC_CAPTURE c.val) s
      if h : cap < 8 then
        if s1.acq.slot[cap].desc.any (fun d => d.trig == 2 && d.trigNo == c.val) then triggerSlot ⟨cap, h⟩ s1 else s1
      else s1)

/-- SLICE_GRANT (R278): a waiting request is granted its slices. -/
def execSliceGrant (slot : Fin 8) (s : State) : Out :=
  .next (if s.acq.slot[slot].waiting && grantable slot s && !(allFin 8).any (fun j => goesFirst j slot s) then grantSlot slot s
    else s)

/-- ACQ_TIMER_FIRE (R281). -/
def execAcqTimerFire (t : Fin 4) (s : State) : Out :=
  .next (if acqRuns s then
      foldS (fun k u => if u.acq.slot[k].desc.any (fun d => d.trig == 1 && d.trigNo == t.val) then triggerSlot k u else u)
        (allFin 8) s
    else s)

/-- CAPTURE_DONE (R294): every input's record completes with its samples. -/
def execCaptureDone (slot : Fin 8) (data : List (List (BitVec 16))) (s : State) : Out :=
  let x := s.acq.slot[slot]
  let fits := x.desc.any (fun d => data.length == d.inputs.length && data.all (fun l => l.length == d.n))
  .next (if x.st = .running && acqRuns s && fits then nextArming slot (addRecords slot data false s) else s)

/-- ACQ_FIFO (R295): the record ends at its last complete line with TRUNCATED. -/
def execAcqFifo (slot : Fin 8) (data : List (List (BitVec 16))) (s : State) : Out :=
  let x := s.acq.slot[slot]
  let fits := x.desc.any (fun d => data.length == d.inputs.length && data.all (fun l => decide (l.length < d.n)))
  .next (if x.st = .running && acqRuns s && fits then
      raisePick (0x188 + slot.val) 0x14 0
        (nextArming slot (addRecords slot (data.map (fun l => l.take (l.length / 32 * 32))) true s))
    else s)

/-- CC_REARM (R284): within 1 ms of a parameter write the comparator applies it and re-arms. -/
def execCcRearm (c : Fin 32) (s : State) : Out :=
  .next (if s.acq.cc[c].written && s.sys.boot.cfgLoaded && !s.sys.inReset && !s.sys.pfHeld then
      onCc c (fun _ => { armed := decide (pn (Pid.ACQ_CC_INPUT c.val) s < 0x70) }) s
    else s)

/-- CC_HYSTERESIS_REARM (R283). -/
def execCcHysteresisRearm (c : Fin 32) (s : State) : Out :=
  .next (if s.acq.cc[c].tripped && !s.acq.cc[c].written && !s.sys.inReset && !s.sys.pfHeld then
      onCc c (fun _ => { armed := decide (pn (Pid.ACQ_CC_INPUT c.val) s < 0x70) }) s
    else s)

/-! ### Reference and correction (R285 to R289) -/

/-- REF_SETTLED (R285). Held captures are served by SLICE_GRANT. -/
def execRefSettled (s : State) : Out :=
  .next (if acqRuns s && !s.acq.settled then latchEic 186 (s.onAcq (fun a => { a with settled := true })) else s)

/-- REFIN_OUT_OF_WINDOW (R286). -/
def execRefinOutOfWindow (s : State) : Out :=
  .next (if acqRuns s && s.acq.ref = 2 && pb Pid.ACQ_REF_AUTO s then refFallback 0 s else s)

/-- A steeping set passes the check of R288 against the served set. Against the factory set, whose values the manual does not give,
the outcome is a free value. -/
def steepOk (new : List Coef) (s : State) : Bool :=
  if s.acq.coef.isEmpty then freeB s
  else (s.acq.coef.zip new).all (fun x =>
    decide ((x.1.offset - x.2.offset).natAbs ≤ 32 ∧ (x.1.gain - x.2.gain).natAbs ≤ 500 ∧ (x.1.skew - x.2.skew).natAbs ≤ 8))

/-- CORRECTION_PERIOD (R287, R288). -/
def execCorrectionPeriod (coef : List Coef) (s : State) : Out :=
  .next (if shRuns 5 s && converting s && pb Pid.ACQ_CORR_EN s && coef.length == 16 then
      let s1 := when_ s.acq.coef.isEmpty takeFree s
      if steepOk coef s then
        s1.onAcq (fun a => { a with steep := some coef, corrFails := 0,
                                    steepAt := if a.steep.isSome then a.steepAt else s.sys.devTime })
      else if s.acq.corrFails < 2 then s1.onAcq (fun a => { a with corrFails := a.corrFails + 1 })
      else raisePick 0x182 0x12 0 (s1.onAcq (fun a => { a with corrFails := 0 }))
    else s)

/-- A GROUP or GANG record runs in the slot. -/
def CapSlot.ganged (x : CapSlot) : Bool := x.st == .running && x.desc.any (fun d => d.mode != 0)

/-- COEF_POUR (R288): not inside a GROUP or GANG record, or after a wait of 100 ms at the next line boundary. -/
def execCoefPour (s : State) : Out :=
  .next (match s.acq.steep with
    | none => s
    | some c =>
      let inRec := s.acq.slot.toList.any CapSlot.ganged
      if !acqRuns s || (inRec && decide (s.sys.devTime < s.acq.steepAt + 100000)) then s
      else latchEic 187 (s.onAcq (fun a =>
        { a with coef := c, steep := none, coefVer := a.coefVer + 1, pourAt := some s.sys.devTime, corrValid := true,
                 corrStale := false, slot := vmap (fun x => if x.ganged then { x with coefChanged := true } else x) a.slot })))

/-- CORR_STALE (R289): the last pour becomes older than 1 s. -/
def execCorrStale (s : State) : Out :=
  .next (if s.acq.pourAt.isSome && !s.acq.corrStale then s.onAcq (fun a => { a with corrStale := true }) else s)

end Sys2Proof.Machine
end

