-- ==== Sys2Proof/Machine/Estimator.lean ====
section
/-! DEFINITION. The battery estimator: the rows of chapter 08 (R232 to R272). -/

namespace Sys2Proof.Machine

/-! ### Ledger and caddy -/

/-- Largest value of an accumulator sum. -/
def max64 : Nat := 18446744073709551615

/-- LEDGER_SAMPLE (R232, R233): the sign of the code chooses the sum. -/
def execLedgerSample (code : BitVec 24) (s : State) : Out :=
  let v := code.toInt
  .next (if s.sys.power = .ship || s.sys.porActive then s
    else s.onEst (fun e => { e with led :=
      if 0 < v then { e.led with accIn := satAdd max64 e.led.accIn v.toNat }
      else { e.led with accOut := satAdd max64 e.led.accOut (-v).toNat } }))

/-- Charge of a change of a sum with the fraction kept (R233): mC and the new fraction. -/
def codesToMc (codes frac : Nat) (s : State) : Nat × Nat :=
  let gain := (1000000 + pv Pid.EST_LEDGER_GAIN_PPM s).toNat
  let den := 8388608 * pn Pid.EST_RSHUNT_UOHM s * 1000000
  let num := codes * 25000 * gain + frac
  if den = 0 then (0, num) else (num / den, num % den)

/-- A saturated sum (R233). -/
def ledgerSat (s : State) : State :=
  when_ ((s.est.led.accIn == max64 || s.est.led.accOut == max64) && !estFlag 13 s)
    (fun t => setFlag 13 true (raisePick 0x162 0x12 0 t)) s

/-- The change of both sums since the last reading goes into the caddy, SoC_int and sigma_S (R233, R234, R252, R261). A
caddy that is not yet valid stays at 0 (R238). -/
def ledgerRead (s : State) : State :=
  let l := s.est.led
  let i := codesToMc (l.accIn - l.lastIn) l.fracIn s
  let o := codesToMc (l.accOut - l.lastOut) l.fracOut s
  let dt := s.sys.devTime - l.readAt
  let ok := s.est.caddy.valid
  let dq : Int := if ok then (i.1 : Int) - o.1 else 0
  let sh := pn Pid.EST_RSHUNT_UOHM s
  let s1 := s.onEst (fun e =>
    { e with led := { e.led with lastIn := l.accIn, lastOut := l.accOut, fracIn := i.2, fracOut := o.2,
                                 readAt := s.sys.devTime },
             caddy := { e.caddy with qIn := if ok then e.caddy.qIn + i.1 else e.caddy.qIn,
                                     qOut := if ok then e.caddy.qOut + o.1 else e.caddy.qOut, b := e.caddy.b + dq },
             socQ := clampI 0 (qFullMc s) (e.socQ + dq),
             sigQ := e.sigQ + 2 * (i.1 + o.1) + rdivN dt sh })
  ledgerSat (when_ (pn Pid.EST_MODE s == 1) (State.onEst (fun e => { e with socQ := clampI 0 (qFullMc s) e.caddy.b })) s1)

/-- LEDGER_READ (R233). -/
def execLedgerRead (s : State) : Out := .next (if shRuns 4 s then ledgerRead s else s)

/-- Self-discharge of `sec` seconds at temperature `t` (0.1 degC), uC: EST.SELF_PPM_DAY of Q_FULL per day (R237). -/
def selfDischarge (sec : Nat) (t : Int) (s : State) : Nat :=
  mulPow2 (qFullMc s * pn Pid.EST_SELF_PPM_DAY s * sec) 86400000 (t - 250)

/-- SELF_DISCHARGE_ACCRUE (R237): 60 s. -/
def execSelfDischargeAccrue (s : State) : Out :=
  .next (if s.est.caddy.valid then
      s.onEst (fun e => { e with pendSelf := e.pendSelf + selfDischarge 60 ((batTemp s).getD 450) s })
    else s)

/-- SELF_POST (R237). -/
def execSelfPost (s : State) : Out := .next (if s.est.caddy.valid then postSelf s else s)

/-! ### Model, fits and probes -/

/-- One 10 ms step of the exact form of a pair's voltage, uV (R239): I R + (v - I R) e^(-dt / RC), rounded as the manual leaves open (log
entry 4). -/
def pairExact (v i : Int) (r c : Nat) : Int :=
  let e : Int := expNeg 10000000 (r * c)
  rdiv (i * r * (2 ^ 96 - e) + 1000 * v * e) (1000 * 2 ^ 96)

/-- One 10 ms step of a pair's voltage, uV (R239); a pair without elements stays. -/
def pairStep (v i : Int) (r c : Nat) : Int :=
  if r = 0 || c = 0 then v
  else if Config.pairStiff r c then pairExact v i r c
  else v + tquot (10000 * i * r - 10000000 * v) (r * c : Nat)

/-- OCV_est from VBAT, current and the pair voltages, mV (R239). -/
def ocvNow (vbat : Nat) (i v1 v2 : Int) (rs : Nat) : Int :=
  tquot ((vbat : Int) * 1000000 - i * rs - 1000 * v1 - 1000 * v2) 1000000

/-- MODEL_UPDATE (R117, R239): also where SH0 sees VBAT for the return (R118). -/
def execModelUpdate (vbat : Nat) (i : Int) (s : State) : Out :=
  let s0 := s.onPath (fun q => { q with vbat := vbat, ibat := i })
  let f := s.est.fit
  .next (if !shRuns 4 s then returnCheck s0
    else
      let v1 := pairStep s.est.v1 i f.rct f.cdl
      let v2 := pairStep s.est.v2 i f.rdif f.cdif
      let long := decide (0 < f.rdif * f.cdif ∧ 5 * f.rdif * f.cdif ≤ 1000 * s.sys.devTime)
      returnCheck (s0.onEst (fun e =>
        { e with v1 := v1, v2 := v2, ocvEst := ocvNow vbat i v1 v2 f.rs, ocvConf := e.ocvConf || long,
                 test := e.test.map (fun t => { t with lowMv := min t.lowMv vbat }) })))

/-- The impedance is out of model range (R242). -/
def modelBad (s : State) : State :=
  if estFlag 5 s then s
  else chgAbsent 3 false (setFlag 5 true (raisePick 0x161 0x11 0 s))

/-- Both ends of a run of currents lie within 1 % + 50 mA of a level (R240). -/
def levelHeld (lvl lo hi : Int) : Bool :=
  let band : Int := lvl.natAbs + 5000
  decide (100 * (lvl - lo) ≤ band) && decide (100 * (hi - lvl) ≤ band)

/-- A first voltage jump above 10 x the table RS times the step current (R242). -/
def jumpBad (jumpUv stepMa : Nat) (s : State) : Bool :=
  ((readRs (socInt s) (batTemp s) s).mul ⟨10 * stepMa, 1000⟩).lt (Frac.ofInt jumpUv)

/-- NATURAL_STEP (R240, R242); none is captured in DOZE (R300). -/
def execNaturalStep (m : StepMeasure) (s : State) : Out :=
  let d := (m.after - m.before).natAbs
  let big := max m.before.natAbs m.after.natAbs
  let ok := decide (pn Pid.EST_PROBE_MIN_MA s ≤ d ∧ 2 * big ≤ 100 * d ∧ m.riseUs ≤ 1000) &&
    levelHeld m.before m.preLo m.preHi && levelHeld m.after m.postLo m.postHi &&
    (s.path.link == .source || s.path.link == .battery) && s.chg.st != .batteryAbsent && s.sys.power != .doze
  .next (if shRuns 4 s && ok then
      let s1 := latchEic 169 (s.onEst (fun e => { e with stepHeld := true }))
      when_ (jumpBad m.jumpUv d s) modelBad s1
    else s)

/-- RS of an accepted fit is outside the bounds of R242. -/
def rsOut (rs : Nat) (s : State) : Bool :=
  let t := readRs (socInt s) (batTemp s) s
  decide (pn Pid.EST_RS_MAX_UOHM s < rs) || (t.mul (Frac.ofInt 4)).lt (Frac.ofInt rs) ||
    (Frac.ofInt (4 * rs : Nat)).lt t

/-- sigma_S in charge terms with its floor, uC. -/
def sigNow (s : State) : Nat := max (sigCharge 20 s) s.est.sigQ

/-- What the OCV table gives for OCV_est: SoC_O and sigma_O (R252). -/
def socO (s : State) : Frac × Frac :=
  let x := invertOcv ⟨s.est.ocvEst, cells s⟩ (batTemp s) s
  (x.1, sigO x.2)

/-- SoC_O is confident: OCV_est is, and sigma_O is at or below 1 % (R251). -/
def socOConf (s : State) : Bool := s.est.ocvConf && !((Frac.ofInt 100).lt (socO s).2)

/-- Combine SoC_int with SoC_O (R252). -/
def combine (s : State) : State :=
  let q := qFullMc s
  let x := socO s
  let soQ := x.1.mul ⟨q, 10000⟩
  let so := x.2.mul ⟨q, 10⟩
  let ss := Frac.ofInt (sigNow s)
  let ss2 := ss.mul ss
  let so2 := so.mul so
  let sum := ss2.add so2
  let w := ss2.div sum
  let soc := (Frac.ofInt s.est.socQ).add (w.mul (soQ.sub (Frac.ofInt s.est.socQ)))
  let v := (ss2.mul so2).div sum
  s.onEst (fun e => { e with socQ := clampI 0 q soc.round, sigQ := max (sigCharge 20 s) (rsqrt v.n.toNat v.d) })

/-- R253 rules 1 and 2, and the watch for rule 4. -/
def arbitrate (s : State) : State :=
  let imp := pn Pid.EST_MODE s == 0
  if estFlag 9 s then
    let s0 := when_ (decide (0 < s.est.caddy.b)) postSelf s
    let s1 := setSig 20 (setSoc 0 s0)
    when_ (decide (0 < s1.est.caddy.b)) (rebase 0x12 0 0) (s1.onEst (fun e => { e with driftSince := none }))
  else if imp && s.est.caddy.valid && decide (s.est.caddy.b ≤ 0) && socOConf s &&
      (Frac.ofInt 1000).lt (socO s).1 then
    let o := (socO s).1
    let s0 := postSelf s
    let s1 := s0.onEst (fun e =>
      { e with sigQ := e.sigQ + ((o.mul ⟨qFullMc s, 20⟩).round).toNat, disagreeGone := false })
    let s2 := rebaseSoc 0x13 ((o.mul ⟨1, 100⟩).round.toNat % 256) s1
    setFlag 1 true (setFlag 0 true (latchEic 166 (raisePickEv 0x160 0x10 0 (some (0x5007, 0)) s2)))
  else
    let gap := ((socInt s : Int) - socL s).natAbs
    let far := imp && s.est.caddy.valid && decide (pn Pid.EST_REBASE_PCT s < gap) && decide (sigS s ≤ 200)
    s.onEst (fun e => { e with driftSince := if far then some (e.driftSince.getD s.sys.devTime) else none })

/-- Learning from an accepted fit (R251): RS always, OCV when confident and 24 h after a rebase. -/
def learnFit (rs : Nat) (s : State) : State :=
  match batTemp s with
  | none => s
  | some t =>
    let tb := tempBin t
    let n := cells s
    let s1 := learnEntry .rs (tb * 11 + nearest 0 1000 11 (socInt s)) 16 ⟨rs, n⟩ s
    let old := decide (s.est.rebaseAt + 86400000000 ≤ (s.sys.devTime : Int))
    if socOConf s && old then learnEntry .ocv (tb * 21 + nearest 0 500 21 (socL s)) 8 ⟨s.est.ocvEst, n⟩ s1 else s1

/-- A discharge that may teach Q_FULL starts at a SoC (R260). -/
def learnStart (soc : Nat) (s : State) : State :=
  s.onEst (fun e => { e with learn := some { soc0 := soc, q0 := e.caddy.qOut, tSum := 0, iSum := 0, n := 0 } })

/-- The discharge being learned from ends at `soc` (R260): the learned Q_FULL waits to be applied. -/
def learnEnd (soc : Nat) (s : State) : State :=
  match s.est.learn with
  | none => s
  | some r =>
    let dq := (s.est.caddy.qOut - r.q0).toNat
    let ds := r.soc0 - soc
    if ds = 0 || dq = 0 then s.onEst (fun e => { e with learn := none })
    else
      let tAvg := rdiv r.tSum r.n
      let iAvg := (rdiv r.iSum r.n).natAbs
      let u := (readU (if r.n = 0 then batTemp s else some tAvg) iAvg (qFullMah s) s).mul ⟨1, 1000⟩
      let q := ((Frac.ofInt (dq * 10000 : Nat)).div ((Frac.ofInt ds).mul u)).mul ⟨1, 3600⟩
      s.onEst (fun e =>
        { e with learn := none, newQFull := some (max 1000 (min 2000000 q.trunc.toNat)),
                 newU := some (tempBin tAvg * 6 + rateBin iAvg (qFullMah s), (u.mul (Frac.ofInt 1000)).round.toNat) })

/-- A confident SoC_O ends a learning run 40.00 % lower than its start, and starts one where none runs (R260). -/
def learnOcv (s : State) : State :=
  if !socOConf s then s
  else
    let x := (socO s).1.round.toNat
    match s.est.learn with
    | some r => if x + 4000 ≤ r.soc0 then learnStart x (learnEnd x s) else s
    | none => if s.est.dir = .discharge then learnStart x s else s

/-- An accepted fit (R241, R242, R251 to R253, R238). -/
def fitAccepted (f : FitMeasure) (s : State) : State :=
  let bad := rsOut f.rs s
  let s1 := s.onEst (fun e =>
    { e with fit := { rs := f.rs, rct := f.rct, cdl := f.cdl, rdif := f.rdif, cdif := f.cdif, residual := f.residualUv },
             fitAt := s.sys.devTime, fits := satAdd max32 e.fits 1, ocvConf := true,
             badRs := if bad then e.badRs + 1 else 0,
             ocvEst := ocvNow s.path.vbat s.path.ibat e.v1 e.v2 f.rs })
  let s2 := if bad then when_ (decide (2 ≤ s1.est.badRs)) modelBad s1 else setFlag 5 false s1
  if pn Pid.EST_MODE s = 1 then learnFit f.rs s2
  else
    let s3 := combine s2
    let s4 := when_ (!s3.est.caddy.valid) (rebaseSoc 0x10 0) s3
    arbitrate (learnOcv (learnFit f.rs s4))

/-- FIT_COMPLETE (R241, R242): accepted when the residual is at or below 1 % of the response plus 0.5 mV and the window has no
gap. The first jump of a probe step is judged here, that of a natural step at its capture. -/
def execFitComplete (f : FitMeasure) (s : State) : Out :=
  .next (if shRuns 4 s && s.est.stepHeld then
      let s0 := latchEic 170 (s.onEst (fun e =>
        { e with stepHeld := false, probe := e.probe.filter (fun p => !p.ended) }))
      let s1 := when_ (s.est.probe.any (fun p => p.ended) && jumpBad f.jumpUv f.stepMa s) modelBad s0
      if !f.gap && decide (100 * f.residualUv ≤ f.responseUv + 50000) then fitAccepted f s1 else s1
    else s)

/-- Delta-I_SAG, mA (R245). -/
def probeSag (s : State) : Nat := tquotN (pn Pid.EST_C_LINK_UF s * pn Pid.EST_PROBE_SAG_MV s) 10000

/-- The amplitude that the settings call for while charging at `i` (R244). -/
def probeUp (i : Int) (s : State) : Nat :=
  max (rdivN (i.natAbs * pn Pid.EST_PROBE_PCT s) 100) (pn Pid.EST_PROBE_MIN_MA s)

/-- The amplitude of a probe at battery current `i` (R244); `none`: no probe in this state. -/
def probeAmp (i : Int) (s : State) : Option Nat :=
  if s.heddle.safeHold || s.sys.service != .full || s.chg.st == .batteryAbsent then none
  else match s.path.link with
    | .source =>
      if s.path.supplement || s.chg.st == .discharge then none
      else if s.chg.st.charging && s.chg.pwm && decide (0 < i) then
        let up := probeUp i s
        if up ≤ i.natAbs then some up else some (min up (pn Pid.CHG_I_CC_MA s - i.natAbs))
      else if disAllowed s then some (pn Pid.EST_PROBE_MIN_MA s) else none
    | .battery => some (min (probeUp i s) (probeSag s))
    | _ => none

/-- The direction of a probe at battery current `i` (R244). -/
def probeDir (i : Int) (s : State) : ProbeDir :=
  if s.path.link = .battery then .dischargeLess
  else if s.chg.st.charging && s.chg.pwm && decide (0 < i) then (if probeUp i s ≤ i.natAbs then .chargeLess else .chargeMore)
  else .discharge

/-- PROBE_DUE (R243 to R245, R261). -/
def execProbeDue (i : Int) (s : State) : Out :=
  .next (if !(pb Pid.EST_PROBE_EN s) || pn Pid.EST_MODE s == 1 || !(shRuns 1 s && shRuns 4 s) || s.est.probe.isSome then s
    else
      let s0 := latchEic 171 s
      match probeAmp i s with
      | none => s0
      | some a =>
        let bat := s.path.link == .battery
        let low := max (pn Pid.EST_PROBE_MIN_MA s * 100) (2 * i.natAbs)
        if bat && decide (100 * probeSag s < low) then setFlag 2 true s0
        else chgDrive (setFlag 2 false (s0.onEst (fun e =>
          { e with probe := some { ma := a, dir := probeDir i s, hold := bat, ended := false } }))))

/-- PROBE_STEP_END (R243, R245). -/
def execProbeStepEnd (s : State) : Out :=
  .next (match s.est.probe with
    | none => s
    | some p =>
      if p.ended then s
      else chgDrive (s.onEst (fun e => { e with probe := some { p with ended := true, hold := false }, stepHeld := true })))

/-- PROBE_HOLD_RELEASE (R245): before the step's end. -/
def execProbeHoldRelease (_why : HoldRelease) (s : State) : Out :=
  .next (match s.est.probe with
    | none => s
    | some p =>
      if p.hold then latchEic 138 (s.onEst (fun e => { e with probe := some { p with hold := false } })) else s)

/-- PROBE_CANCEL (R246): the capture is discarded. -/
def execProbeCancel (why : ProbeCancel) (s : State) : Out :=
  .next (match s.est.probe with
    | none => s
    | some p =>
      let real := match why with
        | .loadChange ma => decide (p.ma < ma)
        | .stateChange => true
        | .dischargeDemand => true
      if real && !p.ended then chgDrive (s.onEst (fun e => { e with probe := none })) else s)

/-! ### Tables -/

/-- EST.SOH_RS from the served and the factory table at 50 % and 25 degC, 0.01 % (R260). -/
def sohRsNow (s : State) : Int :=
  let a := readSoc (servedEntries .rs s) 11 5000 250
  let b := readSoc (factEntries .rs s) 11 5000 250
  clampI (-10000) 32767 (((a.sub b).div b).mul (Frac.ofInt 10000)).round

/-- EST.SOH_FADE, 0.01 % (R260). -/
def sohFadeNow (s : State) : Int :=
  let c : Int := pn Pid.CHG_CAP_MAH s
  clampI (-10000) 10000 (rdiv ((c - qFullMah s) * 10000) c)

/-- Bring state of health up to date; SOH is posted at each further 5.00 % (R260). -/
def sohUpdate (s : State) : State :=
  let f := sohFadeNow s
  let r := sohRsNow s
  let fp := f.fdiv 500
  let rp := r.fdiv 500
  let more := decide (s.est.sohFadePost < fp) || decide (s.est.sohRsPost < rp)
  let s1 := s.onEst (fun e =>
    { e with sohFade := f, sohRs := r, sohFadePost := max e.sohFadePost fp, sohRsPost := max e.sohRsPost rp })
  when_ more (raiseEvent 0x5008 0) s1

/-- TABLE_POUR (R250). -/
def execTablePour (k : TableKind) (s : State) : Out :=
  let t := tableSet k s
  .next (match t.steep, t.served with
    | some l, some sv =>
      if t.pourAt.any (fun a => decide (s.sys.devTime < a + 600000000)) then s
      else if tableConsistent k l (factEntries k s) then
        sohUpdate ((onTable k (fun t =>
          { t with served := some { ver := (sv.ver + 1) % 65536, factCrc := factCrc k s, entries := l }, steep := none,
                   pourAt := some s.sys.devTime }) s).onNvm (fun n => { n with learnedDirty := true }))
      else raisePick 0x164 0x14 0 (onTable k (fun t => { t with steep := none }) s)
    | _, _ => s)

/-! ### The second (R253 to R258) -/

/-- A reported quantity follows its internal value for one second (R255). -/
def follow (d : Direction) (x xi : Nat) : Nat :=
  let g := (x : Int) - xi
  let st := if 300 < g.natAbs then 100 else 10
  match d with
  | .discharge => if 0 < g then x - min g.natAbs st else x
  | .charge => if g < 0 then x + min g.natAbs st else x
  | .rest => if 0 ≤ g then x - min g.natAbs st else x + min g.natAbs st

/-- Runtime in s from a reported fraction (R256). -/
def floorSeconds (f ma : Nat) (s : State) : Nat := if ma = 0 then max32 else min max32 (tquotN (f * qFullMc s) (10000 * ma))

/-- sigma_C (R260): 5.0 % before a learning, then 2.0 % rising by 0.5 % for each year, up to 10.0 %. -/
def sigCNow (s : State) : Nat :=
  if s.est.learnCount = 0 then s.est.sigC else min 1000 (200 + 50 * ((timestamp s - s.est.learnTs) / 31557600))

/-- The battery discharge current that the present link demand would draw, mA (R257): in SOURCE the link power over VBAT, whose quotient is
free at 0 V (log entry 3), else the measured discharge current. -/
def loadNow (r : LoadReading) (s : State) : State × Nat :=
  match s.path.link with
  | .source => if r.vbat = 0 then (takeFree s, (freeW s).toNat) else (s, rdivN (1000 * (r.srcMw - r.convMw)) r.vbat)
  | _ => (s, (-r.iBat).toNat)

/-- Reported SoC, floors and I_load of this second (R255 to R257). -/
def report (loadMa : Nat) (s : State) : State :=
  let n := pn Pid.EST_LOAD_AVG_S s
  let loads := newest (max 1 n) (s.est.loads ++ [loadMa])
  let il := rdivN loads.sum loads.length
  let s1 := s.onEst (fun e => { e with loads := loads, iLoad := il, amps := newest 60 (e.amps ++ [s.path.ibat]),
                                       sigC := sigCNow s })
  let rated := pn Pid.EST_RATED_MA s
  let fp := (clampI 0 10000 (floorFrac il s1).trunc).toNat
  let fr := (clampI 0 10000 (floorFrac rated s1).trunc).toNat
  let d := s.est.dir
  let cut := estFlag 9 s
  let soc := if cut then 0 else follow (if estFlag 11 s then .charge else d) s.est.soc (socInt s1)
  let p := if cut then 0 else follow d s.est.fPres fp
  let r := if cut then 0 else follow d s.est.fRated fr
  let fl := if il < pn Pid.EST_DIS_THR s then max32 else floorSeconds p il s1
  s1.onEst (fun e => { e with soc := soc, fPres := p, fRated := r, floorS := fl, floorRatedS := floorSeconds r rated s1 })

/-- EARLY, LOW and CRITICAL from EST.FLOOR_S (R258). -/
def warnLevel (k id : Nat) (s : State) : State :=
  let w := pn id s * 60
  let h := pn Pid.EST_WARN_HYST_MIN s * 60
  if s.est.floorS < w then setLevel k true s
  else if w + h ≤ s.est.floorS then setLevel k false s else s

/-- Sums of a running learning discharge (R260). -/
def learnSums (s : State) : State :=
  s.onEst (fun e => { e with learn := e.learn.map (fun r =>
    { r with tSum := r.tSum + (batTemp s).getD 0, iSum := r.iSum + s.path.ibat, n := r.n + 1 }) })

/-- EST_SECOND_UPDATE (R253, R255 to R258, R267, R269): held while CMD does not serve. -/
def execEstSecondUpdate (load : LoadReading) (s : State) : Out :=
  let s0 := tickTo 3 1000000 s
  .next (if s.sys.service ≠ .full || s.heddle.safeHold then s0
    else
      let s1 := setFlag 12 (batTemp s0).isNone (learnSums (arbitrate s0))
      let l := loadNow load s1
      let s2 := report l.2 l.1
      let s3 := warnLevel 8 Pid.EST_WARN_CRIT_MIN (warnLevel 7 Pid.EST_WARN_LOW_MIN (warnLevel 6 Pid.EST_WARN_EARLY_MIN s2))
      testPoll s3)

/-- DRIFT_REBASE (R253 rule 4). -/
def execDriftRebase (s : State) : Out :=
  .next (if s.est.driftSince.isSome && !estFlag 9 s then
      (rebaseSoc 0x14 0 s).onEst (fun e => { e with driftSince := none })
    else s)

/-- A learned Q_FULL takes effect (R260): the SoC fractions stand. -/
def qfullApply (s : State) : State :=
  match s.est.newQFull with
  | none => s
  | some q =>
    if s.est.dir = .discharge then s
    else
      let old := qFullMc s
      let s1 := s.onEst (fun e =>
        { e with qFull := some q, newQFull := none, newU := none, learnCount := e.learnCount + 1,
                 learnTs := timestamp s, sigC := 200, disagreeGone := true,
                 socQ := rdiv (e.socQ * (q * 3600 : Nat)) old, sigQ := rdivN (e.sigQ * (q * 3600)) old })
      let s2 := match s.est.newU with
        | none => s1
        | some u => setSteep .cap u.1 u.2 s1
      sohUpdate (setFlag 1 false ((caddyEntry 0x16 0 0 s2).onNvm (fun n => { n with learnedDirty := true })))

/-- QFULL_APPLY (R260). -/
def execQfullApply (s : State) : Out := .next (qfullApply s)

/-- DIRECTION_CHANGE (R254, R258, R260). -/
def execDirectionChange (d : Direction) (s : State) : Out :=
  .next (if s.est.dir = d then s
    else
      let s1 := latchEic 168 (s.onEst (fun e => { e with dir := d }))
      match d with
      | .discharge => when_ (estFlag 11 s) (fun t => setLevel 11 false (learnStart 10000 t)) s1
      | .charge => qfullApply (s1.onEst (fun e => { e with learn := none }))
      | .rest => qfullApply s1)

/-! ### Cut-off (R258, R259) -/

/-- The power-down of EST.CUT_ACT begins (R259 step 2). -/
def cutGo (s : State) : State :=
  let k : SleepKind := if pn Pid.EST_CUT_ACT s = 2 then .ship else .deepSleep
  startAllDown [] (s.onEst (fun e => { e with cutDown := some k, withheld := none }))

/-- CUTOFF_SET (R253, R258 to R260, R267). -/
def execCutoffSet (vbat : Nat) (s : State) : Out :=
  let s0 := s.onPath (fun q => { q with vbat := vbat })
  .next (if estFlag 9 s || s.est.dir ≠ .discharge || decide (vCut s * cells s < vbat) then s0
    else
      let s1 := arbitrate (learnEnd 0 (setLevel 9 true s0))
      let s2 := s1.onEst (fun e => { e with soc := 0, fPres := 0, fRated := 0, floorS := 0, floorRatedS := 0 })
      let s3 := chgEval (s2.onPath (fun q => { q with suppMa := 0, supplement := false }))
      let near := (allFin 4).any (fun i => (srcAt i s).inWin)
      let s4 := testPoll s3
      if pn Pid.EST_CUT_ACT s = 0 then s4
      else if near then s4.onEst (fun e => { e with withheld := some s.sys.devTime })
      else cutGo s4)

/-- CUTOFF_CLEAR (R258): held for 10 s above the clearing level. -/
def execCutoffClear (s : State) : Out := .next (chgEval (setLevel 9 false s))

/-- CUTOFF_WITHHOLD_EXPIRY (R259 step 1). -/
def execCutoffWithholdExpiry (s : State) : Out :=
  .next (if s.est.withheld.isNone then s
    else if s.path.link = .source || !estFlag 9 s then s.onEst (fun e => { e with withheld := none })
    else cutGo s)

/-! ### Tests (R263 to R267) -/

/-- TEST_DUE (R263, R264). -/
def execTestDue (k : TestKind) (s : State) : Out :=
  let c := s.store.rtc.cal
  let dtToday := pb Pid.EST_DT_EN s && (s.est.postDt != 0 || s.est.dtDay == some c.dayNo ||
    (c.month == pn Pid.EST_DT_MONTH s && c.day == pn Pid.EST_DT_DAY s))
  let en := match k with
    | .function => pb Pid.EST_FT_EN s && !dtToday
    | .duration => pb Pid.EST_DT_EN s
  let s0 := when_ (k == .duration) (State.onEst (fun e => { e with dtDay := some c.dayNo })) s
  .next (if !en then s0
    else
      let r := testRefusal k false s0
      programAlarms (if r = 0 then setPostponed k 0 (startTest k false false s0) else postpone k r s0))

/-- TEST_END (R267). -/
def execTestEnd (s : State) : Out := .next (endTest 0 0 s)

/-- TEST_START (R264, R266, R270). -/
def execTestStart (p : Port) (tag : Tag) (s : State) : Out :=
  .next (runCmd 0x510 p tag (fun x s =>
    let ty := bitsOf (x.word 1) 0 2
    let force := (x.word 1).getLsbD 8
    if ty ≠ 1 && ty ≠ 2 then outOfRange p tag 0 s
    else
      let k : TestKind := if ty = 1 then .function else .duration
      let r := testRefusal k force s
      if r ≠ 0 then wrongState p tag r s
      else
        let seq := s.store.nvm.test.next
        done p tag [seq.setWidth 32] (startTest k force force s)) s)

/-- TEST_ABORT (R267, R270). -/
def execTestAbort (p : Port) (tag : Tag) (s : State) : Out :=
  .next (runCmd 0x511 p tag (fun _ s =>
    if s.est.test.isNone then wrongState p tag 0 s else done p tag [] (endTest 2 0x3 s)) s)

/-! ### Commands (R262, R270) -/

/-- EST.FIT_AGE_S (R241). -/
def fitAge (s : State) : Nat := min max32 ((s.sys.devTime - s.est.fitAt) / 1000000)

/-- Code of a direction. -/
def dirCode : Direction → Nat
  | .rest => 0
  | .charge => 1
  | .discharge => 2

/-- A 64-bit quantity as two words. -/
def two (v : Int) : List W := [wLo v, wHi v]

/-- Result words of EST_READ. -/
def estWords (sel : Nat) (s : State) : Option (List W) :=
  let e := s.est
  let c := e.caddy
  if sel = 0 then some ([halves (socInt s) e.soc, w32 (sigS s + 65536 * dirCode e.dir), w32 e.floorS, w32 e.floorRatedS,
    w32 e.iLoad, w32 (qFullMah s)] ++ two c.b ++ [w32 e.fit.rs, w32 e.fit.rct, w32 (fitAge s), e.flags])
  else if sel = 1 then some [w32 e.fit.rs, w32 e.fit.rct, w32 e.fit.cdl, w32 e.fit.rdif, w32 e.fit.cdif, wInt e.ocvEst,
    w32 e.fit.residual, w32 e.fits]
  else if sel = 2 then some (two c.qIn ++ two c.qOut ++ two c.qSelf ++ two c.qRebase ++ two c.b ++
    [(s.store.nvm.caddy.next - 1).setWidth 32, w32 (b01 (e.led.accIn == max64) + 2 * b01 (e.led.accOut == max64))])
  else if sel = 3 then some [wInt e.sohFade, wInt e.sohRs, w32 (qFullMah s), w32 (pn Pid.CHG_CAP_MAH s), w32 e.learnCount,
    w32 e.learnTs]
  else none

/-- EST_READ (R270). -/
def execEstRead (p : Port) (tag : Tag) (s : State) : Out :=
  .next (runCmd 0x501 p tag (fun x s =>
    match estWords (bitsOf (x.word 1) 0 8) s with
    | none => outOfRange p tag 0 s
    | some ws => done p tag ws s) s)

/-- EST_LEARN_RESET (R270). -/
def execEstLearnReset (p : Port) (tag : Tag) (s : State) : Out :=
  .next (runCmd 0x520 p tag (fun _ s =>
    if s.sys.mode ≠ .test then wrongState p tag 0 s
    else
      let f := fun (k : TableKind) (t : State) =>
        onTable k (fun x => { x with served := some (factTable k s), steep := none }) t
      let s1 := f .rs (f .cap (f .ocv s))
      let s2 := s1.onEst (fun e => { e with qFull := none, newQFull := none, newU := none, learn := none, sigC := 500,
                                            learnCount := 0, learnTs := 0 })
      done p tag [] (sohUpdate (s2.onNvm (fun n => { n with learned := [], lostTables := [] })))) s)

/-- Run a gauge command: LEDGER mode only (R261). -/
def gauge (op : Nat) (p : Port) (tag : Tag) (ws : State → State × List W) (s : State) : Out :=
  .next (runCmd op p tag (fun _ s =>
    if pn Pid.EST_MODE s ≠ 1 then wrongState p tag 0 s else (let r := ws s; done p tag r.2 r.1)) s)

/-- GAUGE_STATUS (R262); without a temperature reading word 3 is free (log entry 3). -/
def execGaugeStatus (p : Port) (tag : Tag) (s : State) : Out :=
  gauge 0x5C0 p tag (fun u =>
    let fl := b01 (u.est.dir == .discharge) + 2 * b01 (estFlag 11 u) + 4 * b01 (estFlag 7 u) + 8 * b01 (estFlag 9 u)
    let t := match batTemp u with
      | some t => (u, wInt (rdiv (2 * t + 5463) 2))
      | none => (takeFree u, freeW u)
    (t.1, [w32 u.path.vbat, wInt u.path.ibat, w32 (rdivN u.est.soc 100 + 256 * fl), t.2])) s

/-- GAUGE_CAPACITY (R262). -/
def execGaugeCapacity (p : Port) (tag : Tag) (s : State) : Out :=
  gauge 0x5C1 p tag (fun u =>
    (u, [w32 (rdiv (max 0 u.est.caddy.b) 3600).toNat, w32 (qFullMah u), w32 (pn Pid.CHG_CAP_MAH u), w32 u.chg.cycles])) s

/-- GAUGE_TIMES (R262). -/
def execGaugeTimes (p : Port) (tag : Tag) (s : State) : Out :=
  gauge 0x5C2 p tag (fun u =>
    let b := u.est.caddy.b
    let i := u.path.ibat
    let te := if u.est.dir = .discharge && decide (0 < u.est.iLoad) then (rdiv (max 0 b) (60 * u.est.iLoad : Nat)).toNat
      else 0xFFFF
    let tf := if u.est.dir = .charge && decide (0 < i) then (rdiv (max 0 ((qFullMc u : Int) - b)) (60 * i)).toNat else 0xFFFF
    (u, [w32 te, w32 tf, wInt (rdiv u.est.amps.sum u.est.amps.length)])) s

end Sys2Proof.Machine
end

