-- ==== Sys2Proof/Machine/OtpNvm.lean ====
section
/-! DEFINITION. OTP, life cycle, the identity page and the NVM logs: rows OTP_READ to EVLOG_READ, NVM_LOG_WRITE,
LEARNED_DATA_WRITE, DBG_HALT_WRITE (R404 to R423, R440). -/

namespace Sys2Proof.Machine

/-! ### OTP words, shadows, life cycle -/

/-- An OTP word as programmed; spare words read 0 (R414). -/
def otpWord (a : Nat) (s : State) : W := if a < 0x1B0 then sget 0 s.store.otp.words a else 0

/-- A start-up field's word as shadowed (R415). -/
def otpShadow (a : Nat) (s : State) : W := sget 0 s.store.otp.shadow a

/-- Life-cycle states (R420). -/
inductive Lc where | raw | vendorTest | provisioned | customerLocked | fieldReturn | decommissioned
deriving DecidableEq, Repr

/-- The thermometer code of a life-cycle state. -/
def Lc.code : Lc → Nat
  | .raw => 0x00
  | .vendorTest => 0x01
  | .provisioned => 0x03
  | .customerLocked => 0x07
  | .fieldReturn => 0x0F
  | .decommissioned => 0x1F

/-- The state a thermometer word spells; an invalid pattern behaves as DECOMMISSIONED (R420). -/
def lcOf (w : W) : Lc :=
  if w = 0 then .raw else if w = 1 then .vendorTest else if w = 3 then .provisioned
  else if w = 7 then .customerLocked else if w = 0x0F then .fieldReturn else .decommissioned

/-- The pattern is one of R420's. -/
def lcValid (w : W) : Bool := w = 0 || w = 1 || w = 3 || w = 7 || w = 0x0F || w = 0x1F

/-- The life-cycle state in force, from its shadow (R415, R420). -/
def lcNow (s : State) : Lc := lcOf (otpShadow 0x1A0 s)

/-- The bits of `n` words from `a`, bit 0 of the first word first. -/
def thermoBits (a n : Nat) (rd : Nat → W) : List Bool :=
  (List.range (32 * n)).map (fun i => (rd (a + i / 32)).getLsbD (i % 32))

/-- A thermometer has a set bit above a clear bit (R420). -/
def thermoGap (l : List Bool) : Bool := (l.dropWhile (· == true)).any (· == true)

/-- A thermometer's count: the position of the highest set bit plus 1 (R420). -/
def thermoCount (l : List Bool) : Nat := (l.reverse.dropWhile (· == false)).length

/-- The Horto rollback counter in force (R414, R415). -/
def hortoCounter (s : State) : Nat := thermoCount (thermoBits 0x1A1 8 (fun a => otpShadow a s))
/-- The PD rollback counter in force. -/
def pdCounter (s : State) : Nat := thermoCount (thermoBits 0x1A9 6 (fun a => otpShadow a s))

/-- Regions of the OTP (R414): code, first word, words before the digest, digest word. -/
def otpRegion (r : Nat) : Option (Nat × Nat × Nat) :=
  if r = 1 then some (0x000, 0x07E, 0x07E)
  else if r = 2 then some (0x080, 0x09E, 0x09E)
  else if r = 3 then some (0x0A0, 0x0DE, 0x0DE)
  else if r = 4 then some (0x0E0, 0x19E, 0x19E)
  else none

/-- A region is finalised when either digest word is not 0 (R418). -/
def finalised (r : Nat) (rd : Nat → W) : Bool :=
  match otpRegion r with
  | none => false
  | some (_, _, d) => rd d != 0 || rd (d + 1) != 0

/-- The words a region's digest covers: all but the digest words and, in SECURITY, the revocation word (R418). -/
def digestWords (r : Nat) (rd : Nat → W) : List W :=
  match otpRegion r with
  | none => []
  | some (a, e, _) => ((List.range (e - a)).map (a + ·)).filterMap (fun x => if x = 0x0B0 then none else some (rd x))

/-- The digest words of a region: the first 8 bytes of SHA-256, first byte in [7:0] of the lower word (R418). -/
def regionDigest (r : Nat) (rd : Nat → W) : W × W :=
  let h := sha256 (wordsLe (digestWords r rd))
  (leWord (h.take 4), leWord ((h.drop 4).take 4))

/-- Whether OTP_PROGRAM may program a word in a life-cycle state (R418, R421). -/
def otpAllowed (a : Nat) (s : State) : Bool :=
  let lc := lcNow s
  let fin := fun r => finalised r (fun x => otpWord x s)
  if a < 0x080 then (lc = .raw || lc = .vendorTest) && !fin 1
  else if a < 0x084 then lc = .vendorTest && !fin 2
  else if a < 0x09E then (lc = .vendorTest || lc = .provisioned) && !fin 2
  else if a < 0x0A0 then false
  else if a = 0x0B0 then lc = .vendorTest || lc = .provisioned || lc = .customerLocked
  else if a < 0x0E0 then (lc = .vendorTest || lc = .provisioned) && !fin 3
  else if a < 0x1A0 then lc = .provisioned && !fin 4
  else false

/-- Whether a region may be finalised in the present life-cycle state (R421). -/
def finaliseAllowed (r : Nat) (s : State) : Bool :=
  let lc := lcNow s
  if r = 1 then lc = .raw || lc = .vendorTest
  else if r = 2 || r = 3 then lc = .vendorTest || lc = .provisioned
  else lc = .provisioned

/-- The first failing row of R417, 1 to 5; 0 when all hold. -/
def benchRow (h : OtpBench) (s : State) : Nat :=
  if h.vddc < 760 || 840 < h.vddc then 1
  else if pn Pid.OTP_VPP_SRC s = 1 && (h.vpp < 6305 || 6695 < h.vpp) then 2
  else if pn Pid.OTP_VPP_SRC s = 0 && h.vcc5 < 4600 then 3
  else if h.dieT < -200 || 850 < h.dieT then 4
  else if s.sys.mode ≠ .test then 5 else 0

/-- Outcome of a programming operation. -/
inductive BurnEnd where
  /-- Every bit asked for reads 1. -/
  | ok
  /-- A condition failed before the first pulse: the row of R417. -/
  | notStarted (row : Nat)
  /-- A condition failed later: the number of bits programmed. -/
  | condition (bits : Nat)
  /-- A bit did not read 1 after 3 pulses: its word. -/
  | stuck (word : Nat)
deriving DecidableEq, Repr

/-- Set one OTP bit. -/
def Otp.setBit (x : Nat × Nat) (o : Otp) : Otp :=
  { o with words := sset 0 o.words x.1 (sget 0 o.words x.1 ||| (1#32 <<< x.2)) }

/-- Pulse the bits in order (R416, R417): `k` is the number already programmed. -/
def burnFrom (h : OtpBench) : Nat → List (Nat × Nat) → Otp → Otp × BurnEnd
  | _, [], o => (o, .ok)
  | k, x :: l, o =>
    if k ≠ 0 && h.failAfter = some k then (o, .condition k)
    else if h.badBit = some k then (o, .stuck x.1)
    else burnFrom h (k + 1) l (o.setBit x)

/-- The bits that data asks for and that are not yet programmed, lowest word and bit first. -/
def wantedBits (a : Nat) (ws : List W) (s : State) : List (Nat × Nat) :=
  (List.range ws.length).flatMap (fun i => (List.range 32).filterMap (fun b =>
    if (ws.getD i 0).getLsbD b && !(otpWord (a + i) s).getLsbD b then some (a + i, b) else none))

/-- Burn bits under the conditions of R417: the state after it and how it ended. The OTP operation's EIC source is
latched and a stuck bit raises OTP_PROG_FAIL (R416, R471). -/
def burnBits (h : OtpBench) (bits : List (Nat × Nat)) (s : State) : State × BurnEnd :=
  let row := benchRow h s
  if bits.isEmpty then (s, .ok)
  else if row ≠ 0 then (s, .notStarted row)
  else
    let r := burnFrom h 0 bits s.store.otp
    let s1 := latchEic 216 (s.onOtp (fun _ => r.1))
    match r.2 with
    | .stuck w => (raisePick 0x208 0x20 w s1, r.2)
    | e => (s1, e)

/-- Complete a programming command that did not end well; `back` are the words read back (R416, R417). -/
def burnFailed (p : Port) (tag : Tag) (e : BurnEnd) (back : List W) (s : State) : State :=
  match e with
  | .ok => s
  | .notStarted row => wrongState p tag row s
  | .condition n => complete p tag 0x30 [w32 n] s
  | .stuck _ => complete p tag 0x30 back s

/-! ### OTP commands -/

/-- OTP_READ (R415, R440): 1 to 12 words from any address. -/
def execOtpRead (p : Port) (tag : Tag) (s : State) : Out :=
  .next (runCmd 0xB20 p tag (fun x s =>
    let a := bitsOf (x.word 1) 0 9
    let n := bitsOf (x.word 1) 12 4
    if n = 0 || 12 < n || 512 < a + n then outOfRange p tag 0 s
    else done p tag ((List.range n).map (fun i => otpWord (a + i) s)) s) s)

/-- OTP_PROGRAM (R416, R417, R421). -/
def execOtpProgram (p : Port) (tag : Tag) (h : OtpBench) (s : State) : Out :=
  .next (runCmd 0xB21 p tag (fun x s =>
    let a := bitsOf (x.word 1) 0 9
    let n := bitsOf (x.word 1) 12 4
    let ws := (List.range n).map (fun i => x.word (2 + i))
    if n = 0 || 8 < n || 512 < a + n then outOfRange p tag 0 s
    else if !((List.range n).all (fun i => otpAllowed (a + i) s)) then lockedC p tag 0 s
    else
      let r := burnBits h (wantedBits a ws s) s
      let back := (List.range n).map (fun i => otpWord (a + i) r.1)
      if r.2 = .ok then done p tag back r.1 else burnFailed p tag r.2 back r.1) s)

/-- OTP_FINALISE (R418, R421). -/
def execOtpFinalise (p : Port) (tag : Tag) (h : OtpBench) (s : State) : Out :=
  .next (runCmd 0xB22 p tag (fun x s =>
    let r := bitsOf (x.word 1) 0 3
    match otpRegion r with
    | none => outOfRange p tag 0 s
    | some (_, _, d) =>
      if finalised r (fun a => otpWord a s) then wrongState p tag 0 s
      else if !finaliseAllowed r s then lockedC p tag 0 s
      else
        let g := regionDigest r (fun a => otpWord a s)
        let b := burnBits h (wantedBits d [g.1, g.2] s) s
        if b.2 = .ok then done p tag [g.1, g.2] b.1
        else burnFailed p tag b.2 [otpWord d b.1, otpWord (d + 1) b.1] b.1) s)

/-- The life-cycle state a target code names. -/
def lcTarget (c : Nat) : Option Lc :=
  if c = 0x01 then some .vendorTest else if c = 0x03 then some .provisioned else if c = 0x07 then some .customerLocked
  else if c = 0x0F then some .fieldReturn else if c = 0x1F then some .decommissioned else none

/-- The next states that R420 allows. -/
def lcNextOk (now : Lc) (t : Lc) : Bool :=
  match now, t with
  | .raw, .vendorTest => true
  | .vendorTest, .provisioned => true
  | .provisioned, .customerLocked => true
  | .customerLocked, .fieldReturn => true
  | .decommissioned, .decommissioned => false
  | _, .decommissioned => true
  | _, _ => false

/-- At least one key hash is programmed and not revoked (R422). -/
def keyAvailable (s : State) : Bool :=
  let prog := fun a => (List.range 8).any (fun i => otpWord (a + i) s != 0)
  let rev := otpWord 0x0B0 s
  (prog 0x0A0 && !rev.getLsbD 0) || (prog 0x0A8 && !rev.getLsbD 1)

/-- The unmet precondition of R422 in the order of the row, 0 when all are met. -/
def lcUnmet (t : Lc) (s : State) : Nat :=
  let fin := fun r => finalised r (fun a => otpWord a s)
  match t with
  | .provisioned => if fin 1 then 0 else 1
  | .customerLocked =>
    if !fin 2 then 1 else if !fin 3 then 2 else if !fin 4 then 3 else if !keyAvailable s then 4 else 0
  | _ => 0

/-- Erase flash bytes from `a`, `n` of them (R424, R431). -/
def Fw.erase (a n : Nat) (f : Fw) : Fw :=
  { f with flash := f.flash.filter (fun c => c.1 < a || a + n ≤ c.1),
           prog := f.prog.filter (fun c => c.1 < a || a + n ≤ c.1) }

/-- NVM pages 1 to 255 erased (R422). -/
def Nvm.eraseAll (n : Nvm) : Nvm :=
  { n with params := [], learned := [], kettle := [], faultSets := [], test := {}, caddy := {}, event := {}, run := 0 }

/-- What LC_ADVANCE does before the bits are burned (R422). -/
def lcBefore (t : Lc) (s : State) : State :=
  if t = .fieldReturn then
    (s.onNvm Nvm.eraseAll).onFw (fun f => (f.erase 0x1A1000 0x5F000).erase 0x3A1000 0x5F000)
  else s

/-- LC_ADVANCE (R420, R422): refused WRONG_STATE with the unmet precondition, or burned, DONE and a chip reset begun. -/
def execLcAdvance (p : Port) (tag : Tag) (h : OtpBench) (s : State) : Out :=
  .next (runCmd 0xB23 p tag (fun x s =>
    if x.word 2 ≠ 0x4C430000 then outOfRange p tag 1 s
    else match lcTarget (bitsOf (x.word 1) 0 8) with
      | none => wrongState p tag 0 s
      | some t =>
        if !lcNextOk (lcNow s) t then wrongState p tag 0 s
        else if benchRow h s ≠ 0 then wrongState p tag (benchRow h s) s
        else if lcUnmet t s ≠ 0 then wrongState p tag (lcUnmet t s) s
        else
          let b := burnBits h (wantedBits 0x1A0 [w32 t.code] s) (lcBefore t s)
          if b.2 = .ok then
            (done p tag [] b.1).onSys (fun y => { y with resetBegun := some .lcAdvance })
          else burnFailed p tag b.2 [otpWord 0x1A0 b.1] b.1) s)

/-! ### The identity page and the logs -/

/-- ID_LOCK is burned (R413). -/
def idLocked (s : State) : Bool := (otpWord 0x1AF s).getLsbD 0

/-- NVM_LOCK_PAGE (R413, R421). -/
def execNvmLockPage (p : Port) (tag : Tag) (h : OtpBench) (s : State) : Out :=
  .next (runCmd 0xB30 p tag (fun x s =>
    if x.word 1 ≠ 0 then outOfRange p tag 0 s
    else if x.word 2 ≠ 0x4C4B0000 then outOfRange p tag 1 s
    else if !(lcNow s = .provisioned || lcNow s = .customerLocked) then lockedC p tag 0 s
    else if s.store.nvm.idBad then wrongState p tag 0 s
    else
      let b := burnBits h (wantedBits 0x1AF [1] s) s
      if b.2 = .ok then done p tag [] b.1 else burnFailed p tag b.2 [otpWord 0x1AF b.1] b.1) s)

/-- NVM_ID_READ (R413, R440): up to 12 words; DONE_WITH_NOTE while the page fails its ECC. -/
def execNvmIdRead (p : Port) (tag : Tag) (s : State) : Out :=
  .next (runCmd 0xB31 p tag (fun x s =>
    let o := (x.word 1).toNat
    if 63 < o then outOfRange p tag 0 s
    else
      let ws := (List.range (min 12 (64 - o))).map (fun i => sget 0 s.store.nvm.idPage (o + i))
      if s.store.nvm.idBad then doneNote p tag ws s else done p tag ws s) s)

/-- NVM_ID_WRITE (R413): 1 to 60 words in one page write. -/
def execNvmIdWrite (p : Port) (tag : Tag) (s : State) : Out :=
  .next (runCmd 0xB32 p tag (fun x s =>
    let o := (x.word 1).toNat
    let n := x.payload.length - 1
    if idLocked s then lockedC p tag 0 s
    else if 64 < o + n then outOfRange p tag 0 s
    else done p tag [] (s.onNvm (fun v =>
      { v with idBad := false,
               idPage := (List.range n).foldl (fun m i => sset 0 m (o + i) (x.word (2 + i))) v.idPage }))) s)

/-- EVLOG_READ (R440). -/
def execEvlogRead (p : Port) (tag : Tag) (s : State) : Out :=
  .next (runCmd 0xB33 p tag (fun x s =>
    match s.store.nvm.event.find (eventCap s) ((x.word 1).setWidth 16) with
    | none => badId p tag 0 s
    | some e => done p tag e s) s)

/-- CADDY_READ (R270). -/
def execCaddyRead (p : Port) (tag : Tag) (s : State) : Out :=
  .next (runCmd 0x502 p tag (fun x s =>
    match s.store.nvm.caddy.find (caddyCap s) ((x.word 1).setWidth 16) with
    | none => badId p tag 0 s
    | some e => done p tag e s) s)

/-- TEST_LOG_READ (R268, R270): the newest 128 entries are reported. -/
def execTestLogRead (p : Port) (tag : Tag) (s : State) : Out :=
  .next (runCmd 0x512 p tag (fun x s =>
    match s.store.nvm.test.find (min 128 (testCap s)) ((x.word 1).setWidth 16) with
    | none => badId p tag 0 s
    | some e => done p tag e s) s)

/-- Other NVM operations wait while a save runs (R411); no page is written in reset. -/
def nvmFree (s : State) : Bool := !s.sys.saving && !s.sys.inReset && s.sys.boot.recallDone

/-- Page writes in the background keep the NVM busy for 0.20 ms each (R92, R405). -/
def busyPages (n : Nat) (s : State) : State :=
  s.onSys (fun y => { y with nvmBusy := if n = 0 then y.nvmBusy else max y.nvmBusy y.devTime + 200 * n })

/-- Pages that the staged entries of a ring fill: entries that share a page are written together (R406, R407). -/
def LogRing.stagedPages (l : LogRing) : Nat := if l.staged = 0 then 0 else (l.written + l.staged - 1) / 8 - l.written / 8 + 1

/-- NVM_LOG_WRITE (R405 to R407): every staged entry reaches its ring. -/
def execNvmLogWrite (bad : Option (BitVec 8)) (s : State) : Out :=
  .next (if nvmFree s then
    let n := s.store.nvm
    retireOpt bad ((busyPages (n.test.stagedPages + n.caddy.stagedPages + n.event.stagedPages) s).onNvm (fun n => { n with test := n.test.flush, caddy := n.caddy.flush, event := n.event.flush }))
    else s)

/-- The learned data as it stands (R404). -/
def learnedNow (s : State) : LearnedSet :=
  { ocv := s.est.ocv.served, cap := s.est.cap.served, rs := s.est.rs.served, qFull := s.est.qFull, sigC := s.est.sigC,
    learnCount := s.est.learnCount, learnTs := s.est.learnTs,
    ph := s.pwr.ph.toList.map (fun x => (x.lEst, x.rEst)) }

/-- LEARNED_DATA_WRITE (R405 to R407): one write of four pages carries every pour and phase-health estimate since the last. -/
def execLearnedDataWrite (bad : Option (BitVec 8)) (s : State) : Out :=
  .next (if nvmFree s && s.store.nvm.learnedDirty then
    retireOpt bad ((busyPages 4 s).onNvm (fun n => { n with learned := takeTurn 2 (learnedNow s) n.learned, learnedDirty := false }))
    else s)

/-! ### The debug window -/

/-- The debug window is permitted (R421, R423). -/
def debugOpen (s : State) : Bool :=
  match lcNow s with
  | .raw => true
  | .vendorTest => true
  | .provisioned => true
  | .customerLocked => false
  | .fieldReturn => true
  | .decommissioned => false

/-- DBG_HALT_WRITE (R79, R423): halts or resumes processors; elsewhere the write is refused with ADDR_ERR. -/
def execDbgHaltWrite (p : HPort) (v : W) (s : State) : Out :=
  .next (hifDo (fun s =>
    if debugOpen s then s.onSys (fun y => { y with dbgHalt := v.setWidth 9 })
    else onPortNew (hport p) (fun q => { q with addrErr := true }) s) s)

end Sys2Proof.Machine
end

