-- ==== Sys2Proof/Machine/FwOps.lean ====
section
/-! DEFINITION. Flash banks, activation records, image verification and the rollback counters (R424 to R430), shared by secure
boot and the firmware commands. -/

namespace Sys2Proof.Machine

/-! ### Flash (R424, R427, R431) -/

/-- First byte of a bank; `true` is bank B. -/
def bankBase (b : Bool) : Nat := if b then 0x200000 else 0

/-- A flash word. -/
def flashW (a : Nat) (s : State) : W := Memory.readW .flash s.store.fw.flash a

/-- Program bytes from `a` and mark them as programmed. -/
def Fw.program : Nat → List Byte → Fw → Fw
  | _, [], f => f
  | a, b :: l, f => Fw.program (a + 1) l
      { f with flash := Memory.write .flash f.flash a b, prog := sset false f.prog a true }

/-- An activation record (R427). -/
structure BankRec where
  seq : W
  st : Nat
  pdSel : Bool
  pdTrial : Bool
deriving DecidableEq, Repr

/-- Record `i` of a bank, when its CRC is correct. -/
def recAt (b : Bool) (s : State) (i : Nat) : Option BankRec :=
  let ws := (List.range 16).map (fun k => flashW (bankBase b + 64 * i + 4 * k) s)
  if ws.all (fun w => w = 0xFFFFFFFF) then none
  else if crcWords (ws.take 15) = (ws.getD 15 0).setWidth 16 then
    let w := (ws.getD 1 0)
    some { seq := ws.getD 0 0, st := w.toNat % 16, pdSel := w.getLsbD 8, pdTrial := w.getLsbD 9 }
  else none

/-- A bank's newest record: the highest-addressed one with a correct CRC. -/
def newestRec (b : Bool) (s : State) : Option BankRec := (List.range 64).reverse.findSome? (recAt b s)

/-- Records used in a bank, those cut short included. -/
def usedRecs (b : Bool) (s : State) : Nat :=
  (s.store.fw.prog.map (fun e =>
    if bankBase b ≤ e.1 && e.1 < bankBase b + 4096 then (e.1 - bankBase b) / 64 + 1 else 0)).foldl max 0

/-- A bank is eligible: its newest record exists and is not REVERTED. -/
def eligible (b : Bool) (s : State) : Bool := (newestRec b s).any (fun r => r.st != 3)

/-- The active bank: the eligible bank whose newest record has the larger SEQ; bank A when none is eligible (R427). -/
def activeBank (s : State) : Bool :=
  let q := fun (b : Bool) => (newestRec b s).elim 0 (fun r => r.seq.toNat)
  if eligible true s then !(eligible false s) || decide (q false < q true) else false

/-- The words of an activation record. -/
def recWordList (r : BankRec) (s : State) : List W :=
  let ws := [r.seq, w32 (r.st % 16 + 256 * b01 r.pdSel + 512 * b01 r.pdTrial), w32 (timestamp s)] ++ List.replicate 12 0
  ws ++ [(crcWords ws).setWidth 32]

/-- Write a record at index `i` of a bank; none is written beyond the 64 that fit. -/
def putRec (b : Bool) (i : Nat) (r : BankRec) (s : State) : State :=
  if 64 ≤ i then s else s.onFw (fun f => Fw.program (bankBase b + 64 * i) (wordsLe (recWordList r s)) f)

/-- Write the next record of a bank: its newest one with SEQ one above and a change. -/
def appendRec (b : Bool) (f : BankRec → BankRec) (s : State) : State :=
  let r := (newestRec b s).getD { seq := 0, st := 2, pdSel := false, pdTrial := false }
  putRec b (usedRecs b s) (f { r with seq := r.seq + 1 }) s

/-! ### Images (R425, R426, R430) -/

/-- Key hash `k` is programmed and not revoked. -/
def keyGood (k : Nat) (s : State) : Bool :=
  (List.range 8).any (fun i => otpWord (0x0A0 + 8 * k + i) s ≠ 0) && !(otpWord 0x0B0 s).getLsbD k

/-- The key of an image is accepted in the present life-cycle state (R421, R426). -/
def keyOk (k : ImgKey) (s : State) : Bool :=
  match k with
  | .hash0 => keyGood 0 s
  | .hash1 => keyGood 1 s
  | .manufacturing => lcNow s == .raw || lcNow s == .vendorTest
  | .unknown => false

/-- An image verifies as such; in DECOMMISSIONED none does (R421, R426). -/
def imgOk (f : ImgFacts) (s : State) : Bool :=
  f.magicOk && f.fits && f.hashOk && keyOk f.key s && f.sigOk && lcNow s != .decommissioned

/-- A Horto image verifies, its ROLLBACK not below the counter (R428, R430). -/
def hortoOk (f : ImgFacts) (s : State) : Bool := imgOk f s && decide (hortoCounter s ≤ f.rollback)
/-- A PD image verifies: ROLLBACK at or below 192 and not below the counter (R426, R430). -/
def pdOk (f : ImgFacts) (s : State) : Bool := imgOk f s && decide (pdCounter s ≤ f.rollback ∧ f.rollback ≤ 192)
/-- A configuration image was made for the MAJOR and MINOR of a Horto version (R426). -/
def madeForOk (f : ImgFacts) (horto : W) : Bool := decide (f.madeFor >>> 16 = horto >>> 16)
/-- A configuration image verifies beside a Horto version; its validity rules apart (R426). -/
def cfgOk (f : ImgFacts) (horto : W) (s : State) : Bool := imgOk f s && madeForOk f horto

/-- The images of a bank. -/
def bankOf (f : BootFacts) (b : Bool) : BankImages := if b then f.b else f.a
/-- A PD slot of a bank. -/
def pdImg (x : BankImages) (slot : Bool) : ImgFacts := if slot then x.pd1 else x.pd0

/-- The images of the booted bank as last verified. -/
def bootedImages (s : State) : Option BankImages := s.store.fw.facts.map (fun f => bankOf f s.store.fw.bankB)

/-! ### Rollback counters (R414, R430) -/

/-- Bits still to burn so that a thermometer of words from `a` reads `n`. -/
def thermoWanted (a n : Nat) (s : State) : List (Nat × Nat) :=
  (List.range n).filterMap (fun i =>
    if (otpWord (a + i / 32) s).getLsbD (i % 32) then none else some (a + i / 32, i % 32))

/-- Burn the counters up to the ROLLBACK of the booted Horto image, when `both`, and of the PD image in use unless it is on trial; what could not be
burned is retried (R430, R433). -/
def burnCounters (h : OtpBench) (both : Bool) (s : State) : State :=
  match bootedImages s with
  | none => s
  | some x =>
    let bits := (if both then thermoWanted 0x1A1 (min 256 x.horto.rollback) s else []) ++
      (if s.store.fw.pdTrial then [] else thermoWanted 0x1A9 (min 192 (pdImg x s.store.fw.pdSel).rollback) s)
    let r := burnBits h bits s
    r.1.onFw (fun f => { f with burnDue := decide (r.2 ≠ .ok) })

/-- FW_IMAGE (R440). -/
def fwEvent (detail : Nat) (s : State) : State := raiseEvent 0xB001 (w32 detail) s

/-! ### The PD image (R428, R433) -/

/-- The PD core takes an image from a slot of the booted bank. -/
def loadPd (slot : Bool) (x : ImgFacts) (s : State) : State :=
  (s.onFw (fun f => { f with pdSel := slot, pdVersion := some x.version })).onSys (fun y => { y with pdfw := x.version })

/-- The other PD slot is taken: a record with PD_SEL flipped and PD_TRIAL clear (R428). -/
def flipPd (s : State) : State :=
  let slot := s.store.fw.pdSel
  (appendRec s.store.fw.bankB (fun r => { r with pdSel := !slot, pdTrial := false }) s).onFw
    (fun f => { f with pdSel := !slot, pdTrial := false })

/-- The PD image is taken from the slot in use; when that slot fails, or when a Heddle block reset has ended a PD trial, from the
other one; when both fail the ports stay DISABLED (R348, R428, R433). -/
def takePd (s : State) : State :=
  match bootedImages s with
  | none => s
  | some x =>
    let sel := s.store.fw.pdSel
    let revert := s.store.fw.pdTrial && s.pd.heddleReset
    let a := if revert then !sel else sel
    let ok := fun (t : Bool) => pdOk (pdImg x t) s
    if !(ok a) && !(ok (!a)) then
      raisePick 0x1C4 0x16 0 ((s.onPd (fun q => { q with imageBad := true })).onSys (fun y => { y with pdfw := 0 }))
    else
      let slot := if ok a then a else !a
      let s1 := s.onPd (fun q => { q with imageBad := false })
      let s2 := if slot = sel then s1 else flipPd s1
      let s3 := if revert && slot != sel then raisePickEv 0x210 0x29 0 (some (0xB001, w32 0x103)) s2
        else if slot != sel then raisePick 0x210 0x28 0 s2 else s2
      loadPd slot (pdImg x slot) s3

end Sys2Proof.Machine
end

