-- ==== Sys2Proof/Machine/Charger.lean ====
section
/-! DEFINITION. The charger: the rows of chapter 05 (R130 to R158). -/

namespace Sys2Proof.Machine

/-- CHG_START (R153, R156). -/
def execChgStart (p : Port) (tag : Tag) (s : State) : Out :=
  .next (runCmd 0x201 p tag (fun x s =>
    if s.chg.st = .suspended || !pb Pid.CHG_EN s || (s.heddle.safeHold && pn Pid.CHG_SAFEHOLD s == 1) then
      wrongState p tag 0 s
    else
      let f := (x.word 1).getLsbD 0
      let s1 := s.onChg (fun c => { c with started := true, absLatch := false, ovTimes := [], offFlag := false,
                                           force := c.force || f })
      let s2 := if s.chg.st = .off then chgWait s1
        else if s.chg.st = .batteryAbsent then s1
        else
          let t := chgEval s1
          when_ (t.chg.st != .wait && t.chg.st != .discharge) startCheck t
      done p tag [w32 s2.chg.st.code] s2) s)

/-- CHG_STOP (R153). -/
def execChgStop (p : Port) (tag : Tag) (s : State) : Out :=
  .next (runCmd 0x202 p tag (fun _ s => done p tag [] (chgStop s)) s)

/-- CHG_START_CHECK (R136, R137). -/
def execChgStartCheck (vbatAvg : Nat) (s : State) : Out :=
  .next (if chgRuns s && s.chg.checkDue then
      let s0 := s.onPath (fun q => { q with vbat := vbatAvg })
      let fresh := s.chg.newCycle || s.chg.force || s.chg.cycle.isNone || netDischarged s0
      let s1 := when_ fresh newChgCycle s0
      let st0 := checkState vbatAvg s0
      let st1 := if s.chg.force && (st0 == .done || st0 == .float) then .cc else st0
      chgSet (safeFloat st1 s0) false
        (s1.onChg (fun c => { c with checkDue := false, force := false, cut := false, ccSet := pn Pid.CHG_I_CC_MA s,
                                     cvSet := 10 * (vCv s * cells s) }))
    else s)

/-- What a tick finds about external limits (R146): the demand and the current that the limits allow. -/
def tickLimits (st : ChgState) (o : ChgObs) (s : State) : Nat × Nat :=
  let demand := if st = .cv || st = .float then min o.loopMa s.chg.ccSet else phaseMa st s
  let thr := if s.chg.throtPct < 100 then [rdivN (pn Pid.CHG_I_CC_MA s * s.chg.throtPct) 100] else []
  let lnk := if o.vlink ≤ pn Pid.CHG_VLINK_MIN_MV s then [o.linkMa] else []
  (demand, (o.inputMa.toList ++ thr ++ lnk).foldl min demand)

/-- The transition of R138 that a tick brings, with its counts: the new state, whether it is a downward move. -/
def tickMove (st : ChgState) (o : ChgObs) (s : State) : State × Option (ChgState × Bool) :=
  let n := cells s
  let c := s.chg
  let cnt := fun (b : Bool) (k : Nat) => if b then k + 1 else 0
  let up := match st with
    | .trickle => cnt (decide (vTrk s * n ≤ o.vMin)) c.upTicks
    | .precharge => cnt (decide (vPre s * n ≤ o.vMin)) c.upTicks
    | .cc => cnt (decide (o.loopMa < c.ccSet)) c.upTicks
    | _ => 0
  let dn := match st with
    | .precharge => cnt (decide (o.vMax < (vTrk s - vHyst s) * n)) c.downTicks
    | .cc => cnt (decide (o.vMax < (vPre s - vHyst s) * n)) c.downTicks
    | .cv => cnt (decide (o.vMax < (vPre s - vHyst s) * n)) c.downTicks
    | _ => 0
  let fl := if st = .cv then cnt (decide (c.ccSet ≤ o.loopMa)) c.fullTicks else 0
  let mv : Option (ChgState × Bool) :=
    match st with
    | .trickle => if 10 ≤ up then some (.precharge, false) else none
    | .precharge => if 10 ≤ up then some (.cc, false) else if 10 ≤ dn then some (.trickle, true) else none
    | .cc => if 1 ≤ up then some (.cv, false) else if 10 ≤ dn then some (.precharge, true) else none
    | .cv => if 10 ≤ fl then some (.cc, false) else if 10 ≤ dn then some (.precharge, true) else none
    | _ => none
  (s.onChg (fun c => { c with upTicks := up, downTicks := dn, fullTicks := fl }), mv)

/-- The termination count of R139 at a tick of CV. -/
def tickTerm (o : ChgObs) (binds : Bool) (s : State) : State :=
  let set := pn Pid.CHG_I_TERM_MA s
  let lev : Int := if set = 0 then (rdivN (pn Pid.CHG_CAP_MAH s) 20 : Nat) else (set : Nat)
  if binds then s
  else if lev ≤ o.avgMa then s.onChg (fun c => { c with termCount := 0 })
  else if o.loopMa < s.chg.ccSet then s.onChg (fun c => { c with termCount := c.termCount + 1 })
  else s

/-- The timer of a state's phase adds `n` (R144, R145). -/
def tickTimer (st : ChgState) (n : Nat) (s : State) : State :=
  s.onChg (fun c =>
    match timerPhase st with
    | 1 => { c with tmrTrk := c.tmrTrk + n }
    | 2 => { c with tmrPre := c.tmrPre + n }
    | 3 => { c with tmrCc := c.tmrCc + n }
    | _ => c)

/-- The CC set point follows CHG.I_CC_MA by at most ten steps of 10 % of the new value per tick (R158). -/
def ccSlew (s : State) : Nat :=
  let v := pn Pid.CHG_I_CC_MA s
  if s.chg.ccSet < v then min v (s.chg.ccSet + v) else max v (s.chg.ccSet - v)

/-- The CV set point follows CHG.V_CV by at most 1 mV per cell per second (R142, R158), in 0.1 mV. -/
def cvSlew (s : State) : Nat :=
  let v := 10 * (vCv s * cells s)
  if s.chg.cvSet < v then min v (s.chg.cvSet + cells s) else max v (s.chg.cvSet - cells s)

/-- CHG_TICK (R138, R139, R144 to R146, R158). DEDUCED: a tick in a start check adds to no timer, since the converter idles for it
(R145, log entry 17). -/
def execChgTick (o : ChgObs) (s : State) : Out :=
  .next (if !chgRuns s then s
    else
      let s1 := chgEval (s.onPath (fun q => { q with vlink := o.vlink, suppMa := min q.suppMa (pn Pid.CHG_I_DIS_MAX_MA s) }))
      let st := s1.chg.st
      if !st.charging || s1.chg.checkDue then s1
      else
        let s2 := s1.onChg (fun c => { c with ccSet := ccSlew s1, cvSet := cvSlew s1 })
        let l := tickLimits st o s2
        let binds := decide (l.2 < l.1)
        let s3 := tickTimer st (if binds then 1 else 2) (s2.onChg (fun c => { c with chargeMa := l.2 }))
        let m := tickMove st o s3
        match m.2 with
        | some (t, down) => chgSet t false (when_ down (raisePick 0x148 0x1B 0) m.1)
        | none =>
          let ph := timerPhase st
          let s4 := m.1.onChg (fun c => { c with expiry := decide (ph ≠ 0 ∧ timerLimit ph s3 ≤ timerAcc ph s3) })
          if st = .cv then tickTerm o binds s4 else s4)

/-- CHARGE_TIMEOUT (R147). -/
def execChargeTimeout (s : State) : Out :=
  .next (if s.chg.expiry && s.chg.st.inCycle then
      let ph := timerPhase s.chg.st
      raisePickEv 0x148 0x18 ph (some (0x2002, 0))
        (chgSet .suspended false
          (s.onChg (fun c => { c with tmoPhase := ph, absSinceTmo := false, checkDue := false })))
    else s)

/-- CHG_TERMINATION (R139): 60 s of 100 ms ticks. -/
def execChgTermination (s : State) : Out :=
  .next (if s.chg.st = .cv && decide (600 ≤ s.chg.termCount) then chgSet (if vrla s then .float else .done) true s else s)

/-- DONE_RECHARGE (R140). -/
def execDoneRecharge (vbat : Nat) (s : State) : Out :=
  let s0 := s.onPath (fun q => { q with vbat := vbat })
  .next (if chgRuns s && s.chg.st = .done && !vrla s && decide (vbat < vRechg s * cells s) then
      startCheck (s0.onChg (fun c => { c with newCycle := true }))
    else s0)

/-- FLOAT_REBULK (R141, R156). -/
def execFloatRebulk (iAvg : Int) (s : State) : Out :=
  let set := pn Pid.CHG_I_REBULK_MA s
  let lev : Int := if set = 0 then (rdivN (pn Pid.CHG_CAP_MAH s) 10 : Nat) else (set : Nat)
  .next (if chgRuns s && s.chg.st = .float && !s.heddle.safeHold && decide (lev ≤ iAvg) then
      startCheck (s.onChg (fun c => { c with newCycle := true }))
    else s)

/-- FLOAT_RECOMPUTE (R142): slewed by at most 1 mV per cell in the second. -/
def execFloatRecompute (s : State) : Out :=
  .next (if !vrla s then s
    else
      let v := floatLevel (batTemp s) s
      let n := cells s
      s.onChg (fun c =>
        { c with floatMv := if c.st ≠ .float then v
                            else if c.floatMv < v then min v (c.floatMv + n) else max v (c.floatMv - n) }))

/-- BATPRES_ABSENT (R149): the GPIO named by CHG.BATPRES is at its absent level. -/
def execBatpresAbsent (s : State) : Out :=
  .next (if pn Pid.CHG_BATPRES s = 0xFF then s else chgAbsent 1 true (latchEic 136 s))

/-- BATTERY_OV_TRIP (R149). -/
def execBatteryOvTrip (vbat : Nat) (s : State) : Out :=
  let s0 := s.onPath (fun q => { q with vbat := vbat })
  .next (if vOv s * cells s ≤ vbat then chgAbsent 2 true (latchEic 135 s0) else s0)

/-- BATTERY_PRESENT (R150). In another state, which CHG_STOP may have brought, presence only ends the hardware stop (log entry 17). -/
def execBatteryPresent (vbat absentS : Nat) (s : State) : Out :=
  let s0 := s.onPath (fun q => { q with vbat := vbat })
  let n := cells s
  .next (if chgRuns s && s.chg.st = .batteryAbsent && !s.chg.absLatch &&
      decide (vPresent s * n ≤ vbat ∧ vbat < (vOv s - vHyst s) * n) then
      let long := decide (5 ≤ absentS)
      chgResume (raisePickEv 0x148 0x1A 0 (some (0x2004, 0)) (s0.onChg (fun c =>
        { c with kill := false, newCycle := c.newCycle || long, absSinceTmo := c.absSinceTmo || long,
                 tmrTrk := if long then 0 else c.tmrTrk, tmrPre := if long then 0 else c.tmrPre,
                 tmrCc := if long then 0 else c.tmrCc })))
    else if chgRuns s && s.chg.st ≠ .batteryAbsent && s.chg.kill &&
        decide (vPresent s * n ≤ vbat ∧ vbat < (vOv s - vHyst s) * n) then chgDrive (s0.onChg (fun c => { c with kill := false }))
    else s0)

/-- OV_ABSENCE_EXPIRY (R150). -/
def execOvAbsenceExpiry (s : State) : Out := .next (s.onChg (fun c => { c with ovTimes := [] }))

/-- The converter mode that a ratio calls for, with the hysteresis of R131 toward the mode in use. -/
def nextMode (m : ConvMode) (vlink vbat : Nat) : ConvMode :=
  if 115 * vbat ≤ 100 * vlink then .buck
  else if 100 * vlink ≤ 87 * vbat then .boost
  else match m with
    | .buck => if 112 * vbat ≤ 100 * vlink then .buck else .buckBoost
    | .boost => if 100 * vlink ≤ 90 * vbat then .boost else .buckBoost
    | .buckBoost => .buckBoost

/-- CONVERTER_MODE_CHANGE (R131). -/
def execConverterModeChange (vlink vbat : Nat) (s : State) : Out :=
  .next ((s.onPath (fun q => { q with vlink := vlink, vbat := vbat })).onChg
    (fun c => { c with mode := nextMode c.mode vlink vbat }))

end Sys2Proof.Machine
end

