-- ==== Sys2Proof/Machine/KettleOps.lean ====
section
/-! DEFINITION. The kettle set and the fault set: what a save takes, what recall gives back, and the rebuild of the caddy and
the charger record (R23, R68, R154, R269, R358, R411). -/

namespace Sys2Proof.Machine

/-- The kettle set as the kettle-set region stands (R269, R144, R154, R393, R410). -/
def kettleNow (complete : Bool) (s : State) : KettleSet :=
  { complete := complete, run := s.store.nvm.run, time := s.sys.devTime, ts := timestamp s, tsValid := s.store.rtc.valid,
    cal := s.store.rtc.cal, est := s.est, staged := newest s.store.nvm.caddy.staged s.store.nvm.caddy.entries, chg := s.chg, transfers := s.path.transfers, first := s.heddle.first, recent := s.heddle.recent, violations := s.heddle.violations }

/-- The fault set as the Selvedge stands (R358). -/
def faultNow (complete : Bool) (s : State) : FaultSet :=
  { complete := complete, frozen := s.selv.frozen, ring := s.selv.ring, received := s.selv.received, stored := s.selv.stored,
    dropped := s.selv.dropped, time := s.sys.devTime }

/-- Fault sets kept: the four newest complete ones, and an incomplete one that is newest (R358). -/
def keepFaults (l : List (Nat × FaultSet)) : List (Nat × FaultSet) :=
  match l with
  | [] => []
  | x :: r => if x.2.complete then x :: (r.filter (fun y => y.2.complete)).take 3
    else x :: (r.filter (fun y => y.2.complete)).take 4

/-- A save reaches its slots (R411). -/
def writeSave (complete : Bool) (s : State) : State :=
  s.onNvm (fun n => { n with kettle := takeTurn 2 (kettleNow complete s) n.kettle,
                             faultSets := keepFaults (takeTurn 5 (faultNow complete s) n.faultSets) })

/-- A save in progress is cut short: its slots stay incomplete (R358, R411). -/
def cutSave (s : State) : State :=
  if s.sys.saving then (writeSave false s).onSys (fun y => { y with saving := false }) else s

/-- The newest kettle set whose pages all pass their checks (R409). -/
def newestKettle (s : State) : Option KettleSet := (s.store.nvm.kettle.find? (fun x => x.2.complete)).map (·.2)

/-- The estimator's record as a kettle set saved at device time `at_` holds it (R269); what the set does not hold stays. The counts of
R251, R260 and R264 go with it (log entry 19). After POR the pairs start at 0, the direction is REST, device time starts anew, and of
EST.FLAGS only DISAGREE, CAP_LEARN and the levels come back (R239, R241, R254, R269, R271). -/
def estFrom (por : Bool) (at_ : Nat) (k e : Est) : Est :=
  let r := { e with caddy := k.caddy, pendSelf := k.pendSelf, socQ := k.socQ, sigQ := k.sigQ, ocvEst := k.ocvEst, fit := k.fit, soc := k.soc,
                    fPres := k.fPres, fRated := k.fRated, floorS := k.floorS, floorRatedS := k.floorRatedS, sohFade := k.sohFade,
                    sohRs := k.sohRs, sohFadePost := k.sohFadePost, sohRsPost := k.sohRsPost, postFt := k.postFt, postDt := k.postDt,
                    dtDay := k.dtDay, resultDue := k.resultDue, disagreeGone := k.disagreeGone, test := k.test }
  if por then { r with flags := k.flags &&& 0xFC3#32, rebaseAt := k.rebaseAt - at_ }
  else { r with flags := k.flags, rebaseAt := k.rebaseAt, v1 := k.v1, v2 := k.v2, dir := k.dir, fitAt := k.fitAt, fits := k.fits,
                ocvConf := k.ocvConf }

/-- The charger's record as a kettle set holds it, for a start after POR (R144, R153 to R155, R410): the charger starts in OFF and
the next start check begins a new cycle. -/
def chgFrom (k c : Chg) : Chg :=
  { c with tmrTrk := k.tmrTrk, tmrPre := k.tmrPre, tmrCc := k.tmrCc, termCount := k.termCount, ovTimes := k.ovTimes,
           tmoPhase := k.tmoPhase, cycles := k.cycles, newCycle := true }

/-- sigma_S of 50 % (R238, R410). -/
def sigHalf (s : State) : State := setSig 5000 s

/-- The caddy is rebuilt from the newest copy in NVM and the change of the accumulator since that copy, by a REBASE_REBUILD
entry (R23, R68); after a copy of an earlier run the sums count from POR. SoC_int and sigma_S follow the interval (R252). Without a copy
no caddy is valid, and one that is not valid stays at 0 (R238). -/
def rebuildCaddy (s : State) : State :=
  match newestKettle s with
  | none => sigHalf (s.onEst (fun e =>
      { e with caddy := {}, led := { e.led with lastIn := e.led.accIn, lastOut := e.led.accOut, fracIn := 0, fracOut := 0 } }))
  | some k =>
    let l := s.est.led
    let older := decide (k.run < s.store.nvm.run)
    let was : Ledger := if older then { fracIn := k.est.led.fracIn, fracOut := k.est.led.fracOut } else k.est.led
    let i := codesToMc (l.accIn - was.lastIn) was.fracIn s
    let o := codesToMc (l.accOut - was.lastOut) was.fracOut s
    let d : Int := if k.est.caddy.valid then (i.1 : Int) - o.1 else 0
    let s1 := s.onEst (fun e =>
      let r := estFrom older k.time k.est e
      { r with led := { e.led with lastIn := l.accIn, lastOut := l.accOut, fracIn := i.2, fracOut := o.2, readAt := s.sys.devTime },
               caddy := { r.caddy with qRebase := r.caddy.qRebase + d, b := r.caddy.b + d },
               socQ := clampI 0 (qFullMc s) (r.socQ + d),
               sigQ := r.sigQ + 2 * (i.1 + o.1) + rdivN (s.sys.devTime - was.readAt) (pn Pid.EST_RSHUNT_UOHM s) })
    if k.est.caddy.valid then caddyEntry 0x15 0 d (s1.onEst (fun e => { e with rebaseAt := s.sys.devTime })) else s1

/-- The charger record is lost (R154): CHG_RECORD_LOST, the CHARGE_TIMEOUT latch from its NVM copy, a new cycle. Whatever state the
record held is lost with it. -/
def chgRecordLost (s : State) : State :=
  let tmo := (newestKettle s).elim 0 (fun k => k.chg.tmoPhase)
  let s1 := raisePick 0x148 0x1C 0 (s.onChg (fun c =>
    { c with cycle := none, newCycle := true, tmrTrk := 0, tmrPre := 0, tmrCc := 0, termCount := 0, ovTimes := [], offFlag := false,
             tmoPhase := tmo, cut := false }))
  let lost := s1.onChg (fun c => { c with st := if tmo ≠ 0 then .suspended else .wait })
  if !chgRuns s then lost else if tmo ≠ 0 then chgSet .suspended false s1 else chgWait s1

/-- Horto applies R23 to the kettle-set region (R23, R361). -/
def rebuildKettle (s : State) : State := chgRecordLost (rebuildCaddy s)

end Sys2Proof.Machine
end

