-- ==== Sys2Proof/Machine/SelvOps.lean ====
section
/-! DEFINITION. Picks as the Selvedge classes and stores them: kinds, reaction sets, records, merging, sticky status, armed
injections (R351 to R363, R369, R467 to R470, R475). -/

namespace Sys2Proof.Machine

/-! ### Kinds (R353, R467, R468) -/

/-- Every pick that is sent: first and last source, first and last kind, and whether it is a NOTE kind. -/
def pickTable : List (Nat × Nat × Nat × Nat × Bool) :=
  [(0x020, 0x02C, 0x01, 0x01, true), (0x030, 0x031, 0x01, 0x01, true), (0x020, 0x02C, 0x02, 0x02, false),
   (0x030, 0x031, 0x02, 0x02, false), (0x032, 0x032, 0x03, 0x03, false), (0x041, 0x042, 0x03, 0x03, false),
   (0x000, 0x001, 0x04, 0x04, false), (0x000, 0x008, 0x05, 0x05, false), (0x041, 0x041, 0x06, 0x06, false),
   (0x01F, 0x01F, 0x07, 0x07, false), (0x01C, 0x01C, 0x08, 0x08, false), (0x01C, 0x01C, 0x09, 0x09, true),
   (0x01E, 0x01E, 0x0A, 0x0A, false), (0x000, 0x000, 0x0B, 0x0B, true), (0x01D, 0x01D, 0x0C, 0x0C, true)] ++
  [(0x000, 0x001, 0x10, 0x10, false), (0x001, 0x001, 0x11, 0x12, true), (0x040, 0x040, 0x10, 0x14, false),
   (0x060, 0x063, 0x10, 0x10, true), (0x080, 0x08B, 0x10, 0x10, true), (0x080, 0x08B, 0x11, 0x15, false),
   (0x080, 0x08B, 0x16, 0x18, true), (0x0A0, 0x0B7, 0x10, 0x11, false), (0x0A0, 0x0B7, 0x12, 0x12, true),
   (0x0E0, 0x0E7, 0x10, 0x10, false), (0x0E0, 0x0E7, 0x11, 0x11, true), (0x100, 0x11F, 0x10, 0x11, false),
   (0x120, 0x127, 0x18, 0x18, false), (0x120, 0x127, 0x19, 0x19, true), (0x120, 0x128, 0x1A, 0x1A, false),
   (0x120, 0x127, 0x1B, 0x1B, false), (0x128, 0x128, 0x1C, 0x1C, true), (0x141, 0x142, 0x10, 0x10, true),
   (0x141, 0x144, 0x11, 0x11, false), (0x140, 0x140, 0x12, 0x12, false), (0x141, 0x142, 0x13, 0x14, false)] ++
  [(0x148, 0x148, 0x18, 0x19, false), (0x148, 0x148, 0x1A, 0x1B, true), (0x148, 0x148, 0x1C, 0x1C, false),
   (0x160, 0x160, 0x10, 0x10, false), (0x161, 0x161, 0x11, 0x11, false), (0x162, 0x162, 0x12, 0x12, false),
   (0x163, 0x163, 0x13, 0x13, false), (0x164, 0x164, 0x14, 0x14, true), (0x181, 0x181, 0x10, 0x11, false),
   (0x182, 0x182, 0x12, 0x12, false), (0x183, 0x183, 0x13, 0x13, true), (0x188, 0x18F, 0x14, 0x15, true),
   (0x1A0, 0x1A0, 0x10, 0x10, true), (0x1A8, 0x1AF, 0x10, 0x10, true), (0x1A0, 0x1A0, 0x11, 0x12, false),
   (0x1A8, 0x1AF, 0x11, 0x12, false), (0x1B0, 0x1BB, 0x13, 0x13, false), (0x1C0, 0x1C1, 0x10, 0x13, false),
   (0x1C0, 0x1C1, 0x14, 0x14, true), (0x1C0, 0x1C1, 0x15, 0x15, false), (0x1C4, 0x1C4, 0x16, 0x16, false)] ++
  [(0x1E0, 0x1E8, 0x11, 0x16, false), (0x1E9, 0x1E9, 0x18, 0x18, false), (0x200, 0x200, 0x10, 0x11, true),
   (0x200, 0x200, 0x12, 0x14, false), (0x201, 0x201, 0x18, 0x18, false), (0x208, 0x208, 0x20, 0x21, false),
   (0x210, 0x210, 0x28, 0x29, false), (0x218, 0x218, 0x30, 0x30, true)]

/-- The class of a pick that is sent: `some true` for a NOTE kind; `none` for a pick that no source sends. -/
def pickClass (src kind : Nat) : Option Bool :=
  (pickTable.find? (fun r => decide (r.1 ≤ src ∧ src ≤ r.2.1 ∧ r.2.2.1 ≤ kind ∧ kind ≤ r.2.2.2.1))).map (fun r => r.2.2.2.2)

/-- A NOTE kind of its source. -/
def Pick.isNote (p : Pick) : Bool := pickClass p.src.toNat p.kind.toNat == some true

/-- The clearing pick of a level kind (R469). -/
def Pick.clears (p : Pick) : Bool :=
  let a := p.src.toNat
  (a == 0x1A0 || (0x1A8 ≤ a && a ≤ 0x1AF)) && 0x10 ≤ p.kind.toNat && p.kind.toNat ≤ 0x12 && !p.detail.getLsbD 15

/-- The pick takes the NOTE reaction set of its source and sets no status bit (R359, R363, R469). -/
def Pick.mild (p : Pick) : Bool := p.isNote || p.clears

/-- A source's entry of SELV.REACT (R359). -/
def reactEntry (src : Nat) (s : State) : Nat :=
  ((pvw Pid.SELV_REACT (src / 2) s).toNat / (if src % 2 = 1 then 65536 else 1)) % 65536

/-- The configured reaction set of a pick (R359, R360). -/
def reactSet (p : Pick) (s : State) : Nat :=
  let e := reactEntry p.src.toNat s
  if p.mild then e / 256 else e % 256

/-- The block that a block reset of a source resets (R475). -/
def blockOf (src : Nat) : Option Block :=
  let sh := fun (a : Nat) => if h : a ≤ src ∧ src < a + 6 then some (Block.shuttle ⟨src - a, by omega⟩) else none
  match sh 0x003, sh 0x022, sh 0x1E1 with
  | some b, _, _ => some b
  | none, some b, _ => some b
  | none, none, some b => some b
  | none, none, none =>
    if src = 0x002 || src = 0x028 || src = 0x1C0 || src = 0x1C1 || src = 0x1C4 || src = 0x1E7 then some .pdCore
    else if src = 0x148 then some .charger
    else if (0x181 ≤ src && src ≤ 0x183) || (0x188 ≤ src && src ≤ 0x18F) then some .acq
    else if src = 0x060 then some .spia
    else if src = 0x061 then some .spib
    else if src = 0x062 then some .i2c
    else none

/-! ### Storing (R355 to R357, R363) -/

/-- Change the last element of a list. -/
def modLast {α : Type} (f : α → α) (l : List α) : List α :=
  match l.getLast? with
  | none => l
  | some x => l.dropLast ++ [f x]

/-- The pick merges into the newest ring record (R356). -/
def merges (p : IntakePick) (s : State) : Bool :=
  match s.selv.ring.getLast? with
  | none => false
  | some r => decide (pn Pid.SELV_MERGE_US s ≠ 0 ∧ r.pick = p.pick ∧ p.time ≤ r.time + pn Pid.SELV_MERGE_US s)

/-- One more identical pick. -/
def SelvRec.again (r : SelvRec) : SelvRec := { r with rpt := r.rpt + 1 }

/-- A new record enters the ring, and the frozen store while that has room (R357). -/
def Selv.push (r : SelvRec) (v : Selv) : Selv :=
  let fits := decide (v.frozen.length < 16)
  { v with ring := newest 64 (v.ring ++ [r]), ringIdx := v.ringIdx + 1, newestFrozen := fits,
           frozen := if fits then v.frozen ++ [r] else v.frozen, stored := satAdd max32 v.stored 1 }

/-- The newest record takes one more pick, in both stores that hold it (R356, R357). -/
def Selv.merge (v : Selv) : Selv :=
  { v with ring := modLast SelvRec.again v.ring,
           frozen := if v.newestFrozen then modLast SelvRec.again v.frozen else v.frozen,
           stored := satAdd max32 v.stored 1 }

/-- Set a status bit; `carried`: STICKY_SUMMARY.CARRIED shows it too (R80, R363). -/
def Selv.setStatus (p : Pick) (carried : Bool) (v : Selv) : Selv :=
  let m : BitVec 64 := 1#64 <<< p.kind.toNat
  let put := fun (l : Sparse (BitVec 64)) => sset 0 l p.src.toNat (sget 0 l p.src.toNat ||| m)
  { v with status := put v.status, carriedBits := if carried then put v.carriedBits else v.carriedBits }

/-- Store one pick with its DONE byte: merged, counted as dropped at REPEAT 255, or a new record; a stored FAULT pick sets its
status bit. -/
def storePick (p : IntakePick) (dn : Nat) (inj : Bool) (s : State) : State :=
  let m := merges p s
  if m && s.selv.ring.getLast?.any (fun r => r.rpt == 255) then
    s.onSelv (fun v => { v with dropped := satAdd max32 v.dropped 1 })
  else
    let r : SelvRec := { pick := p.pick, rpt := 0, done := BitVec.ofNat 8 dn, carried := p.carried, injected := inj,
                         limp := s.sys.cmdDown, note := p.pick.isNote, time := p.time }
    let s1 := s.onSelv (fun v => if m then v.merge else v.push r)
    if p.pick.mild then s1
    else (s1.onSelv (Selv.setStatus p.pick p.carried)).onHif Hif.newSticky

/-- What is left in the intake as a chip reset takes hold is stored without a reaction (R357, R362). -/
def drainIntake (s : State) : State :=
  foldS (fun p t => storePick p 0 false t) s.selv.intake (s.onSelv (fun v => { v with intake := [] }))

/-! ### Injections (R369, R470) -/

/-- Bits set in an inversion mask. -/
def maskBits (m : Byte) : Nat := (List.range 8).countP (fun i => m.getLsbD i)

/-- The ECC kind that a mask brings about: one bit is corrected, two are not; what more bits give is not stated. -/
def eccKind (m : Byte) (kind : Nat) : Bool :=
  if maskBits m = 1 then kind == 0x01 else if maskBits m = 2 then kind == 0x02 else kind == 0x01 || kind == 0x02

/-- A pick is what an armed injection causes. -/
def Injection.causes (i : Injection) (p : Pick) : Bool :=
  let src := p.src.toNat
  let kind := p.kind.toNat
  if i.checker ≤ 0x02C then
    src == i.checker && eccKind i.mask kind && decide (p.detail.toNat = (i.off.toNat / 8) % 65536)
  else if i.checker ≤ 0x031 then src == i.checker && eccKind i.mask kind
  else if i.checker = 0x032 then src == 0x032 && kind == 0x03
  else if i.checker = 0x120 then src == 0x042 && kind == 0x03
  else src == 0x041 && kind == 0x03 && decide (p.detail.toNat + 0x100 = i.checker)

end Sys2Proof.Machine
end

