-- ==== Sys2Proof/Machine/ResetOps.lean ====
section
/-! DEFINITION. Resets as operations: commands that a reset ends, limp service, the CMD restart, the block resets, Safe Hold entry
and the chip reset with carry-over (R19 to R22, R52 to R55, R99, R391, R398 to R400). -/

namespace Sys2Proof.Machine

/-! ### Commands that a reset or a session reset ends (R53, R55, R97) -/

/-- The commands that hold a slot and have not ended. -/
def outstanding (s : State) : List Slot := s.hif.slots.filter (fun x => !x.status.isFinished)

/-- A command by port and tag. -/
def Slot.ref (x : Slot) : CmdRef := { port := x.port, tag := x.tag }

/-- The sequencer, the rails and the PD core go on without these commands (R55, R97). -/
def forgetCmds (l : List CmdRef) (s : State) : State :=
  let keep := fun (c : CmdRef) => decide (c ∉ l)
  let s1 := s.onPwr (fun w =>
    { w with grp := vmap (fun g => { g with upCmds := g.upCmds.filter keep, downCmds := g.downCmds.filter keep,
                                            heldUp := g.heldUp.map (fun h => h.filter keep) }) w.grp,
             allDownCmds := w.allDownCmds.filter keep,
             railWaits := w.railWaits.map (fun r => { r with cmd := r.cmd.filter keep }) })
  s1.onPd (fun q => { q with waiters := q.waiters.filter (fun x => keep { port := x.1, tag := x.2 }) })

/-- End a command with a status: one with a declared wait returns it in word 11 (R89). -/
def completeEnd (c : CmdRef) (st : Nat) (s : State) : State :=
  if (findSlot c.port c.tag s).any (fun x => (opInfo x.op).any (fun i => i.wait)) then completeW c st [0] s
  else complete c.port c.tag st [0] s

/-- The outstanding commands that `f` picks complete with a status, in acceptance order; what they started goes on. -/
def abortCmds (f : Slot → Bool) (st : Nat) (s : State) : State :=
  let l := ((outstanding s).filter f).map Slot.ref
  foldS (fun c => completeEnd c st) l (forgetCmds l s)

/-! ### The Heddle's boot windows (R391) -/

/-- Code of a watched processor (R392). -/
def procCode : Proc → Fin 9
  | .cmd => 0
  | .sh i => ⟨1 + i.val, by omega⟩
  | .pd => 7
  | .saf => 8

/-- Change one watched processor's windows. -/
def onWatch (i : Fin 9) (f : Watch → Watch) (s : State) : State := s.onHeddle (fun h => { h with w := vmod h.w i f })

/-- No window is armed. -/
def Watch.disarm (w : Watch) : Watch := { w with boot := none, reg := none, armed := false, checked := 0 }

/-- Length of a boot window that opens now, ms (R391). -/
def bootMs (s : State) : Nat := if !s.sys.boot.cfgLoaded || s.sys.bootErr = 3 then 100 else pn Pid.WDG_BOOT_MS s

/-- A processor is released from reset: its boot window opens (R391). CMD in Safe Hold is held; the ROM boot loader arms none. -/
def armBoot (i : Fin 9) (s : State) : State :=
  if s.sys.bootErr = 2 || (i == 0 && s.heddle.safeHold) then onWatch i Watch.disarm s
  else onWatch i (fun w => { w.disarm with boot := some (s.sys.devTime, bootMs s), last := 0 }) s

/-! ### Limp service, the CMD restart and Safe Hold (R55, R99, R398) -/

/-- A served command that SAF has taken over runs again from its slot copy; one that already acts goes on (R99). -/
def Slot.rerun (x : Slot) : Slot := if x.status = .deferred then { x with status := .admitted } else x

/-- SAF begins limp service: LIMP_START, the served commands are run again, every other one completes ABORTED_RESET (R55, R99). -/
def limpStart (s : State) : State :=
  let hold := s.heddle.safeHold
  let s1 := when_ (!s.sys.service.isLimp) (raisePick 0x001 0x11 0) s
  let s2 := (setService (if hold then .limpSafe else .limp) s1).onSys (fun y =>
    { y with stage := if hold then 0x06 else 0x05, reserved := [], suspended := [] })
  onSlots (List.map Slot.rerun) (abortCmds (fun x => !limpServed x.op) 0x21 s2)

/-- A reset that is no chip reset ends the running test and withdraws the injections (R34, R267, R370). -/
def testCut (s : State) : State :=
  let s1 := if s.est.test.isNone then s else releaseSources (postResult (interruptTest s))
  s1.onSelv (fun v => { v with injections := [] })

/-- CMD is restarted (R55): the step engine and the EIC go on, SAF takes the host queues. CMD in Safe Hold is held in reset. -/
def cmdRestart (s : State) : State :=
  if !procsRun s || s.heddle.safeHold then s
  else
    let s1 := setMode .recovery (testCut s)
    armBoot 0 (limpStart (s1.onSys (fun y => { y with cmdDown := true, rstBits := y.rstBits ||| 0x0020 })))

/-- The signs of Safe Hold: SAFE_HOLD pick, EIC source 208 and the host event (R398, R400). -/
def safeHoldSigns (s : State) : State := latchEic 208 (raisePickEv 0x1E9 0x18 0 (some (0xA002, 0x80000000)) s)

/-- Safe Hold is entered (R398). -/
def safeHoldEntry (s : State) : State :=
  let s1 := setMode .recovery (testCut s)
  let s2 := (s1.onSys (fun y => { y with cmdDown := true })).onHeddle (fun h => { h with safeHold := true, safeN := true })
  safeHoldSigns (chgSafeHold (limpStart (onWatch 0 Watch.disarm s2)))

/-! ### Block resets (R53, R54) -/

/-- A host port is block-reset: its outstanding commands complete ABORTED_RESET and its own interface state restarts; the queues,
indices, credits and session are no part of the block (R53, R54). -/
def portReset (p : Port) (s : State) : State :=
  let s1 := abortCmds (fun x => x.port == p) 0x21 s
  let s2 := onPort p (fun q =>
    { q with cqWait := false, evqDrop := false, dropped := 0, noCredit := false, idxErr := false, addrErr := false, frmErr := false,
             crcErr := false, pecErr := false, crcCount := 0, irqMask := 0x25, badTrailer := none }) s1
  when_ (p == .i2c) (State.onHif (fun h => { h with i2cPtr := 0, i2cBusy := false, alertReleased := false, pecOn := false })) s2

/-- SH0 or SH1, or the charger front end, has restarted: the charger reads its record (R125, R154). -/
def chgAgain (s : State) : State :=
  let s1 := chgHalt s
  if chgRuns s1 && s1.sys.boot.cfgLoaded then chgRestart s1 else s1

/-- A Shuttle restarts with what its local memory held lost (R27). -/
def shuttleReset (i : Fin 6) (s : State) : State :=
  let s1 := match i with
    | 0 => when_ (linkRuns s) linkRestart (chgAgain s)
    | 1 => chgAgain (s.onEst (fun e => { e with probe := none }))
    | 4 => s.onEst (fun e => { e with stepHeld := false, ocv := { e.ocv with steep := none }, cap := { e.cap with steep := none },
                                      rs := { e.rs with steep := none } })
    | 5 => s.onAcq (fun a => { a with steep := none, corrFails := 0 })
    | _ => s
  if procsRun s then armBoot (procCode (.sh i)) s1 else s1

/-- The acquisition restarts (R298, R316). -/
def acqAgain (s : State) : State :=
  let s1 := acqReset s
  if s.sys.boot.acqLocked then s1.onAcq (fun a => { a with rings := true, cc := vmap (fun _ => { written := true }) a.cc }) else s1

/-- One block reset (R53, R54, R475); `heddle`: the Heddle asked for it (R428). DEDUCED: it does not end TEST, though R34 says any
reset (log entry 49). -/
def blockReset (b : Block) (heddle : Bool) (s : State) : State :=
  if s.sys.inReset || s.sys.porActive then s
  else
    let s0 := s.onSys (fun y => { y with rstBits := y.rstBits ||| 0x0010 })
    match b with
    | .shuttle i => shuttleReset i s0
    | .pdCore =>
      let s1 := (pdReset s0).onPd (fun q => { q with heddleReset := heddle })
      if procsRun s then armBoot 7 (takePd s1) else s1
    | .charger => chgAgain s0
    | .acq => acqAgain s0
    | .spia => portReset .spia s0
    | .spib => portReset .spib s0
    | .i2c => portReset .i2c s0

/-! ### The chip reset (R19, R21, R22, R54) -/

/-- A chip reset begins; it takes hold with its row (R362). One that has begun is not begun again. -/
def beginChip (c : ResetCause) (s : State) : State :=
  if s.sys.inReset || s.sys.porActive || s.sys.resetBegun.isSome then s
  else s.onSys (fun y => { y with resetBegun := some c })

/-- Code in RSTCAUSE.LAST and the cause bit; the manual gives none to the chip reset of LC_ADVANCE (R422). -/
def causeCode : ResetCause → Option (Nat × Nat)
  | .rstnShort => some (0x3, 6)
  | .heddle => some (0x5, 10)
  | .selvedge => some (0x6, 11)
  | .safLockstep => some (0x7, 12)
  | .clkmon => some (0x8, 13)
  | .fwActivate => some (0x9, 9)
  | .safeExit => some (0xA, 8)
  | .deepSleep => some (0xB, 14)
  | .lcAdvance => none

/-- RSTCAUSE takes the cause (chapter 02); without a code LAST is a free value (log entry 3). -/
def noteCause (c : ResetCause) (s : State) : State :=
  match causeCode c with
  | some k => s.onSys (fun y =>
      { y with rstLast := BitVec.ofNat 4 k.1, rstBits := y.rstBits ||| (1#16 <<< k.2), chipCount := satAdd 255 y.chipCount 1 })
  | none => takeFree (s.onSys (fun y => { y with rstLast := (freeW s).setWidth 4, chipCount := satAdd 255 y.chipCount 1 }))

/-- Source IDs whose status words are kept through a chip reset (R366). -/
def keptStatus (src : Nat) : Bool :=
  (0x080 ≤ src && src ≤ 0x0B7) || (0x0E0 ≤ src && src ≤ 0x128) || (0x140 ≤ src && src ≤ 0x148) || (0x1A0 ≤ src && src ≤ 0x1BB)

/-- The system block in reset: what R22 and the register tables keep. -/
def Sys.chip (hold deep : Bool) (y : Sys) : Sys :=
  { ({} : Sys) with
    mode := .recovery, devTime := y.devTime, ticks := y.ticks, porCause := y.porCause, inReset := true,
    boot := { autoDue := deep, startEntryDue := false }, rstnLong := y.rstnLong, cmdDown := hold, rstBits := y.rstBits,
    rstLast := y.rstLast, chipCount := y.chipCount, resetTime := y.devTime, sysFail := y.sysFail, acqFail := y.acqFail,
    frameFail := y.frameFail, xtalFailed := y.xtalFailed, frameBackup := y.frameBackup, earlyPwr := y.earlyPwr,
    pfHeld := y.pfHeld, frameRun := y.frameRun, regStopped := y.regStopped, dieStopping := y.dieStopping, sup := y.sup, free := y.free }

/-- The host interface in reset: the queues, slots and credits restart and each host port owes its notice (R54, R96). -/
def Hif.chip (h : Hif) : Hif :=
  { ({} : Hif) with straps := h.straps, spia := { alloc := 128, avail := 128, noticeDue := true },
                    spib := { alloc := 64, avail := 64, noticeDue := true }, i2c := { alloc := 16, avail := 16, noticeDue := true } }

/-- The step engine in reset: SEQ.G_STATE and SEQ.ATTEMPTS take their reset values, and what the group was is kept until it is read
back; a group in a sequence is INTERRUPTED (R37, R54, R228). -/
def Group.chip (g : Group) : Group :=
  { ({} : Group) with was := if g.st = .upRun || g.st = .downRun || g.st = .backoff then .interrupted
                             else if g.st = .unused then g.was else g.st }

/-- The step engine loses its queues; the rails stay as they are (R19, R37). -/
def Pwr.chip (w : Pwr) : Pwr :=
  { w with grp := vmap Group.chip w.grp, autoQueue := [], allDown := [], allDownCmds := [], allDownDone := [], carriedDown := [],
           railWaits := [] }

/-- What the estimator loses: everything outside the kettle set and the NVM (R269). -/
def Est.chip (e : Est) : Est :=
  { e with stepHeld := false, probe := none, ocv := { e.ocv with steep := none }, cap := { e.cap with steep := none },
           rs := { e.rs with steep := none }, loads := [], amps := [], learn := none, driftSince := none, cutDown := none }

/-- The Selvedge in reset: stores and counts stay, and the status of the ranges of R366. -/
def Selv.chip (v : Selv) : Selv :=
  { v with status := v.status.filter (fun e => keptStatus e.1), refused := v.refused.filter (fun e => keptStatus e.1),
           carriedBits := [], injections := [], intake := [] }

/-- One strike timer is held while the device is in chip reset (R394): what it still needs is kept. -/
def Watch.chip (now : Nat) (w : Watch) : Watch :=
  { strike := w.strike, good := w.good.map (fun g => (g.1 - (now - g.2), now)) }

/-- The Heddle in reset: evidence, strikes, count and flag stay; SAFE_N holds while the flag is set (R54, R394, R399). -/
def Heddle.chip (now : Nat) (h : Heddle) : Heddle :=
  { h with w := vmap (Watch.chip now) h.w, safeN := h.safeN && h.safeHold }

/-- The power path in reset: the converter stops, the class is unknown until the next read, and nothing else of the hardware changes
(R21, R111, R128). -/
def Path.chip (q : Path) : Path :=
  let f := fun (x : Source) => { x with expectFail := false, cls := 0xFF }
  { q with suppMa := 0, supplement := false, told := false, dca := f q.dca, dcb := f q.dcb, usba := f q.usba, usbb := f q.usbb }

/-- A chip reset takes hold (R19 to R22, R54): the digital domain is in reset, the Power Frame carries on. During the long form of
RESET_N nothing runs to power the rails down in order, so they go off at once (R57). -/
def takeChip (c : ResetCause) (s : State) : State :=
  let s1 := noteCause c (drainIntake (interruptTest (cutSave s)))
  let s2 := thermRestart (pdReset (chgHalt { s1 with
    sys := s1.sys.chip s.heddle.safeHold (decide (c = .deepSleep)), hif := s1.hif.chip, path := s1.path.chip, pwr := s1.pwr.chip,
    est := s1.est.chip, acq := {}, selv := s1.selv.chip, eic := {}, gpio := Vector.replicate 16 {},
    heddle := s1.heddle.chip s.sys.devTime }))
  let s3 := s2.onPd (fun q => { q with imageBad := false, waiters := [], heddleReset := false })
  let s4 := s3.onPar (fun r => { r with pend := [] })
  let s5 := s4.onRtc (fun r => { r with spia := {}, spib := {}, i2c := {} })
  let s6 := (s5.onFw (fun f => { f with pdVersion := none })).onRes (fun r => { r with cEst := 0 })
  if s.sys.rstnLong then afterRailFall (foldS disableRail allRails s6) else s6

end Sys2Proof.Machine
end

