-- ==== Sys2Proof/Machine/Firmware.lean ====
section
/-! DEFINITION. The firmware commands: FW_WRITE, FW_ACTIVATE, FW_STATUS, trial confirmation and the retry of a rollback burn (R429 to
R433, R440). -/

namespace Sys2Proof.Machine

/-- The bank the firmware commands take as active: the bank booted; while the ROM boot loader serves, the active bank of R427. -/
def actBank (s : State) : Bool := if s.sys.bootErr = 2 then activeBank s else s.store.fw.bankB

/-- First byte and size of the target that word 1 [1:0] names (R424, R431). -/
def fwTarget (t : Nat) (s : State) : Nat × Nat :=
  let other := bankBase (!actBank s)
  if t = 0 then (other + 0x1000, 0x180000)
  else if t = 1 then (other + 0x1A1000, 0x5F000)
  else if t = 2 then (other + 0x181000, 0x10000)
  else (bankBase (actBank s) + (if s.store.fw.pdSel then 0x181000 else 0x191000), 0x10000)

/-- A change of the inactive bank makes what verification found there stale. -/
def Fw.touch (t : Nat) (f : Fw) : Fw := if t = 3 then f else { f with written := true }

/-- FW_WRITE with ERASE (R431): 16 sectors, or up to the end of the region. -/
def execFwWriteErase (p : Port) (tag : Tag) (s : State) : Out :=
  .next (runCmd 0xB10 p tag (fun x s =>
    if !(x.word 1).getLsbD 8 then s
    else
      let t := bitsOf (x.word 1) 0 2
      let r := fwTarget t s
      let off := (x.word 2).toNat
      if r.2 ≤ off then outOfRange p tag 1 s
      else
        let a := r.1 + off / 4096 * 4096
        done p tag [] (s.onFw (fun f => Fw.touch t (f.erase a (min 65536 (r.1 + r.2 - a)))))) s)

/-- Program bytes one by one; a byte programmed since its last erasure takes a free value (R431, log entry 3). -/
def fwProgram : Nat → List Byte → State → State
  | _, [], s => s
  | a, b :: l, s =>
    if sget false s.store.fw.prog a then
      fwProgram (a + 1) l ((takeFree s).onFw (Fw.program a [(freeW s).setWidth 8]))
    else fwProgram (a + 1) l (s.onFw (Fw.program a [b]))

/-- FW_WRITE without ERASE (R431). -/
def execFwWriteProgram (p : Port) (tag : Tag) (s : State) : Out :=
  .next (runCmd 0xB10 p tag (fun x s =>
    if (x.word 1).getLsbD 8 then s
    else
      let t := bitsOf (x.word 1) 0 2
      let r := fwTarget t s
      let off := (x.word 2).toNat
      let ws := x.payload.drop 2
      let n := 4 * ws.length
      if off % 4 ≠ 0 || r.2 < off + n then outOfRange p tag 1 s
      else
        let bad := (List.range n).any (fun i => sget false s.store.fw.prog (r.1 + off + i))
        complete p tag (if bad then 0x30 else 0x00) []
          ((fwProgram (r.1 + off) (wordsLe ws) s).onFw (Fw.touch t))) s)

/-- FW_ACTIVATE of the inactive bank (R432). -/
def execFwActivateBank (p : Port) (tag : Tag) (f : BankFacts) (s : State) : Out :=
  .next (runCmd 0xB11 p tag (fun x s =>
    let b := actBank s
    if (x.word 1).getLsbD 0 then s
    else if s.store.fw.trial || s.est.test.any (fun t => t.kind == .duration) || seqBusy s then wrongState p tag 0 s
    else if !hortoOk f.horto s then complete p tag 0x30 [1] s
    else if !pdOk f.pd s then complete p tag 0x30 [2] s
    else if !(cfgOk f.cfg f.horto.version s && f.cfgRulesOk) then complete p tag 0x30 [3] s
    else
      let seq := (newestRec b s).elim 0 (·.seq) + 1
      let s1 := s.onFw (fun w => w.erase (bankBase (!b)) 4096)
      let s2 := putRec (!b) 0 { seq := seq, st := 1, pdSel := false, pdTrial := false } s1
      beginChip .fwActivate (done p tag [] s2)) s)

/-- What verification finds in a PD slot of a bank. -/
def setPdFacts (b slot : Bool) (x : ImgFacts) (f : BootFacts) : BootFacts :=
  let put := fun (i : BankImages) => if slot then { i with pd1 := x } else { i with pd0 := x }
  if b then { f with b := put f.b } else { f with a := put f.a }

/-- FW_ACTIVATE of the unselected PD slot (R432): DONE once the PD core runs. -/
def execFwActivatePdSlot (p : Port) (tag : Tag) (f : ImgFacts) (s : State) : Out :=
  .next (runCmd 0xB11 p tag (fun x s =>
    let b := actBank s
    let slot := !s.store.fw.pdSel
    if !(x.word 1).getLsbD 0 then s
    else if 64 ≤ usedRecs b s then wrongState p tag 0 s
    else if !pdOk f s then complete p tag 0x30 [2] s
    else
      let s1 := (appendRec b (fun r => { r with pdSel := slot, pdTrial := true }) s).onFw (fun w =>
        { w with pdSel := slot, pdTrial := true, facts := w.facts.map (setPdFacts b slot f) })
      let s2 := (modSlot p tag (fun y => { y with status := .running }) s1).onPd (fun q =>
        { q with waiters := q.waiters ++ [(p, tag)] })
      blockReset .pdCore false s2) s)

/-- The Horto image of the inactive bank: whether it verifies, its VERSION and its ROLLBACK. A bank written since it was verified has
its header in the flash; whether it verifies is then a free bit (log entry 3). -/
def otherHorto (s : State) : Bool × W × Nat :=
  let o := !actBank s
  match s.store.fw.facts with
  | some f =>
    if s.store.fw.written then
      (freeB s, flashW (bankBase o + 0x1004) s, (flashW (bankBase o + 0x100C) s).toNat % 256)
    else
      let i := (bankOf f o).horto
      (hortoOk i s, i.version, i.rollback)
  | none => (freeB s, flashW (bankBase o + 0x1004) s, (flashW (bankBase o + 0x100C) s).toNat % 256)

/-- CFG_SERIAL of the inactive bank. -/
def otherSerial (s : State) : W :=
  let o := !actBank s
  match s.store.fw.facts with
  | some f => if s.store.fw.written then flashW (bankBase o + 0x1A1004) s else (bankOf f o).cfg.version
  | none => flashW (bankBase o + 0x1A1004) s

/-- Word 0 of FW_STATUS, FW.STATE (R440, R441). -/
def fwState (s : State) : Nat :=
  let f := s.store.fw
  bitsNat [actBank s, f.trial, f.reverted, false, f.pdSel, f.pdTrial, decide ((otherHorto s).2.2 < hortoCounter s)]

/-- FW_STATUS (R440). -/
def execFwStatus (p : Port) (tag : Tag) (s : State) : Out :=
  .next (runCmd 0xB12 p tag (fun _ s =>
    let act : W := if s.sys.hortoRuns then s.sys.hortoVer else 0
    let o := otherHorto s
    done p tag [w32 (fwState s), act, if o.1 then o.2.1 else 0, otherSerial s, w32 (hortoCounter s % 256 + 256 * pdCounter s),
      w32 (usedRecs (actBank s) s)] (takeFree s)) s)

/-- A processor holds a strike. -/
def anyStrike (s : State) : Bool := s.heddle.w.toList.any (·.strike)

/-- TRIAL_CONFIRM (R433). -/
def execTrialConfirm (h : OtpBench) (s : State) : Out :=
  .next (if s.store.fw.trial && s.sys.boot.full && cmdRuns s && !anyStrike s && s.sys.resetBegun.isNone then
      let s1 := (appendRec s.store.fw.bankB (fun r => { r with st := 2 }) s).onFw (fun f => { f with trial := false })
      fwEvent 0x02 (burnCounters h true s1)
    else s)

/-- PD_TRIAL_CONFIRM (R433). -/
def execPdTrialConfirm (h : OtpBench) (s : State) : Out :=
  .next (if s.store.fw.pdTrial && s.pd.coreRuns && cmdRuns s && !(s.heddle.w[(7 : Fin 9)]).strike && s.sys.resetBegun.isNone then
      let s1 := (appendRec s.store.fw.bankB (fun r => { r with pdTrial := false }) s).onFw (fun f => { f with pdTrial := false })
      fwEvent 0x102 (burnCounters h false s1)
    else s)

/-- ROLLBACK_BURN_RETRY (R430): every hour while a burn is due; an image on trial is not confirmed and burns nothing. -/
def execRollbackBurnRetry (h : OtpBench) (s : State) : Out :=
  .next (if s.store.fw.burnDue && cmdRuns s && !s.store.fw.pdTrial then burnCounters h (!s.store.fw.trial) s else s)

end Sys2Proof.Machine
end

