-- ==== Sys2Proof/Machine/Heddle.lean ====
section
/-! DEFINITION. The Heddle watchdog: windows, violations, evidence, the escalation ladder, strikes and WDG_READ (R387 to R402). -/

namespace Sys2Proof.Machine

/-! ### Windows (R388 to R390) -/

/-- The windows of processor `i`. -/
def watch (i : Fin 9) (s : State) : Watch := s.heddle.w[i]

/-- SYS cycles in `us` microseconds (R387). -/
def cyclesOf (us : Nat) : Nat := us * 480

/-- OPEN and CLOSE in force, us; SAF's keepalive window is fixed (R388). -/
def windowUs (i : Fin 9) (x : Watch) : Nat × Nat :=
  if i = 8 then (250, 2000) else x.reg.elim (0, 0) (fun r => (r.openUs, r.closeUs))

/-- The opening cycle. -/
def openCycle (i : Fin 9) (x : Watch) : Nat := x.start + cyclesOf (windowUs i x).1
/-- The closing cycle. -/
def closeCycle (i : Fin 9) (x : Watch) : Nat := x.start + cyclesOf (windowUs i x).2

/-- The registered threads. -/
def threadsOf (x : Watch) : BitVec 16 := x.reg.elim 0 (·.mask)

/-- The registered threads that have not checked in. -/
def missingThreads (x : Watch) : BitVec 16 := threadsOf x &&& ~~~x.checked

/-- A registration is accepted: a thread, and times within R388 (R390). -/
def regOk (r : Registration) : Bool :=
  r.mask != 0 && decide (100 ≤ r.openUs ∧ r.openUs < r.closeUs ∧ r.closeUs ≤ 10000000)

/-- The Heddle watches processor `i`: SYS runs and no debug request halts the processor (R387). -/
def watching (i : Fin 9) (s : State) : Bool :=
  !s.sys.inReset && !s.sys.porActive && decide (s.sys.power ≠ .doze) && !s.sys.dbgHalt.getLsbD i.val

/-! ### Violations (R392 to R400) -/

/-- Code DOUBLE. -/
def violDouble : Nat := 1
/-- Code MISSING. -/
def violMissing : Nat := 2
/-- Code LATE. -/
def violLate : Nat := 3
/-- Code EARLY. -/
def violEarly : Nat := 4
/-- Code BOOT. -/
def violBoot : Nat := 5
/-- Code KEEPALIVE. -/
def violKeepalive : Nat := 6

/-- The ladder step of a violation (R395, R397, R400). -/
def ladderStep (i : Fin 9) (s : State) : Nat :=
  if s.heddle.safeHold then (if i = 8 then 2 else 4)
  else if i ≠ 8 && !(watch i s).strike then 1
  else if s.heddle.count < pn Pid.WDG_TRIES_N s then 2
  else 3

/-- The chip-reset count after a step: a step 2 outside Safe Hold adds 1 (R395, R400). -/
def countAfter (step : Nat) (s : State) : Nat :=
  if step = 2 && !s.heddle.safeHold then s.heddle.count + 1 else s.heddle.count

/-- EIC source of a violation (R392). -/
def violSource (i : Fin 9) : Nat := if i = 0 then 204 else if i.val ≤ 6 then 205 else if i = 7 then 206 else 207

/-- The block that restarts a processor. -/
def procBlock (i : Fin 9) : Option Block :=
  if h : 1 ≤ i.val ∧ i.val ≤ 6 then some (.shuttle ⟨i.val - 1, by omega⟩) else if i = 7 then some .pdCore else none

/-- Restart of a processor: CMD restart, or the block reset of a Shuttle or the PD core (R395). -/
def restartProc (i : Fin 9) (s : State) : State :=
  match procBlock i with
  | some b => blockReset b true s
  | none => if i = 0 then cmdRestart s else s

/-- The action of a ladder step. At Safe Hold entry a violator other than CMD is watched again from cycle `c` (R389, R398). -/
def ladderAct (i : Fin 9) (step c : Nat) (w : Watch) (s : State) : State :=
  if step = 1 || step = 4 then restartProc i s
  else if step = 2 then beginChip .heddle s
  else
    let s1 := safeHoldEntry s
    if i = 0 || !w.armed then s1
    else onWatch i (fun x => { x with reg := w.reg, armed := true, start := c, last := w.last }) s1

/-- The evidence enters the first and the recent records (R393). -/
def Heddle.note (e : Evidence) (h : Heddle) : Heddle :=
  { h with violations := satAdd max32 h.violations 1, first := some (h.first.getD e), recent := newest 3 (h.recent ++ [e]) }

/-- A violation of processor `i` at cycle `c`, with the code of the deciding row and the threads of the pick detail. After a chip
reset has begun it is not acted on (R396). -/
def violate (i : Fin 9) (row c : Nat) (mask : BitVec 16) (pc : W) (s : State) : State :=
  if s.sys.resetBegun.isSome then s
  else
    let w := watch i s
    let code := if i = 8 then violKeepalive else row
    let detail : BitVec 16 := if i = 8 then BitVec.ofNat 16 row else mask
    let step := ladderStep i s
    let n := countAfter step s
    let e : Evidence := { viol := code, proc := i.val, ladder := step, count := n, mask := detail,
                          pc := if row = violBoot then 0 else pc, last := w.last, at_ := s.sys.devTime }
    let s1 := onWatch i (fun x => { x.disarm with strike := true, good := none }) s
    let s2 := s1.onHeddle (fun h => { h.note e with count := n })
    let s3 := raisePickEv (0x1E0 + i.val) (0x10 + code) detail.toNat
      (some (0xA001, w32 (i.val + 16 * code + 256 * step))) s2
    ladderAct i step c w (latchEic (violSource i) s3)

/-- The closing cycle is reached, or a write falls at it or later: MISSING or LATE (R389). -/
def closeWindow (i : Fin 9) (pc : W) (s : State) : State :=
  let x := watch i s
  let m := missingThreads x
  if i ≠ 8 && m ≠ 0 then violate i violMissing (closeCycle i x) m pc s
  else violate i violLate (closeCycle i x) 0 pc s

/-- The strike timer starts at the registration that ends a boot window (R394). -/
def Watch.startGood (us now : Nat) (x : Watch) : Watch :=
  if x.strike && x.good.isNone then { x with good := some (us, now) } else x

/-- A window ends at cycle `c` and the next one starts, under a registration when one is accepted. -/
def Watch.nextWindow (c now : Nat) (r : Option Registration) (x : Watch) : Watch :=
  { x with boot := none, armed := true, start := c, checked := 0, last := now,
           reg := r.orElse (fun _ => x.reg) }

/-- The boot window ends by an accepted registration, or by SAF's first keepalive (R391, R394). -/
def endBoot (i : Fin 9) (c : Nat) (r : Option Registration) (s : State) : State :=
  onWatch i (fun x => (x.nextWindow c s.sys.devTime r).startGood (pn Pid.WDG_GOOD_S s * 1000000) s.sys.devTime) s

/-- WDG_CHECK_IN (R389). SAF has no threads. -/
def execWdgCheckIn (w : Proc) (thread : Fin 16) (cycle : Nat) (pc : W) (s : State) : Out :=
  let i := procCode w
  let x := watch i s
  let bit : BitVec 16 := 1#16 <<< thread.val
  .next (if !watching i s || !x.armed || i = 8 then s
    else if cycle < openCycle i x then violate i violEarly cycle 0 pc s
    else if threadsOf x &&& bit = 0 && decide (cycle ≤ closeCycle i x) then violate i violDouble cycle bit pc s
    else if closeCycle i x ≤ cycle then closeWindow i pc s
    else if x.checked &&& bit ≠ 0 then violate i violDouble cycle bit pc s
    else onWatch i (fun y => { y with checked := y.checked ||| bit }) s)

/-- WDG_SERVICE (R389 to R391). A refused registration leaves the window open (R390, log entry 44). -/
def execWdgService (w : Proc) (cycle : Nat) (reg : Option Registration) (pc : W) (s : State) : Out :=
  let i := procCode w
  let x := watch i s
  .next (if !watching i s || i = 8 then s
    else if x.boot.isSome then (if reg.any regOk then endBoot i cycle reg s else s)
    else if !x.armed then s
    else if cycle < openCycle i x then violate i violEarly cycle 0 pc s
    else if closeCycle i x ≤ cycle then closeWindow i pc s
    else if missingThreads x ≠ 0 || reg.any (fun r => !regOk r) then s
    else onWatch i (Watch.nextWindow cycle s.sys.devTime reg) s)

/-- WDG_KEEPALIVE (R388, R389, R391). -/
def execWdgKeepalive (cycle : Nat) (pc : W) (s : State) : Out :=
  let x := watch 8 s
  .next (if !watching 8 s then s
    else if x.boot.isSome then endBoot 8 cycle none s
    else if !x.armed then s
    else if cycle < openCycle 8 x then violate 8 violEarly cycle 0 pc s
    else if closeCycle 8 x ≤ cycle then closeWindow 8 pc s
    else onWatch 8 (Watch.nextWindow cycle s.sys.devTime none) s)

/-- WDG_WINDOW_CLOSE (R389). -/
def execWdgWindowClose (w : Proc) (pc : W) (s : State) : Out :=
  let i := procCode w
  .next (if watching i s && (watch i s).armed then closeWindow i pc s else s)

/-- WDG_BOOT_WINDOW_CLOSE (R391). -/
def execWdgBootWindowClose (w : Proc) (pc : W) (s : State) : Out :=
  let i := procCode w
  .next (if watching i s && (watch i s).boot.isSome then violate i violBoot 0 0 pc s else s)

/-! ### Strikes and reading (R394, R402, R403) -/

/-- STRIKE_CLEAR (R394): with the last strike the chip-reset count returns to 0. -/
def execStrikeClear (w : Proc) (s : State) : Out :=
  let i := procCode w
  .next (if !(watch i s).strike || (watch i s).good.isNone || s.sys.inReset then s
    else
      let s1 := onWatch i (fun x => { x with strike := false, good := none }) s
      let s2 := s1.onHeddle (fun h => if h.w.toList.any (·.strike) then h else { h with count := 0 })
      latchEic 209 s2)

/-- WDG.LADDER (R403). -/
def wdgLadder (s : State) : Nat :=
  s.heddle.count + 16 * b01 s.heddle.safeHold + 32 * bitsNat (s.heddle.w.toList.map (·.strike))

/-- Seconds before a strike clears (R402): 0 without a strike, all ones while its timer has not started. -/
def strikeLeft (i : Fin 9) (s : State) : W :=
  let x := watch i s
  if !x.strike then 0
  else match x.good with
    | none => 0xFFFFFFFF
    | some g => w32 (rdivN (g.1 - (s.sys.devTime - g.2)) 1000000)

/-- The six words of an evidence record; an absent one reads as 0 (R393, R402). -/
def evidenceWords (e : Option Evidence) : List W :=
  match e with
  | none => [0, 0, 0, 0, 0, 0]
  | some r => [w32 (r.viol * 268435456 + r.proc * 16777216 + r.ladder * 1048576 + r.count * 65536 + r.mask.toNat), r.pc,
      wLo r.last, wHi r.last, wLo r.at_, wHi r.at_]

/-- WDG_READ (R402). -/
def execWdgRead (p : Port) (tag : Tag) (s : State) : Out :=
  .next (runCmd 0xA01 p tag (fun x s =>
    let sel := bitsOf (x.word 1) 0 8
    let h := s.heddle
    if sel = 0 then done p tag ([w32 (wdgLadder s), w32 h.violations] ++ (allFin 9).map (fun i => strikeLeft i s)) s
    else if sel = 1 then done p tag (evidenceWords h.first ++ evidenceWords h.recent[0]?) s
    else if sel = 2 then done p tag (evidenceWords h.recent[1]? ++ evidenceWords h.recent[2]?) s
    else outOfRange p tag 0 s) s)

end Sys2Proof.Machine
end

