-- ==== Sys2Proof/Machine/Pd.lean ====
section
/-! DEFINITION. USB Type-C and Power Delivery: the rows of chapter 11 (R321 to R348). -/

namespace Sys2Proof.Machine

/-- The PD core serves the ports: it runs its image and full service has been reached (R345). -/
def pdRuns (s : State) : Bool := s.pd.coreRuns && !s.pd.imageBad && !s.sys.inReset

/-- The port is attached and served. -/
def pdLive (u : Fin 2) (s : State) : Bool := pdRuns s && (pdPort u s).attached

/-! ### Type-C (R325 to R329) -/

/-- DRP_TOGGLE (R325). -/
def execDrpToggle (u : Fin 2) (s : State) : Out :=
  let x := pdPort u s
  .next (if !pdRuns s || pn (Pid.PD_ROLE u.val) s ≠ 0 || !canSource u s then s
    else if x.st = .unattachedSnk then onPdp u (fun x => { x with st := .unattachedSrc, cc := .rp }) s
    else if x.st = .unattachedSrc then onPdp u (fun x => { x with st := .unattachedSnk, cc := .rd }) s
    else s)

/-- Enter ATTACHED_SRC (R326). -/
def attachSrc (u : Fin 2) (ra : Bool) (s : State) : State :=
  raiseEvent 0x8001 (w32 16) (latchEic (pdEic u 0) (chanFive u (onPdp u (fun x =>
    { x with st := .attachedSrc, cc := .rp, source := true, dfp := true, vconnSrc := true, vconn := ra, hardResets := 0,
             hrCount := 0, ra := ra, att0 := (true, true, true) }) s)))

/-- Enter ATTACHED_SNK (R327). -/
def attachSnk (u : Fin 2) (s : State) : State :=
  raiseEvent 0x8001 (w32 32) (latchEic (pdEic u 0) (setLimit (usbSrc u) 500 (onPdp u (fun x =>
    { x with st := .attachedSnk, cc := .rd, source := false, dfp := false, vconnSrc := false, vconn := false, rp := .dflt,
             hardResets := 0, hrCount := 0, att0 := (false, false, false) }) s)))

/-- A debounced attach enters the attached state, or the Try state that PDx.TRY selects (R325, R326). -/
def attachNow (u : Fin 2) (source ra : Bool) (s : State) : State :=
  let drp := pn (Pid.PD_ROLE u.val) s == 0 && canSource u s
  let try_ := pn (Pid.PD_TRY u.val) s
  match (pdPort u s).st with
  | .unattachedSnk | .attachWaitSnk =>
    if source then s
    else if drp && try_ = 1 then onPdp u (fun x => { x with st := .trySrc, cc := .rp }) (latchEic (pdEic u 0) s)
    else attachSnk u s
  | .unattachedSrc | .attachWaitSrc =>
    if !source then s
    else if drp && try_ = 2 then onPdp u (fun x => { x with st := .trySnk, cc := .rd }) (latchEic (pdEic u 0) s)
    else attachSrc u ra s
  | .trySrc | .tryWaitSrc => if source then attachSrc u ra s else s
  | .trySnk | .tryWaitSnk => if source then s else attachSnk u s
  | _ => s

/-- TYPEC_ATTACH (R325, R326): an attach first seen waits for its debounce, a debounced one enters its state. -/
def execTypecAttach (u : Fin 2) (a : Attach) (s : State) : Out :=
  .next (if !pdRuns s || (a.source && !canSource u s) then s
    else if a.settled then attachNow u a.source a.ra s
    else match (pdPort u s).st with
      | .unattachedSnk => if a.source then s else onPdp u (fun x => { x with st := .attachWaitSnk }) s
      | .unattachedSrc => if a.source then onPdp u (fun x => { x with st := .attachWaitSrc, ra := a.ra }) s else s
      | _ => s)

/-- TYPEC_DETACH (R326 to R328, R337); what goes before its debounce has ended was no attach (R325). -/
def execTypecDetach (u : Fin 2) (s : State) : Out :=
  let x := pdPort u s
  .next (if pdRuns s && (x.st == .attachWaitSnk || x.st == .attachWaitSrc) then unattached u s
    else if !pdLive u s then s
    else raiseEvent 0x8002 (w32 (16 * x.role)) (latchEic (pdEic u 0) (unattached u (leaveRole u s))))

/-- RP_CHANGE (R327). -/
def execRpChange (u : Fin 2) (rp : RpLevel) (s : State) : Out :=
  let x := pdPort u s
  .next (if !pdLive u s || x.source || x.rp = rp then s
    else
      let s1 := latchEic (pdEic u 0) (onPdp u (fun x => { x with rp := rp }) s)
      if x.pos = 0 then setLimit (usbSrc u) (rpMa rp) s1 else s1)

/-- SOURCE_PAIR_ON (R321, R326): once the linked channel's PG is good and VBUS is below 0.8 V. -/
def execSourcePairOn (u : Fin 2) (vbus : Nat) (s : State) : Out :=
  let x := pdPort u s
  .next (if pdLive u s && x.source && x.chanOn && !x.gsrc && !x.hrSrc && chanPg u s && decide (vbus < 800) &&
      !(srcAt (usbSrc u) s).gate then
      let s1 := onPdp u (fun x => { x with gsrc := true }) (noteVbus u vbus s)
      if x.swap = some .pr then s1 else sendCaps u s1
    else s)

/-- VBUS_DISCHARGED (R328, R344, R345): VBUS has fallen below 0.8 V. -/
def execVbusDischarged (u : Fin 2) (vbus : Nat) (s : State) : Out :=
  let x := pdPort u s
  .next (if 800 ≤ vbus || s.sys.inReset then s
    else
      let s0 := latchEic (pdEic u 2) (noteVbus u vbus s)
      let s1 := if x.discharging then onPdp u (fun x => { x with gsrc := false, discharging := false }) s0 else s0
      if x.discharging && x.swap = some .pr && x.source then
        onPdp u (fun x => { x with source := false, st := .attachedSnk, cc := .rd, sent := .psRdy }) s1
      else if pdRuns s && s.sys.boot.full && s.est.cutDown.isNone && x.st = .disabled then unattached u s1
      else s1)

/-- PD_PROTOCOL_TIMER (R324, R325, R344). -/
def execPdProtocolTimer (u : Fin 2) (t : PdTimer) (s : State) : Out :=
  let x := pdPort u s
  .next (if !pdRuns s then s
    else match t with
      | .ccDebounce =>
        if x.st = .attachWaitSnk then attachNow u false false s
        else if x.st = .attachWaitSrc then attachNow u true x.ra s
        else s
      | .pdDebounce => if x.st = .tryWaitSnk then unattached u s else s
      | .tryTimer =>
        if x.st = .trySrc then onPdp u (fun x => { x with st := .tryWaitSnk, cc := .rd }) s
        else if x.st = .trySnk then onPdp u (fun x => { x with st := .tryWaitSrc, cc := .rp }) s
        else s
      | .tryWait => if x.st = .tryWaitSnk || x.st = .tryWaitSrc then unattached u s else s
      | .srcTransition =>
        if !x.source || !x.attached then s
        else if x.swap = some .pr then (if x.chanOn && x.gsrc && (x.sent != .prSwap || x.swapOk) then srcDischarge u s else s)
        else match x.pend, pdChan u s with
          | some c, some ch => if x.slewed then s else setChan ch c.2.1 (onPdp u (fun x => { x with slewed := true }) s)
          | _, _ => s
      | .srcRecover =>
        if x.hrSrc && decide (x.vbus < 800) then
          chanFive u (onPdp u (fun x => { x with hrSrc := false, cc := .rp, sent := if x.gsrc then .sourceCaps else x.sent,
                                                 awaitReq := x.gsrc }) s)
        else s)

/-! ### Contracts (R331 to R336) -/

/-- PD_REQUEST_RECEIVED (R330 to R335). -/
def execPdRequestReceived (u : Fin 2) (pos ma : Nat) (s : State) : Out :=
  let x := pdPort u s
  .next (if !pdLive u s || !x.source || !x.gsrc || x.hrSrc then s
    else match (if pos = 0 then none else offered u (pos - 1) s) with
      | some top =>
        if ma ≤ top then
          onPdp u (fun x => { x with pend := some (pos, pdoMv u (pos - 1) s, top), slewed := false, sent := .accept,
                                     awaitReq := false }) s
        else onPdp u (fun x => { x with sent := .reject }) s
      | none => onPdp u (fun x => { x with sent := .reject }) s)

/-- Detail of PD_CONTRACT (R348). -/
def contractDetail (pos mv : Nat) : W := w32 (pos % 16 + 256 * ((mv / 100) % 65536))

/-- A contract takes effect at PS_RDY (R335, R336). -/
def contractNow (u : Fin 2) (c : Nat × Nat × Nat) (s : State) : State :=
  raiseEvent 0x8003 (contractDetail c.1 c.2.1) (onPdp u (fun x =>
    { x with pos := c.1, mv := c.2.1, ma := c.2.2, pend := none, slewed := false, hrCount := 0 }) s)

/-- VBUS is within 5 % of a voltage. -/
def near5 (vbus mv : Nat) : Bool := decide (95 * mv ≤ 100 * vbus ∧ 100 * vbus ≤ 105 * mv)

/-- PS_RDY (R335, R343): VBUS within 5 % and PG good, as source. -/
def execPsRdy (u : Fin 2) (vbus : Nat) (s : State) : Out :=
  let x := pdPort u s
  let s0 := noteVbus u vbus s
  .next (if !pdLive u s || !x.source || !chanPg u s || !x.gsrc then s
    else if x.swap = some .pr then
      (if near5 vbus 5000 && x.sent != .psRdy then
        sendCaps u (raiseEvent 0x8003 (contractDetail 0 5000) (onPdp u (fun x => { x with swap := none }) s0))
      else s)
    else match x.pend with
      | some c => if x.slewed && near5 vbus c.2.1 then
          contractNow u c (onPdp u (fun x => { x with sent := .psRdy }) s0) else s
      | none => s)

/-- SOURCE_CAPS_RECEIVED (R336). -/
def execSourceCapsReceived (u : Fin 2) (pdos : List OfferedPdo) (epr : Bool) (s : State) : Out :=
  let x := pdPort u s
  .next (if !pdLive u s || x.source || (epr && !x.epr) then s
    else sendRequest u (onPdp u (fun x => { x with caps := pdos }) s))

/-- PPS_REREQUEST (R336). -/
def execPpsRerequest (u : Fin 2) (s : State) : Out :=
  let x := pdPort u s
  .next (if pdLive u s && !x.source && x.pps && x.pos ≠ 0 then
      onPdp u (fun x => { x with pend := some (x.pos, x.mv, x.ma), sent := .request }) s
    else s)

/-- Detail of PD_HEADROOM (R331). -/
def headroomDetail (u : Fin 2) (k : Nat) : W := w32 (256 * u.val + (k + 1) % 16)

/-- HEADROOM_WITHDRAW (R331, R332, R341). -/
def execHeadroomWithdraw (u : Fin 2) (pos : Fin 11) (vlink : Nat) (s : State) : Out :=
  let k := pos.val
  let x := pdPort u s
  let v := pdoMv u k s
  .next (if !pdRuns s || !canSource u s || k = 0 || !pdoValid u k s || x.withdrawn.getLsbD k ||
        decide (v + pn Pid.PD_HR_MV s ≤ vlink) then s
    else
      let old := offeredList u s
      let s1 := raiseEvent 0x8004 (headroomDetail u k) (onPdp u (fun x => { x with withdrawn := x.withdrawn ||| (1#11 <<< k) }) s)
      askPrSwap u vlink (capsChanged u old s1))

/-- HEADROOM_REOFFER (R331). -/
def execHeadroomReoffer (u : Fin 2) (pos : Fin 11) (vlink : Nat) (s : State) : Out :=
  let k := pos.val
  let x := pdPort u s
  .next (if !pdRuns s || !x.withdrawn.getLsbD k ||
        decide (vlink < pdoMv u k s + pn Pid.PD_HR_MV s + pn Pid.PD_HR_HYST_MV s) then s
    else
      capsChanged u (offeredList u s) (raiseEvent 0x8004 (headroomDetail u k)
        (onPdp u (fun x => { x with withdrawn := x.withdrawn &&& ~~~(1#11 <<< k) }) s)))

/-- SENDER_RESPONSE_TIMEOUT (R332). -/
def execSenderResponseTimeout (u : Fin 2) (s : State) : Out :=
  let x := pdPort u s
  .next (if pdLive u s && x.source && x.awaitReq then hardReset u true s else s)

/-- CONTRACT_VLINK_LOW (R332): the contract's PDO has been withdrawn and the new contract is not yet ready. -/
def execContractVlinkLow (u : Fin 2) (vlink : Nat) (s : State) : Out :=
  let x := pdPort u s
  .next (if pdLive u s && x.source && x.pos ≠ 0 && (offered u (x.pos - 1) s).isNone && decide (vlink < x.mv + 1000) then
      hardReset u true s
    else s)

/-! ### Resets and swaps (R341 to R344) -/

/-- HARD_RESET (R344). -/
def execHardReset (u : Fin 2) (sent : Bool) (s : State) : Out := .next (if pdRuns s then hardReset u sent s else s)

/-- ERROR_RECOVERY_END (R344). -/
def execErrorRecoveryEnd (u : Fin 2) (s : State) : Out :=
  .next (if pdRuns s && (pdPort u s).st = .errorRecovery then unattached u s else s)

/-- Answer an incoming swap: `own`: both ends asked at once (R342). -/
def answerSwap (u : Fin 2) (own accept : Bool) (wait : Bool) (go : State → State) (s : State) : State :=
  let x := pdPort u s
  if own && x.source then onPdp u (fun y => { y with sent := .wait }) s
  else if !accept then onPdp u (fun y => { y with sent := .reject, swap := none }) s
  else if wait then onPdp u (fun y => { y with sent := .wait, swap := none }) s
  else go (onPdp u (fun y => { y with sent := .accept }) s)

/-- The linked channel is able to source. -/
def chanAble (u : Fin 2) (s : State) : Bool :=
  (pdChan u s).any (fun c => s.pwr.vr[c].st != .latchedOff && !thermHeld (.vr c) s)

/-- The sink path carries the link and nothing else could (R341). -/
def onlyPath (u : Fin 2) (s : State) : Bool :=
  s.path.link == .source && orMembers s == [usbSrc u] && s.chg.st == .batteryAbsent

/-- PR_SWAP (R341 to R343). -/
def execPrSwap (u : Fin 2) (ownToo : Bool) (s : State) : Out :=
  let x := pdPort u s
  .next (if !pdLive u s || x.hrSrc || x.hrSnk then s
    else answerSwap u (ownToo || (x.swap == some .pr && x.sent == .prSwap))
      (pb (Pid.PD_PRS_ACCEPT u.val) s && (x.source || canSource u s))
      (if x.source then !chanAble u s else onlyPath u s)
      (fun t => onPdp u (fun y => { y with swap := some .pr, swapOk := false }) (if x.source then t else sinkOut u false t)) s)

/-- DR_SWAP (R341, R342, R347). -/
def execDrSwap (u : Fin 2) (ownToo : Bool) (s : State) : Out :=
  .next (if !pdLive u s then s
    else answerSwap u ownToo (pb (Pid.PD_DRS_ACCEPT u.val) s) false
      (fun t => svcEnd u (onPdp u (fun y => { y with dfp := !y.dfp }) t)) s)

/-- The port takes or gives up the VCONN source role (R334, R339). -/
def vconnTo (u : Fin 2) (b : Bool) (s : State) : State :=
  onPdp u (fun y => { y with vconnSrc := b, vconn := b && !y.vconnOc, swap := if y.swap = some .vconn then none else y.swap }) s

/-- VCONN_SWAP (R334, R341, R342). -/
def execVconnSwap (u : Fin 2) (ownToo : Bool) (s : State) : Out :=
  let x := pdPort u s
  .next (if !pdLive u s then s
    else answerSwap u (ownToo || x.swap == some .vconn) (pb (Pid.PD_VCS_ACCEPT u.val) s) false
      (fun t => vconnTo u (!x.vconnSrc) t) s)

/-- CABLE_DISCOVERY (R334, R346): as VCONN source only; otherwise the port asks for VCONN. -/
def execCableDiscovery (u : Fin 2) (r : Option CableVdo) (s : State) : Out :=
  let x := pdPort u s
  .next (if !pdLive u s then s
    else if !x.vconnSrc then
      (if x.swap.isNone then onPdp u (fun y => { y with swap := some .vconn, sent := .vconnSwap }) s else s)
    else
      let five := r.any (·.fiveA)
      let epr := r.any (fun v => v.fiveA && v.fiftyV && v.epr) && !s.sys.service.isLimp
      let s1 := onPdp u (fun y => { y with cable5a := five, cableEpr := epr }) s
      if x.source then capsChanged u (offeredList u s) s1
      else if x.pos ≠ 0 && epr && !x.epr && pb (Pid.PD_EPR_EN u.val) s then onPdp u (fun y => { y with sent := .eprModeEnter }) s1
      else if x.pos ≠ 0 && x.pend.isNone && chooseRequest u s1 ≠ chooseRequest u s then sendRequest u s1
      else s1)

/-- A sink path starts its qualification (R119, R343). -/
def qualSink (u : Fin 2) (s : State) : State :=
  let st := (srcAt (usbSrc u) s).st
  if linkRuns s && st != .disabled && st != .quarantined then startQual (usbSrc u) s else s

/-- At PS_RDY after a voltage change the path is judged by the new window and qualifies again (R337). -/
def sinkAgain (u : Fin 2) (s : State) : State :=
  let i := usbSrc u
  qualSink u (onSrc i (fun y => { y with inWin := winEnters i (pdPort u s).vbus s }) s)

/-- PD_MESSAGE_RECEIVED (R324, R334 to R336, R341, R343). -/
def execPdMessageReceived (u : Fin 2) (m : PdMessage) (s : State) : Out :=
  let x := pdPort u s
  let say := fun (p : PdSent) (t : State) => onPdp u (fun y => { y with sent := p }) t
  .next (if !pdLive u s then s
    else match m with
      | .accept =>
        if x.swap = some .vconn && x.sent = .vconnSwap then vconnTo u true s
        else if x.swap = some .pr && x.sent = .prSwap then onPdp u (fun y => { y with swapOk := true }) s
        else match x.pend with
          | some c =>
            if !x.source && c.2.1 ≠ x.volts then onPdp u (fun y => { y with held := true }) (sinkOut u false s) else s
          | none => s
      | .reject | .wait =>
        if x.swap.isSome && (x.sent = .prSwap || x.sent = .vconnSwap) then onPdp u (fun y => { y with swap := none, swapOk := false }) s
        else if x.source then s else onPdp u (fun y => { y with pend := none }) s
      | .psRdy =>
        if x.swap = some .pr && !x.source then
          (if x.sent = .psRdy then
            qualSink u (setLimit (usbSrc u) (rpMa x.rp) (onPdp u (fun y => { y with swap := none, swapOk := false }) s))
          else
            chanFive u (onPdp u (fun y => { y with source := true, st := .attachedSrc, cc := .rp }) s))
        else match x.pend with
          | some c =>
            if x.source then s
            else
              let s0 := setLimit (usbSrc u) c.2.2 (contractNow u c (onPdp u (fun y => { y with held := false }) s))
              let s1 := if x.held then sinkAgain u s0 else s0
              if pb (Pid.PD_EPR_EN u.val) s && x.cableEpr && !x.epr then say .eprModeEnter s1 else s1
          | none => s
      | .getSourceCap =>
        if x.source then sendCaps u s
        else if canSource u s then say .sourceCaps s else say .notSupported s
      | .eprGetSourceCap =>
        if canSource u s && pb (Pid.PD_EPR_EN u.val) s then say .eprSourceCaps s else say .notSupported s
      | .getSinkCap => say .sinkCaps s
      | .eprGetSinkCap => if pb (Pid.PD_EPR_EN u.val) s then say .eprSinkCaps s else say .notSupported s
      | .softReset => say .accept (onPdp u (fun y => { y with pend := none, slewed := false, awaitReq := y.source,
                                                               swap := none }) s)
      | .eprModeEnter =>
        if !pb (Pid.PD_EPR_EN u.val) s || !x.cableEpr then say .notSupported s
        else
          let s1 := onPdp u (fun y => { y with epr := true }) s
          if x.source then sendCaps u s1 else s1
      | .eprModeExit =>
        let s1 := onPdp u (fun y => { y with epr := false }) s
        if x.source then sendCaps u s1 else s1
      | .eprKeepAlive => s
      | .sinkCapabilities d => onPdp u (fun y => { y with partnerDrp := d }) s
      | .unsupported => say .notSupported s)

/-! ### Service mode (R347) -/

/-- PD.SVID, of the OTP shadow (R347, R415). -/
def pdSvid (s : State) : Nat := bitsOf (sget 0 s.store.otp.shadow 0x082) 16 16

/-- VDM_REQUEST (R347): as UFP on SOP. The fields of the ID Header that R347 does not name are free (log entry 3). -/
def execVdmRequest (u : Fin 2) (v : Vdm) (s : State) : Out :=
  let x := pdPort u s
  let svid := pdSvid s
  let mine := fun (w : BitVec 16) => svid ≠ 0 && w.toNat == svid
  let en := pb (Pid.PD_SVC_EN u.val) s
  let ack := fun (ws : List W) (t : State) => onPdp u (fun y => { y with sent := .vdmAck, vdo := ws }) t
  let nak := fun (t : State) => onPdp u (fun y => { y with sent := .vdmNak, vdo := [] }) t
  .next (if !pdLive u s then s
    else if v = .unstructured then onPdp u (fun y => { y with sent := .notSupported }) s
    else if x.dfp then s
    else match v with
      | .discoverIdentity =>
        let vid := bitsOf (sget 0 s.store.otp.words 0x082) 0 16
        let hdr := (freeW s &&& 0xC7FF0000#32) ||| 0x10000000#32 ||| w32 vid
        ack [hdr, sget 0 s.store.otp.words 0x083, w32 (0x0960 * 65536 + bitsOf (sget 0 s.store.otp.shadow 0x000) 0 6)]
          (takeFree s)
      | .discoverSvids => ack (if en && svid ≠ 0 then [w32 (svid * 65536)] else []) s
      | .discoverModes w => if mine w then ack [1] s else nak s
      | .enterMode w m =>
        if mine w && m = 1 && en && !x.svc then
          raiseEvent 0x8007 0x80000000 (ack [] (onPdp u (fun y => { y with svc := true }) s))
        else nak s
      | .exitMode => ack [] (svcEnd u s)
      | .status w => if mine w && x.svc then ack ((snapshotWords .internal s).take 6) s else nak s
      | .call w d => if mine w && x.svc then raiseEvent 0x8008 d (ack [] s) else nak s
      | .other => nak s
      | .unstructured => s)

/-! ### Protections (R338 to R340) -/

/-- Both gates of a port go off. -/
def gatesOff (u : Fin 2) (s : State) : State :=
  onSrc (usbSrc u) (fun x => { x with gate := false }) (onPdp u (fun x => { x with gsrc := false, discharging := false }) s)

/-- PD_OVP (R339): the threshold follows the higher of the present and the accepted contract voltage. -/
def execPdOvp (u : Fin 2) (vbus : Nat) (s : State) : Out :=
  let x := pdPort u s
  let v := max x.volts (x.pend.elim 0 (fun c => c.2.1))
  .next (if pdLive u s && decide (115 * v ≤ 100 * vbus ∧ 6000 ≤ vbus) then
      pdFault u 0x10 (errorRecovery u) (gatesOff u (noteVbus u vbus s))
    else s)

/-- PD_OCP (R339): after blanking. -/
def execPdOcp (u : Fin 2) (ma : Nat) (s : State) : Out :=
  let x := pdPort u s
  let base := if x.source then (if x.pos = 0 then 500 else x.ma) else limNow (usbSrc u) s
  let on := if x.source then x.gsrc else (srcAt (usbSrc u) s).gate
  .next (if pdLive u s && on && decide (pn (Pid.PD_OCP_PCT u.val) s * base ≤ 100 * ma) then
      (if x.source then pdFault u 0x11 (hardReset u true) (gatesOff u s) else pdFault u 0x11 (errorRecovery u) (gatesOff u s))
    else s)

/-- PD_REVERSE (R107, R339): a drop of -5 mV or less; through the sink pair it is no fault while the link state machine counts it a window
exit. -/
def execPdReverse (u : Fin 2) (d : ReverseDrop) (s : State) : Out :=
  let x := srcAt (usbSrc u) s
  .next (if !pdLive u s || decide (-5 < d.mv) then s
    else if d.sink then
      (if !x.gate then s
       else if linkRuns s && !x.inWin then onSrc (usbSrc u) (fun y => { y with gate := false }) s
       else pdFault u 0x12 id (onSrc (usbSrc u) (fun y => { y with gate := false }) s))
    else if (pdPort u s).gsrc then pdFault u 0x12 (errorRecovery u) (gatesOff u s)
    else s)

/-- PD_VCONN_OC (R339). -/
def execPdVconnOc (u : Fin 2) (s : State) : Out :=
  .next (if pdLive u s && (pdPort u s).vconn then
      pdFault u 0x13 id (onPdp u (fun x => { x with vconn := false, vconnOc := true }) s)
    else s)

/-- SINK_LIMITER_EXPIRY (R338). -/
def execSinkLimiterExpiry (u : Fin 2) (s : State) : Out :=
  .next (if frameOn s && (srcAt (usbSrc u) s).limiting then limiterOpen (usbSrc u) s else s)

/-! ### The PD core's restart and the commands (R345, R348) -/

/-- PD_CORE_RESTART (R345, R348): the core runs, waiting commands complete, linked channels go off; with VBUS low the
terminations are presented. -/
def execPdCoreRestart (vbusLow : Bool) (s : State) : Out :=
  .next (if !s.sys.boot.bootDone || s.sys.inReset || s.sys.pfHeld || s.pd.imageBad || s.pd.coreRuns || s.store.fw.pdVersion.isNone ||
        s.sys.dbgHalt.getLsbD 7 then s
    else
      let ws := s.pd.waiters.map (fun x => { port := x.1, tag := x.2 : CmdRef })
      let s1 := completeAll ws 0x00 [] (s.onPd (fun q => { q with coreRuns := true, waiters := [] }))
      let s2 := foldS chanDown (allFin 2) s1
      if vbusLow && s.sys.boot.full && s.est.cutDown.isNone then
        foldS (fun (u : Fin 2) t => if (pdPort u t).st = .disabled then unattached u t else t) (allFin 2) s2
      else s2)

/-- PDx.FLAGS (R349). -/
def pdFlags (u : Fin 2) (s : State) : Nat :=
  let x := pdPort u s
  bitsNat [x.epr, x.cable5a, x.cableEpr, x.svc, x.throttled, decide (x.withdrawn ≠ 0)]

/-- A channel's output as its local sense ball last read it, mV (R277, R322). -/
def vlocMv (c : Fin 12) (s : State) : Int := scaled (0x24 + c.val) ((sfind s.acq.table (0x24 + c.val)).elim 0 (·.value.toInt)) s

/-- Port current, mA (R322). -/
def pdAmps (u : Fin 2) (s : State) : Int :=
  let x := pdPort u s
  if x.gsrc then
    match pdChan u s with
    | none => 0
    | some c => tquot ((vlocMv c s - x.vbus) * 1000000) (pn (Pid.PD_RPATH_SRC_UOHM u.val) s)
  else if (srcAt (usbSrc u) s).gate then
    tquot (((x.vbus : Int) - s.path.vlink) * 1000000) (pn (Pid.PD_RPATH_SNK_UOHM u.val) s)
  else 0

/-- The words of PD_STATUS (R348). -/
def pdStatusWords (u : Fin 2) (s : State) : List W :=
  let x := pdPort u s
  [w32 (x.st.code + 16 * x.role + 64 * bitsNat [x.dfp, x.vconnSrc, x.epr, x.svc] + 1024 * x.pos), w32 x.mv, w32 x.ma,
   w32 x.vbus, wInt (pdAmps u s), w32 (pdFlags u s), w32 x.hardResets]

/-- The port of payload word 1 [0]. -/
def pdArg (x : Slot) : Fin 2 := if (x.word 1).getLsbD 0 then 1 else 0

/-- PD_STATUS (R348). -/
def execPdStatus (p : Port) (tag : Tag) (s : State) : Out :=
  .next (runCmd 0x801 p tag (fun x t => done p tag (pdStatusWords (pdArg x) t) t) s)

/-- PD_PORT_RESET (R348). -/
def execPdPortReset (p : Port) (tag : Tag) (s : State) : Out :=
  .next (runCmd 0x811 p tag (fun x t =>
    let u := pdArg x
    let st := (pdPort u t).st
    if st = .disabled || st = .locked then wrongState p tag 0 t
    else done p tag [] (if (x.word 1).getLsbD 8 then errorRecovery u t else hardReset u true t)) s)

end Sys2Proof.Machine
end

