-- ==== Sys2Proof/Machine/ParamRead.lean ====
section
/-! DEFINITION. What a parameter reads as: the live value, or the state that a read-only parameter shows (R101, R128, R157, R194 to
R196, R228 to R230, R271, R301, R302, R318, R349, R385, R403, R441). -/

namespace Sys2Proof.Machine

/-- PHk.STATE codes (R160). -/
def phaseCode : PhaseState → Nat
  | .unused => 0
  | .member => 1
  | .standby => 2
  | .spareIn => 3
  | .dropped => 4

/-- The element of a fixed array that an instance index names. -/
def vAt {α : Type} {n : Nat} (d : α) (v : Vector α n) (k : Nat) : α := v.toList.getD k d

/-- VRn.FLAGS (R195). -/
def vrFlags (c : Fin 12) (s : State) : Nat :=
  let x := s.pwr.vr[c]
  bitsNat [x.senseOpen, x.spareUsed, x.takeover, x.vinLow, x.curLimit, x.enableHeld, railPending (.vr c) s, x.margined, x.disSusp] +
    65536 * activeMembers c s

/-- Status words of a channel. -/
def roVr (c : Fin 12) (off i : Nat) (s : State) : Int :=
  let x := s.pwr.vr[c]
  if off = 0x40 then x.st.code
  else if off = 0x41 then vrFlags c s
  else if off = 0x42 then ((rotation c s).map (fun k => 2 ^ k.val)).sum
  else if off = 0x43 then x.hiccups
  else ((rotation c s)[i]?).elim 0 (fun k => s.pwr.ph[k].trim)

/-- Status words of the sources, the charger, phases, LDOs, monitors and enables. -/
def roPower (id i : Nat) (s : State) : Int :=
  if id = 0x1018 then s.path.dca.cls
  else if id = 0x1019 then srcShown s.path.dca s
  else if id = 0x1028 then s.path.dcb.cls
  else if id = 0x1029 then srcShown s.path.dcb s
  else if id = 0x1030 then linkShown s
  else if id = 0x1031 then s.path.transfers
  else if id = 0x2040 then s.chg.st.code
  else if id = 0x2041 then s.chg.waitCause.toNat
  else if id = 0x2042 then timerAcc (timerPhase s.chg.st) s
  else if id = 0x2043 then s.chg.tmoPhase
  else if id = 0x2044 then s.chg.cycles
  else if id = 0x4020 then groupNibbles s
  else if id = 0x4021 then (((allFin 8).map (fun g => s.pwr.grp[g].attempts * 16 ^ g.val)).sum : Nat)
  else if h : 0x3000 ≤ id ∧ id < 0x3C00 then roVr ⟨(id - 0x3000) / 0x100, by omega⟩ (id % 0x100) i s
  else if 0x3C00 ≤ id && id < 0x3C80 then (vAt {} s.pwr.ldo ((id - 0x3C00) / 16)).st.code
  else if 0x3D00 ≤ id && id < 0x3DC0 then
    let k := vAt {} s.pwr.ph ((id - 0x3D00) / 8)
    if id % 8 = 4 then k.lEst else if id % 8 = 5 then k.rEst else phaseCode k.st
  else if 0x4100 ≤ id && id < 0x4300 then
    let m := vAt {} s.pwr.mon ((id - 0x4100) / 16)
    bitsNat [m.uv, m.ov, m.off, m.eval]
  else if h : 0x4400 ≤ id ∧ id < 0x4480 then railState (.en ⟨(id - 0x4400) / 8, by omega⟩) s
  else 0

/-- ACQ.STATUS (R302). -/
def acqStatus (s : State) : Nat :=
  let a := s.acq
  bitsNat [a.settled, a.suspect, a.corrValid, a.corrStale, a.degraded, pb Pid.ACQ_RATE_HALF s] + 64 * a.ref.toNat +
    256 * b01 a.roundValid + 65536 * a.rseqDone.toNat

/-- A served table as the words of R247. -/
def servedWord (k : TableKind) (i : Nat) (s : State) : Int :=
  let t := (tableSet k s).served.getD (factTable k s)
  ((tableWords k t).getD i 0).toNat

/-- Status words of the estimator, the acquisition and the temperature part. -/
def roMeas (id i : Nat) (s : State) : Int :=
  if id = 0x5024 then servedWord .ocv i s
  else if id = 0x5025 then servedWord .cap i s
  else if id = 0x5026 then servedWord .rs i s
  else if id = 0x5030 then s.est.soc
  else if id = 0x5031 then socInt s
  else if id = 0x5032 then s.est.floorS
  else if id = 0x5033 then s.est.floorRatedS
  else if id = 0x5034 then qFullMah s
  else if id = 0x5035 then s.est.flags.toNat
  else if id = 0x5036 then fitAge s
  else if id = 0x5037 then s.est.sohFade
  else if id = 0x5038 then s.est.sohRs
  else if id = 0x600A then acqStatus s
  else if id = 0x600B then s.acq.coefVer.toNat
  else if 0x6100 ≤ id && id < 0x6200 then
    let c := vAt {} s.acq.cc ((id - 0x6100) / 8)
    bitsNat [c.armed, c.tripped]
  else if 0x6200 ≤ id && id < 0x6240 then b01 (s.acq.rw.getLsbD ((id - 0x6200) / 4))
  else if id = 0x7010 then zState s
  else if id = 0x7011 then zoneNibble 8 s
  else if id = 0x7012 then thermFast s
  else if id = 0x7013 then thermBroken s
  else if 0x7100 ≤ id && id < 0x7180 then tsnsState ((id - 0x7100) / 16) s
  else 0

/-- Status words of a USB port. -/
def roPd (u : Fin 2) (off : Nat) (s : State) : Int :=
  let x := pdPort u s
  if off = 0x20 then x.st.code else if off = 0x21 then x.mv else if off = 0x22 then x.ma else pdFlags u s

/-- Status words of the ports, the Selvedge, the watchdog and the stores. -/
def roOther (id : Nat) (s : State) : Int :=
  if id = 0x0023 then 48
  else if id = 0x8004 then (otpShadow 0x082 s).toNat / 65536
  else if 0x8100 ≤ id && id < 0x8200 then roPd 0 (id % 256) s
  else if 0x8200 ≤ id && id < 0x8300 then roPd 1 (id % 256) s
  else if id = 0x9003 then s.selv.received
  else if id = 0x9004 then s.selv.stored
  else if id = 0x9005 then s.selv.dropped
  else if id = 0x9006 then s.selv.clearRefused
  else if id = 0x9007 then s.selv.injections.length
  else if id = 0xA010 then wdgLadder s
  else if id = 0xA011 then s.heddle.violations
  else if id = 0xB003 then s.store.nvm.spares.length
  else if id = 0xB005 then s.store.res.cEst
  else if id = 0xB020 then fwState s
  else 0

/-- Word `i` of a parameter as PARAM_GET returns it: the value in use (R101). -/
def readPv (r : PInfo) (id i : Nat) (s : State) : Int :=
  if r.cls ≠ .ro then pvw id i s
  else if 0x1000 ≤ id && id < 0x5000 then roPower id i s
  else if 0x5000 ≤ id && id < 0x8000 then roMeas id i s
  else roOther id s

/-! ### The parameter store (R105, R404, R409) -/

/-- The parameters with Reset NVM. -/
def nvmIds : List Nat :=
  [0x1031, 0x2043, 0x2044] ++ (List.range 24).flatMap (fun k => [0x3D04 + 8 * k, 0x3D05 + 8 * k]) ++
    [0x5024, 0x5025, 0x5026, 0x5030, 0x5031, 0x5032, 0x5033, 0x5034, 0x5035, 0x5037, 0x5038, 0xB003]

/-- Words of a parameter. -/
def parWords (id : Nat) : Nat := (paramInfo id).elim 1 (·.words)

/-- The value of a parameter word with Reset NVM. -/
def nvmWord (id i : Nat) (s : State) : Int := (paramInfo id).elim 0 (fun r => readPv r id i s)

/-- The parameter store as it stands. -/
def paramsNow (s : State) : Sparse Int :=
  nvmIds.flatMap (fun id => (List.range (parWords id)).map (fun i => (pkey id i, nvmWord id i s)))

/-- The parameters whose live value differs from the stored one; without a complete copy every one does. -/
def paramsChanged (s : State) : Nat :=
  match s.store.nvm.params with
  | [] => nvmIds.length
  | c :: _ => (nvmIds.filter (fun id =>
      (List.range (parWords id)).any (fun i => sfind c.2 (pkey id i) != some (nvmWord id i s)))).length

end Sys2Proof.Machine
end

