-- ==== Sys2Proof/Machine/ImgRules.lean ====
section
/-! DEFINITION. The rules that a configuration image keeps and that a PARAM_SET may not break (R14, R87, R113, R129, R132, R135,
R197, R231, R272, R301, R320, R350, R386, R441), as lists of truth values over the live parameters. -/

namespace Sys2Proof.Machine

/-- A value lies in a parameter's range (R14). -/
def PInfo.inRange (r : PInfo) (v : Int) : Bool :=
  (decide (r.lo ≤ v) && decide (v ≤ r.hi) && v % (r.step : Int) == 0) || r.extra.contains v

/-- The value a word stands for, by the parameter's type (R14). -/
def PInfo.value (r : PInfo) (w : W) : Int := if r.ty = .s16 || r.ty = .s32 then w.toInt else w.toNat

/-- The bits of word `i` of a parameter that are not reserved: VR.ASSIGN (R160), SEQ.GROUPS (R205), word 0 of each step of
SEQ.STEPS (R206), PDx.SRC_PDO (R330), EIC.SRCn (R386) and GPIOn.CFG (R383); `none`: every bit has a meaning. -/
def fieldMask (id i : Nat) : Option Nat :=
  if inInst id 0x9100 1 256 then some 0x1FFFF
  else if inInst id 0x9400 1 16 then some 0xFF3F
  else if id = 0x3F00 then some 0x9FFFFFFF
  else if id = 0x4010 then some 0xF000FFFF
  else if id = 0x4011 then (if i % 2 = 0 then some 0xF3FFFFFF else none)
  else if id = Pid.PD_SRC_PDO 0 || id = Pid.PD_SRC_PDO 1 then some 0x800FFFFF
  else none

/-- Word `i` of a parameter with its reserved bits read as 0: a 1 written to one is ignored (R12). -/
def cleanWord (id i : Nat) (v : Int) : Int := (fieldMask id i).elim v (fun m => ((v.toNat &&& m : Nat) : Int))

/-- The words of one value lie in the parameter's range; a U64 is judged as a whole (R14). -/
def PInfo.wordsIn (r : PInfo) (ws : List W) : Bool :=
  if r.ty = .u64 then r.inRange ((ws.getD 0 0).toNat + 4294967296 * (ws.getD 1 0).toNat : Nat)
  else ws.all (fun w => r.inRange (r.value w))

/-! ### Sources and charger -/

/-- Each source code appears once in SRC.PRIORITY (R113). -/
def prioOk (s : State) : Bool :=
  (List.range 4).all (fun c => ((List.range 4).filter (fun k => (pn Pid.SRC_PRIORITY s / 16 ^ k) % 16 == c)).length == 1)

/-- The sources' rules (R113, R129). -/
def srcRules (s : State) : List Bool :=
  [prioOk s] ++ (List.range 2).map (fun d =>
    decide (pn (Pid.SRC_DC_VMIN_MV d) s + 2 * pn (Pid.SRC_DC_HYST_MV d) s ≤ pn (Pid.SRC_DC_VMAX_MV d) s))

/-- The float level compensated to CHG.TCOMP_TMIN is at or below V_CV, uV per cell, with the division of R142 (R135). -/
def floatOk (s : State) : Bool :=
  decide ((vFloat s : Int) * 1000 + tquot (pv Pid.CHG_TCOMP_UV_C s * (pv Pid.CHG_TCOMP_TMIN s - 250)) 10 ≤ (vCv s : Int) * 1000)

/-- The charger's rules (R132, R134, R135). -/
def chgRules (s : State) : List Bool :=
  [decide (pn Pid.CHG_I_CC_MA s * pn Pid.CHG_RSNS_UOHM s ≤ 90000000),
   decide (pn Pid.CHG_I_DIS_MAX_MA s * pn Pid.CHG_RSNS_UOHM s ≤ 90000000),
   if vrla s then decide (6 ≤ cells s ∧ cells s ≤ 24) else decide (4 ≤ cells s ∧ cells s ≤ 16),
   decide (vTrk s < vPre s ∧ vPre s < vCv s ∧ vCv s < vOv s),
   if vrla s then floatOk s else decide (vPre s < vRechg s ∧ vRechg s < vCv s),
   decide (vOv s * cells s ≤ 60000), decide (10000 ≤ vCv s * cells s)]

/-! ### Regulators (R197) -/

/-- The phase fields of VR.ASSIGN: members, and the spare when SPARE_EN is set. -/
def assignPhases (c : Nat) (s : State) : List Nat :=
  let w := assignWord c s
  (List.range 24).filter (fun k => w.testBit k) ++ (if w.testBit 31 then [(w / 16777216) % 32] else [])

/-- The rules on VR.ASSIGN. -/
def assignRules (s : State) : List Bool :=
  let all := (List.range 12).flatMap (fun c => assignPhases c s)
  [(List.range 32).all (fun k => decide ((all.filter (· == k)).length ≤ 1)), all.all (fun k => decide (k < 24))] ++
    (allFin 12).flatMap (fun c =>
      [decide ((vrMembers c s).length ≤ 8), !((assignWord c.val s).testBit 31) || vrUsed c s])

/-- The valid PDO voltages of a port. -/
def validMv (u : Fin 2) (s : State) : List Nat :=
  (List.range 11).filterMap (fun k => if pdoValid u k s then some (pdoMv u k s) else none)

/-- The reference of R167 in 0.300 V to 1.500 V: a set point of `n` / 400 mV behind an attenuator. -/
def refIn (c : Fin 12) (n att : Nat) (s : State) : Bool :=
  let d := 400 * att * pn (Pid.VR_DIV c.val) s
  decide (300 * d ≤ n * 1000 ∧ n * 1000 ≤ 1500 * d)

/-- The reference stays in the DAC's range (R167, R197). -/
def refOk (c : Fin 12) (s : State) : Bool :=
  match linkedPort c s with
  | some u => (validMv u s).all (fun v => refIn c (400 * v) (attFor c v s) s)
  | none =>
    let v := pn (Pid.VR_VOUT_MV c.val) s
    let m := pn Pid.SEQ_MARGIN_LIM s
    let a := pn (Pid.VR_ATT c.val) s
    refIn c (v * (400 - m)) a s && refIn c (v * (400 + m)) a s

/-- A current of a phase converts into 0.20 V to 2.80 V at its IMON pin (R177), in nV. -/
def imonIn (k : Fin 24) (ma : Int) (s : State) : Bool :=
  let v := (pn (Pid.PH_IMON_REF_MV k.val) s : Int) * 1000000 + ma * pn (Pid.PH_IMON_GAIN_UV_A k.val) s
  decide (200000000 ≤ v ∧ v ≤ 2800000000)

/-- The rules of a channel; all hold of an unused one (R159). -/
def vrRules (c : Fin 12) (s : State) : List Bool :=
  let n := c.val
  let k := (vrMembers c s).length
  let f := pn (Pid.VR_FSW_KHZ n) s
  let l := [(pn (Pid.VR_IPK_MA n) s : Int), pn (Pid.VR_IVAL_MA n) s, -(pn (Pid.VR_INEG_MA n) s : Int)]
  [decide (pn (Pid.VR_MIN_PH n) s ≤ k), refOk c s, decide (k * f ≤ 12000),
   decide (pn (Pid.VR_TOFF_MIN_NS n) s * f * 2 < 1000000),
   (vrPhases c s).all (fun p => l.all (fun i => imonIn p i s)),
   decide (pn (Pid.VR_PG_HYST n) s < min (pn (Pid.VR_PG_UV n) s) (pn (Pid.VR_PG_OV n) s)),
   decide (pn (Pid.VR_IVAL_MA n) s ≤ pn (Pid.VR_IPK_MA n) s)].map (fun b => b || !vrUsed c s)

/-! ### Sequencer, monitors, enables (R231) -/

/-- The ENABLE steps of a rail over all enabled groups. -/
def enablesOf (r : Rail) (s : State) : Nat :=
  ((allFin 8).map (fun g => if groupEn g s then ((groupRails g s).filter (· == r)).length else 0)).sum

/-- A step keeps the rules on its fields. -/
def stepOk (x : Step) (s : State) : Bool :=
  let t := decide (1 ≤ x.time ∧ x.time ≤ 6000000)
  (!x.inDown || x.action == 3) && (!x.cont || x.action == 2 || x.action == 4) &&
  (if x.action = 1 then
      x.level == 0 && x.time == 0 &&
        (match railOf x.target with
          | some (.vr c) => (linkedPort c s).isNone
          | some _ => true
          | none => false)
    else if x.action = 2 then
      t && (match railOf x.target with
        | some (.en n) => x.level == 0 && (enMon n s).isSome
        | some _ => decide (1 ≤ x.level ∧ x.level ≤ 1000)
        | none => decide (0x40 ≤ x.target ∧ x.target < 0x60) && x.level == 0)
    else if x.action = 3 then x.level == 0 && x.target == 0 && decide (x.time ≤ 6000000)
    else x.action == 4 && x.level == 0 && t)

/-- SEQ.ORDER names each enabled group once; its other nibbles name groups or hold 0xF (R215). -/
def orderOk (s : State) : Bool :=
  let l := (List.range 8).map (fun i => (pn Pid.SEQ_ORDER s / 16 ^ i) % 16)
  l.all (fun d => decide (d < 8) || d == 15) &&
    (allFin 8).all (fun g => decide ((l.filter (· == g.val)).length = 1) || !groupEn g s)

/-- Two groups' step ranges do not overlap. -/
def apart (g h : Fin 8) (s : State) : Bool :=
  decide (groupFirst g s + groupCount g s ≤ groupFirst h s ∨ groupFirst h s + groupCount h s ≤ groupFirst g s)

/-- The rules of one group; all hold of a group that is not enabled. -/
def groupRules (g : Fin 8) (s : State) : List Bool :=
  [decide (1 ≤ groupCount g s), decide (groupFirst g s + groupCount g s ≤ 128), decide (groupAct g s ≤ 2),
   (allFin 8).all (fun h => !decide (g.val < h.val) || !groupEn h s || apart g h s),
   (groupSteps g s).all (fun x => stepOk x.2 s)].map (fun b => b || !groupEn g s)

/-- The rules of the sequencer's tables. -/
def seqRules (s : State) : List Bool :=
  [orderOk s, allRails.all (fun r => decide (enablesOf r s ≤ 1))] ++ (allFin 8).flatMap (fun g => groupRules g s)

/-- The rules of a monitor. -/
def monRules (m : Nat) (s : State) : List Bool :=
  let r := pn (Pid.MON_RAIL m) s
  let a := pn (Pid.MON_ACT m) s
  let d := pn (Pid.MON_DIV m) s
  let uv := pn (Pid.MON_UV_MV m) s
  let ov := pn (Pid.MON_OV_MV m) s
  [(railOf r).isSome || r == 0xFF, !(a.testBit 1 && a.testBit 2),
   [uv, ov, pn (Pid.MON_OFF_MV m) s].all (fun v => decide (monCode v d ≤ 1023)),
   uv == 0 || ov == 0 || decide (uv + 2 * pn (Pid.MON_HYST_MV m) s < ov)]

/-- The rule of an enable output: no open drain with active high. -/
def enRules (n : Nat) (s : State) : List Bool := [!(pn (Pid.EN_DRIVE n) s == 1 && pn (Pid.EN_POL n) s == 0)]

/-- Every rule of R231. -/
def r231Rules (s : State) : List Bool :=
  seqRules s ++ (List.range 32).flatMap (fun m => monRules m s) ++ (List.range 16).flatMap (fun n => enRules n s)

/-! ### Estimator, acquisition, temperature (R272, R301, R320) -/

/-- EST.V_CUT lies below the OCV table's 0 % value at 25 degC; the table is the image's (log entry 29). -/
def cutBelowOcv (s : State) : Bool :=
  (Frac.ofInt (vCut s)).lt (readSoc (factEntries .ocv s) 21 0 250)

/-- The rules of R272 that a PARAM_SET can break. -/
def estRules (s : State) : List Bool :=
  [decide (pn Pid.EST_WARN_CRIT_MIN s < pn Pid.EST_WARN_LOW_MIN s),
   decide (pn Pid.EST_WARN_LOW_MIN s < pn Pid.EST_WARN_EARLY_MIN s),
   decide (10000 ≤ vCut s * cells s), cutBelowOcv s,
   decide (pn Pid.EST_RATED_MA s * pn Pid.EST_RSHUNT_UOHM s ≤ 90000000)]

/-- The round time of R301, in tenths of a ns. -/
def roundTime (s : State) : Nat :=
  let diodes := ((List.range 8).filter (fun i => pn (Pid.TSNS_KIND i) s == 2)).length
  let conv := if pb Pid.ACQ_RATE_HALF s then 667 else 333
  pn Pid.ACQ_GANG_MAX_US s * 10000 + (112 + diodes) * (pn Pid.ACQ_SETTLE_NS s * 10 + pn Pid.ACQ_ROUND_AVG s * conv)

/-- The rules of the acquisition. -/
def acqRules (s : State) : List Bool :=
  let ring := pn Pid.ACQ_RING_SLICES s
  [!ring.testBit (pn Pid.ACQ_ROUND_SLICE s), ((List.range 16).filter (fun k => ring.testBit k)).length == 2,
   decide (roundTime s ≤ 10000000)] ++
    (List.range 16).map (fun w => decide (pv (Pid.ACQ_RW_LOW w) s ≤ pv (Pid.ACQ_RW_HIGH w) s))

/-- The two SNS bytes of a zone. -/
def zoneBytes (z : Nat) (s : State) : List Nat := let w := pn (Pid.THERM_Z_SNS z) s; [w % 256, w / 256]

/-- The rules on zones and thresholds (R320). -/
def thermRules (s : State) : List Bool :=
  let named := ((List.range 8).flatMap (fun z => zoneBytes z s)).filter (· ≠ 0xFF)
  [decide (pv Pid.THERM_DIE_WARN s < pv Pid.THERM_DIE_THROT s), decide (pv Pid.THERM_DIE_THROT s < pv Pid.THERM_DIE_SHUT s),
   named.all (fun i => decide (i < 8) && pn (Pid.TSNS_KIND i) s != 0),
   (List.range 8).all (fun i => decide ((named.filter (· == i)).length ≤ 1))] ++
    (List.range 8).flatMap (fun i =>
      [decide (pv (Pid.TSNS_WARN i) s < pv (Pid.TSNS_THROT i) s),
       decide (pv (Pid.TSNS_THROT i) s < pv (Pid.TSNS_SHUT i) s)]) ++
    (List.range 8).flatMap (fun z =>
      let b := zoneBytes z s
      [b.getD 0 0 != 0xFF || b.getD 1 0 == 0xFF, pn64 (Pid.THERM_Z_RAILS z) s == 0 || b.any (· ≠ 0xFF)])

/-! ### USB ports (R350) -/

/-- The rules of a linked channel. -/
def linkRules (u : Fin 2) (s : State) : List Bool :=
  match pdChan u s with
  | none => [true, true]
  | some c =>
    let d := pn (Pid.VR_DIV c.val) s
    [vrUsed c s && pn (Pid.VR_DISCH c.val) s == 1 && !pb (Pid.VR_PREBIAS c.val) s,
     decide (d ≤ 16666) && (validMv u s).all (fun v => decide (1000 * v ≤ 4500 * d))]

/-- The rules of a port. -/
def pdRules (u : Fin 2) (s : State) : List Bool :=
  let pdo := fun (k : Nat) =>
    !pdoValid u k s ||
      ((if k < 7 then [5000, 9000, 15000, 20000] else [28000, 36000, 48000]).contains (pdoMv u k s) &&
        decide ((pdoWord u k s % 1024) * 10 ≤ 5000))
  let v := validMv u s
  linkRules u s ++
  [pdoValid u 0 s && pdoMv u 0 s == 5000, (List.range 11).all pdo,
   (v.zip (v.drop 1)).all (fun p => decide (p.1 < p.2)),
   decide (pn (Pid.PD_SNK_VMIN_MV u.val) s ≤ pn (Pid.PD_SNK_VMAX_MV u.val) s),
   !(pn (Pid.PD_ROLE u.val) s == 2 && (pdChan u s).isNone)]

/-- Every rule of R350. -/
def r350Rules (s : State) : List Bool :=
  [(pdChan 0 s).isNone || pdChan 0 s != pdChan 1 s] ++ pdRules 0 s ++ pdRules 1 s

/-! ### Events and GPIOs (R386) -/

/-- The rules of an EIC source: fixed fields as the map gives them, and targets wherever PRIO is above 0. -/
def eicRules (n : Nat) (s : State) : List Bool :=
  let w := pn (Pid.EIC_SRC n) s
  [!eicFixed n || ((w % 16384 : Nat) : Int) == eicDefault n, w % 16 == 0 || (w / 16) % 512 != 0]

/-- FUNC of a GPIO. -/
def gpioFn (n : Nat) (s : State) : Nat := pn (Pid.GPIO_CFG n) s % 16

/-- GPIO functions and CHG.BATPRES agree (R383, R386). -/
def gpioRules (s : State) : List Bool :=
  let b := pn Pid.CHG_BATPRES s
  [(List.range 16).all (fun n => decide (gpioFn n s ≤ 7)), (List.range 16).all (fun n => gpioFn n s != 7 || b == n || b == 0xFF),
   b == 0xFF || gpioFn b s == 7]

/-! ### Together -/

/-- The rules that a PARAM_SET of the parameters `ids` can break: those of the blocks it writes. -/
def rulesFor (ids : List Nat) (s : State) : List Bool :=
  let hit := fun (lo hi : Nat) => ids.any (fun i => decide (lo ≤ i) && decide (i < hi))
  (if hit 0x1000 0x2000 then srcRules s else []) ++
  (if hit 0x2000 0x3000 then chgRules s else []) ++
  (allFin 12).flatMap (fun c =>
    if hit (0x3000 + 0x100 * c.val) (0x3100 + 0x100 * c.val) then vrRules c s else []) ++
  (if hit 0x3000 0x4000 then r350Rules s else []) ++
  (if hit 0x4000 0x4100 then seqRules s else []) ++
  (List.range 32).flatMap (fun m =>
    if hit (0x4100 + 0x10 * m) (0x4110 + 0x10 * m) then monRules m s else []) ++
  (if hit 0x5000 0x6000 then estRules s else []) ++
  (if hit 0x6000 0x7000 then acqRules s else []) ++
  (if hit 0x7000 0x8000 then thermRules s else []) ++
  (if hit 0x8000 0x9000 then r350Rules s else []) ++
  (List.range 256).flatMap (fun n => if hit (0x9100 + n) (0x9101 + n) then eicRules n s else [])

/-- Some rule that held in `s` is broken in `t`. -/
def newlyBroken (l m : List Bool) : Bool := (l.zip m).any (fun p => p.1 && !p.2)

/-- The sum of R87. -/
def allocOk (s : State) : Bool :=
  pn Pid.HIF_CRED_SPIA s + pn Pid.HIF_CRED_SPIB s + pn Pid.HIF_CRED_I2C s == 208

/-- Every rule that a configuration image keeps: BOOT_ERR 0x03 otherwise. -/
def imageRules (s : State) : Bool :=
  (([allocOk s, decide (pn Pid.NVM_PF_MV s < vPre s * cells s), factValid .ocv s, factValid .cap s, factValid .rs s] ++
    srcRules s ++ chgRules s ++ assignRules s ++ (allFin 12).flatMap (fun c => vrRules c s) ++ r231Rules s ++ estRules s ++
    acqRules s ++ thermRules s ++ r350Rules s ++ (List.range 256).flatMap (fun n => eicRules n s) ++ gpioRules s)).all id

/-- Every value of an image lies in its parameter's range (R14). -/
def imageInRange (img : List (Nat × List W)) : Bool :=
  img.all (fun e =>
    match paramInfo e.1 with
    | none => true
    | some r => r.wordsIn e.2)

end Sys2Proof.Machine
end

