-- ==== Sys2Proof/Machine/Sequencer.lean ====
section
/-! DEFINITION. Rail and group commands, the step engine, monitors and margins: the rows of chapter 07. -/

namespace Sys2Proof.Machine

/-! ### Commands (R222 to R226) -/

/-- RAIL_ON (R222): refused, held behind a RAIL_OFF of the rail, or the rail is enabled. -/
def execRailOn (p : Port) (tag : Tag) (s : State) : Out :=
  .next (runCmd 0x401 p tag (fun x s =>
    match railOf (bitsOf (x.word 1) 0 8) with
    | none => completeW { port := p, tag := tag } 0x14 [0] s
    | some r =>
      if s.pwr.railWaits.any (fun w => w.rail == r && w.cmd.isSome) then
        modSlot p tag (fun y => { y with status := .running }) s
      else railOnGo r { port := p, tag := tag } s) s)

/-- The RAIL_ONs of a rail accepted before a command. -/
def railOnsBefore (r : Rail) (x : Slot) (s : State) : List CmdRef :=
  ((s.hif.slots.takeWhile (fun y => y ≠ x)).filter
    (fun y => y.op == 0x401 && !y.status.isFinished && bitsOf (y.word 1) 0 8 == railCode r)).map
    (fun y => { port := y.port, tag := y.tag })

/-- RAIL_OFF (R222): supersedes earlier RAIL_ONs of the rail, acts on a powering-up group as GROUP_DOWN, disables the
rail and waits until it is below its off-threshold. -/
def execRailOff (p : Port) (tag : Tag) (s : State) : Out :=
  .next (runCmd 0x402 p tag (fun x s =>
    match railOf (bitsOf (x.word 1) 0 8) with
    | none => completeW { port := p, tag := tag } 0x14 [0] s
    | some r =>
      let by_ := supersedeWord 0x402 tag p 0
      let s1 := completeAllW (railOnsBefore r x s) 0x22 [by_] s
      let s2 := match railGroup r s1 with
        | none => s1
        | some g =>
          let st := s1.pwr.grp[g].st
          if st = .upRun || st = .backoff then requestDown g [] by_ .toDown s1
          else if st = .up then setGroup g .partialUp s1 else s1
      let s3 := disableRail r s2
      if railOff r s3 then completeW { port := p, tag := tag } 0x00 [w32 (railState r s3)] s3
      else addRailWait r (some { port := p, tag := tag }) (modSlot p tag (fun y => { y with status := .running }) s3)) s)

/-- GROUP_UP (R217, R223). -/
def execGroupUp (p : Port) (tag : Tag) (s : State) : Out :=
  .next (runCmd 0x410 p tag (fun x s =>
    let c : CmdRef := { port := p, tag := tag }
    let n := bitsOf (x.word 1) 0 8
    if h : n < 8 then
      if !groupEn ⟨n, h⟩ s then completeW c 0x17 [0] s
      else requestUp ⟨n, h⟩ [c] (modSlot p tag (fun y => { y with status := .running }) s)
    else completeW c 0x14 [0] s) s)

/-- GROUP_DOWN (R215, R217, R223). -/
def execGroupDown (p : Port) (tag : Tag) (s : State) : Out :=
  .next (runCmd 0x411 p tag (fun x s =>
    let c : CmdRef := { port := p, tag := tag }
    let n := bitsOf (x.word 1) 0 8
    let go := modSlot p tag (fun y => { y with status := .running }) s
    if h : n < 8 then
      if !groupEn ⟨n, h⟩ s then completeW c 0x17 [0] s
      else requestDown ⟨n, h⟩ [c] (supersedeWord 0x411 tag p 0) .toDown go
    else if n = 0xFF then startAllDown [c] go
    else completeW c 0x14 [0] s) s)

/-- MARGIN_SET (R225). -/
def execMarginSet (p : Port) (tag : Tag) (s : State) : Out :=
  .next (runCmd 0x420 p tag (fun x s =>
    let n := bitsOf (x.word 1) 0 8
    let m := ((x.word 1).extractLsb' 16 16).toInt
    if s.sys.mode ≠ .test && !pb Pid.SEQ_MARGIN_ALLOW s then wrongState p tag 0 s
    else if h : n < 12 then
      let c : Fin 12 := ⟨n, h⟩
      if !vrUsed c s || (linkedPort c s).isSome then wrongState p tag 0 s
      else if pn Pid.SEQ_MARGIN_LIM s < m.natAbs then outOfRange p tag 0 s
      else done p tag [wInt m] (applyMargin c m s)
    else outOfRange p tag 0 s) s)

/-- DECLARED_WAIT_EXPIRY (R222): a RAIL_ON that still waits completes FAILED_TIMEOUT. -/
def execDeclaredWaitExpiry (p : Port) (tag : Tag) (s : State) : Out :=
  .next (match findSlot p tag s with
    | none => s
    | some x =>
      if x.op = 0x401 && x.status = .running then completeW { port := p, tag := tag } 0x31 [0] s else s)

/-! ### The step engine (R207 to R221) -/

/-- SEQ_TICK (R207, R212): outputs as measured, rails found off, every group, the auto-start and the all-groups orders. -/
def execSeqTick (outs : List (Rail × Nat)) (s : State) : Out :=
  let s1 := foldS noteOut outs (tickTo 2 10 s)
  .next (if s1.sys.inReset then s1
    else tickAllDown (tickAuto (foldS tickGroup (allFin 8) (tickRails s1))))

/-- WAIT_TIME_END (R207, R212): the next step starts, or the walk goes on. -/
def execWaitTimeEnd (g : Fin 8) (s : State) : Out :=
  let x := s.pwr.grp[g]
  .next (if x.stepAt.isSome && (stepAt x.step s).action == 3 then
      (if x.st = .upRun then nextUpStep g s
       else if (x.st = .downRun || x.st = .backoff) && !x.backoffWait && !x.immediate then walkOn g s else s)
    else s)

/-- SEQ_STEP_TIMEOUT (R207, R210). -/
def execSeqStepTimeout (g : Fin 8) (s : State) : Out :=
  let x := s.pwr.grp[g]
  let w := stepAt x.step s
  .next (if x.st = .upRun && x.stepAt.isSome && !x.waitOver && (w.action == 2 || w.action == 4) then
      (if w.cont then onGrp g (fun y => { y with waitOver := true }) (grpPick g 0x19 (x.step % 256) s)
       else failAttempt g 1 x.step s)
    else s)

/-- BACKOFF_EXPIRY (R211, R216): a new attempt, or a new series after CYCLE. -/
def execBackoffExpiry (g : Fin 8) (s : State) : Out :=
  let x := s.pwr.grp[g]
  .next (if x.st = .backoff && x.backoffWait then
      (if x.after = .cycle then startSeries g s else startAttempt g s)
    else s)

/-- RAIL_STUCK of a group's walk (R213): CONTINUE takes the rail as off, HALT stops the walk. -/
def walkStuck (g : Fin 8) (s : State) : State :=
  let x := s.pwr.grp[g]
  if x.stuckHalt then
    let s1 := setGroup g .halted (onGrp g (fun y => { y with haltStep := y.step, railAt := none }) s)
    let s2 := finishUps g 0x30 (finishDowns g 0x30 s1)
    onGrp g (fun y => { y with heldUp := none }) (completeAllW (x.heldUp.getD []) 0x17 [0] s2)
  else walkFound g (onGrp g (fun y => { y with takenOff := satAdd 255 y.takenOff 1 }) s)

/-- The group whose walk waits for a rail. -/
def walkingGroup (r : Rail) (s : State) : Option (Fin 8) :=
  (allFin 8).find? (fun g => let x := s.pwr.grp[g]
    (x.st == .downRun || x.st == .backoff) && x.railAt.isSome && (stepAt x.step s).enables == some r)

/-- RAIL_STUCK (R213, R222). -/
def execRailStuck (r : Rail) (s : State) : Out :=
  let pick := fun (src : Nat) (t : State) =>
    raisePickEv src 0x1A (railCode r) (some (0x4003, w32 (railCode r))) t
  let src := match railGroup r s with | some g => 0x120 + g.val | none => 0x128
  .next (if railOff r s then s
    else match walkingGroup r s with
    | some g => walkStuck g (pick src s)
    | none =>
      match s.pwr.railWaits.find? (fun w => w.rail == r) with
      | none => s
      | some w =>
        let s1 := pick src s
        let s2 := match railGroup r s1 with
          | some g => when_ s1.pwr.grp[g].immediate
              (onGrp g (fun y => { y with takenOff := satAdd 255 y.takenOff 1 })) s1
          | none => s1
        railWaitDone w 0x01 s2)

/-- HELD_ENABLE_TIMEOUT (R219): the enable is withdrawn; the attempt fails with cause 0x4, or RAIL_ON times out. -/
def execHeldEnableTimeout (r : Rail) (s : State) : Out :=
  .next (if !railHeld r s then s
    else
      let s1 := completeAllW (railOnWaiters r s) 0x31 [0] (withdrawHeld r s)
      match (allFin 8).find? (fun g => let x := s1.pwr.grp[g]
          x.st == .upRun && x.stepAt.isSome && (stepAt x.step s1).enables == some r) with
      | none => s1
      | some g => failAttempt g 4 s1.pwr.grp[g].step s1)

/-- AUTO_START (R46, R215): after the first complete round the auto-start groups power up in order. -/
def execAutoStart (s : State) : Out :=
  .next (if !s.sys.boot.autoDue || !s.sys.boot.firstRound || !s.sys.boot.full then s
    else
      let s1 := s.onSys (fun y => { y with boot := { y.boot with autoDue := false } })
      let l := (seqOrder s1).filter (fun g => groupAuto g s1)
      match l with
      | [] => s1
      | g :: _ => requestUp g [] (s1.onPwr (fun w => { w with autoQueue := l })))

/-! ### Enable outputs and monitors (R200 to R204) -/

/-- A monitor's UV on a linked EN rail that is ON takes the rail out of being up (R216). -/
def enUv (m : Fin 32) (s : State) : State :=
  foldS (fun n t => when_ (enMon n t == some m && t.pwr.en[n].st == .on) (railFault (.en n) 6) t) (allFin 16) s

/-- The actions of MONm.ACT bits 1 and 2 (R204). After a chip reset a power-down waits until the groups are read back. -/
def monActions (m : Fin 32) (s : State) : State :=
  let act := pn (Pid.MON_ACT m.val) s
  let g := pn (Pid.MON_GROUP m.val) s
  if h : g < 8 then
    if act.testBit 2 then immediateOff ⟨g, h⟩ (originWord 0x003 2) s
    else if act.testBit 1 && !s.sys.inReset && s.pwr.grp[g].st = .unused && !s.sys.boot.cfgLoaded then
      s.onPwr (fun w => { w with carriedDown := w.carriedDown ++ [⟨g, h⟩] })
    else if act.testBit 1 && !s.sys.inReset && groupEn ⟨g, h⟩ s then
      requestDown ⟨g, h⟩ [] (originWord 0x411 1) .toDown s
    else s
  else s

/-- An evaluated monitor's comparator is set: pick, host event and actions (R204). -/
def monFault (m : Fin 32) (which : MonSide) (s : State) : State :=
  monActions m (raisePickEv (0x100 + m.val) (match which with | .uv => 0x10 | .ov => 0x11) 0 (some (0x4002, 0)) s)

/-- MON_COMPARATOR_SET (R202, R204). -/
def execMonComparatorSet (m : Fin 32) (e : MonEdge) (s : State) : Out :=
  let x := s.pwr.mon[m]
  let already := match e.side with | .uv => x.uv | .ov => x.ov
  .next (if already || !monSets m e s || s.sys.regStopped then s
    else
      let s1 := onMon m (fun y => match e.side with | .uv => { y with uv := true } | .ov => { y with ov := true }) s
      let s2 := when_ x.eval (monFault m e.side) s1
      match e.side with
      | .uv => enUv m s2
      | .ov => s2)

/-- MON_COMPARATOR_CLEAR (R202). -/
def execMonComparatorClear (m : Fin 32) (e : MonEdge) (s : State) : Out :=
  .next (if !monClears m e s || s.sys.regStopped then s
    else
      let s1 := onMon m (fun y => match e.side with | .uv => { y with uv := false } | .ov => { y with ov := false }) s
      foldS (fun n t => when_ (enMon n t == some m) (railUpDone (.en n)) t) (allFin 16) s1)

/-- The monitor begins to be evaluated: a comparator already set counts as setting now (R203). -/
def monEvaluate (m : Fin 32) (s : State) : State :=
  let x := s.pwr.mon[m]
  if x.eval then s
  else
    let s1 := onMon m (fun y => { y with eval := true }) s
    when_ x.ov (monFault m .ov) (when_ x.uv (monFault m .uv) s1)

/-- The rail a monitor is gated by has been enabled and not disabled since, whatever has become of it (R203). -/
def monGateOpen (m : Fin 32) (s : State) : Bool :=
  let r := pn (Pid.MON_RAIL m.val) s
  r == 0xFF || (railOf r).any (fun q => (railEnabledAt q s).isSome)

/-- MON_EVALUATION_START (R203): MONm.BLANK_MS after its rail's enable. -/
def execMonEvaluationStart (m : Fin 32) (s : State) : Out :=
  .next (if monGateOpen m s && s.pwr.mon[m].written && !s.sys.regStopped then monEvaluate m s else s)

/-- MON_THRESHOLD_WRITE (R201, R229): the codes go from the widened window to the new one; a window that a margin change
holds wide stays so. -/
def execMonThresholdWrite (m : Fin 32) (s : State) : Out :=
  .next (if !s.sys.boot.cfgLoaded || s.sys.inReset || s.sys.regStopped then s
    else if s.pwr.mon[m].widened then monWiden m s else monWrite m s)

/-- EN_OFF_WAIT_EXPIRY (R200): an EN rail in DISCHARGE moves to OFF. -/
def enOffWait (n : Fin 16) (s : State) : State :=
  if s.pwr.en[n].st = .discharge then applyPending (.en n) (onEn n (fun y => { y with st := .off }) s) else s

/-- A comparator of a monitor below OFF moves a linked EN rail in DISCHARGE to OFF (R200). -/
def offChange (m : Fin 32) (below : Bool) (s : State) : State :=
  let s1 := onMon m (fun y => { y with off := below }) s
  if below then foldS (fun n t => when_ (enMon n t == some m) (enOffWait n) t) (allFin 16) s1 else s1

/-- MARGIN_WINDOW_NARROW (R227): the windows narrow to the new set point. -/
def execMarginWindowNarrow (c : Fin 12) (s : State) : Out :=
  let x := s.pwr.vr[c]
  .next (if x.wide.isNone || x.slewing then s
    else
      let s1 := onVr c (fun y => { y with wide := none }) s
      foldS (fun m t => when_ t.pwr.mon[m].widened (monWrite m) t) (chanMons c s1) s1)

/-- SLEW_COMPLETE (R170, R226): the reference is at its new set point; a margin of 0 clears MARGINED. -/
def execSlewComplete (c : Fin 12) (s : State) : Out :=
  .next (if s.pwr.vr[c].slewing then
      onVr c (fun y => { y with slewing := false, refMv := y.setMv, margined := y.margin ≠ 0,
                                att := if (linkedPort c s).isSome then attFor c y.setMv s else y.att }) s
    else s)

end Sys2Proof.Machine
end

