-- ==== Sys2Proof/Machine/ParamCmd.lean ====
section
/-! DEFINITION. PARAM_GET, PARAM_SET and PARAM_COMMIT: checks entry by entry, the set as a whole, and what a written parameter
changes at once (R101 to R105, R319, R320). -/

namespace Sys2Proof.Machine

/-! ### PARAM_GET (R101) -/

/-- The values of payload word `w`, or the status that refuses it. -/
def getWord (alone : Bool) (w : W) (s : State) : Except Nat (List W) :=
  let id := bitsOf w 0 16
  let off := bitsOf w 16 16
  match paramInfo id with
  | none => .error 0x13
  | some r =>
    let val := fun (i : Nat) => wInt (readPv r id i s)
    if r.ty = .tbl then
      if !alone then .error 0x12
      else if r.words ≤ off then .error 0x14
      else .ok ((List.range (min 12 (r.words - off))).map (fun i => val (off + i)))
    else if off ≠ 0 then .error 0x14
    else .ok ((List.range r.words).map val)

/-- The results of a list of payload words, or the status and the index of the first that fails; `k` words are checked, `out` is
collected. -/
def getWords (alone : Bool) (s : State) : Nat → List W → List W → Except (Nat × Nat) (List W)
  | _, out, [] => .ok out
  | k, out, w :: ws =>
    match getWord alone w s with
    | .error e => .error (e, k)
    | .ok l => if 12 < out.length + l.length then .error (0x12, k) else getWords alone s (k + 1) (out ++ l) ws

/-- PARAM_GET (R101). -/
def execParamGet (p : Port) (tag : Tag) (s : State) : Out :=
  .next (runCmd 0x101 p tag (fun x s =>
    match getWords (x.payload.length == 1) s 0 [] x.payload with
    | .ok l => done p tag l s
    | .error e => complete p tag e.1 [w32 e.2] s) s)

/-! ### PARAM_SET: the checks (R102, R104) -/

/-- Parameters of a channel that may be written only while it is OFF or LATCHED_OFF (R194): offsets. -/
def vrOffOnly (off : Nat) : Bool := [0x0A, 0x0B, 0x0C, 0x10, 0x11, 0x22].contains off

/-- OFF or LATCHED_OFF. -/
def ChanState.offOrLatched : ChanState → Bool
  | .off => true
  | .latchedOff => true
  | _ => false

/-- A temperature threshold or hysteresis (R318, R319). -/
def thermThreshold (id : Nat) : Bool :=
  (0x7001 ≤ id && id ≤ 0x7006) || (inInst id 0x7100 0x10 8 && decide (4 ≤ (id - 0x7100) % 16 ∧ (id - 0x7100) % 16 ≤ 9))

/-- The parameter may be written in the present state: R170, R194, R196, R319. -/
def writableNow (id : Nat) (s : State) : Bool :=
  if h : 0x3000 ≤ id ∧ id < 0x3C00 then
    let c : Fin 12 := ⟨(id - 0x3000) / 0x100, by omega⟩
    if id % 0x100 = 1 then (linkedPort c s).isNone
    else !vrOffOnly (id % 0x100) || s.pwr.vr[c].st.offOrLatched
  else if h : 0x3C00 ≤ id ∧ id < 0x3C80 then
    id % 0x10 != 2 || s.pwr.ldo[(⟨(id - 0x3C00) / 0x10, by omega⟩ : Fin 8)].st.offOrLatched
  else !thermThreshold id || shRuns 5 s

/-- Locked by life cycle (R104). -/
def plocked (id : Nat) (s : State) : Bool :=
  lcNow s == .customerLocked && (otpShadow 0x0E1 s).getLsbD (id / 0x1000) && decide (id < 0xD000)

/-- ACT and CHG_PCT of an unused zone are not checked (R320). -/
def zoneUnchecked (id : Nat) (s : State) : Bool :=
  inInst id 0x7200 0x08 8 && ((id - 0x7200) % 8 == 2 || (id - 0x7200) % 8 == 3) &&
    (zoneBytes ((id - 0x7200) / 8) s).getD 0 0 == 0xFF

/-- The value words of an entry pass the range check of their parameter. -/
def SetEntry.inRange (e : SetEntry) (r : PInfo) (s : State) : Bool :=
  (if r.ty = .tbl then decide (e.off + e.vals.length ≤ r.words) else e.off == 0) &&
    (zoneUnchecked e.id s || r.wordsIn e.vals)

/-- The status that refuses an entry, in the order of the table of R102; `none`: it passes. -/
def SetEntry.check (e : SetEntry) (s : State) : Option Nat :=
  match e.info with
  | none => some 0x13
  | some r =>
    if e.runsPast || e.vals.isEmpty then some 0x12
    else if !e.inRange r s then some 0x14
    else if r.cls = .img || r.cls = .ro then some 0x15
    else if plocked e.id s then some 0x16
    else if !writableNow e.id s then some 0x17
    else none

/-- The first entry that fails: status and index. -/
def checkEntries (s : State) : Nat → List SetEntry → Option (Nat × Nat)
  | _, [] => none
  | k, e :: l =>
    match e.check s with
    | some st => some (st, k)
    | none => checkEntries s (k + 1) l

/-- Write the words of an entry. -/
def SetEntry.put (e : SetEntry) (s : State) : State :=
  match e.info with
  | none => s
  | some r => foldS (fun p t => setPv e.id (e.off + p.1) (cleanWord e.id (e.off + p.1) (r.value p.2)) t)
      ((List.range e.vals.length).zip e.vals) s

/-! ### What a written parameter changes at once -/

/-- A parameter of the list lies in an interval. -/
def wrote (ids : List Nat) (lo hi : Nat) : Bool := ids.any (fun i => decide (lo ≤ i) && decide (i ≤ hi))

/-- A DC input after a write of its window or its limit: an exit that the change makes is no bounce, and acts as any other, with
the standby takeover before it (R114, R129). -/
def dcWritten (d : Fin 2) (ids : List Nat) (s : State) : State :=
  let i := dcSrc d
  let o := 0x1010 + 0x10 * d.val
  let s1 := when_ (wrote ids (o + 6) (o + 6) || wrote ids 0x100D 0x100D) (refreshLimit i) s
  let s2 := when_ (wrote ids (o + 7) (o + 7)) (fun t => srcEnable i (pb (Pid.SRC_DC_EN d.val) t) t) s1
  let x := srcAt i s2
  if wrote ids o (o + 2) && x.inWin && winLeaves i x.mv s2 then
    srcExit i false (when_ (x.st == .enabled || x.st == .ramping) (takeover i) (latchEic (126 + i.val) s2))
  else s2

/-- Source parameters (R113, R115, R129): windows, limits and priority count at SH0's next evaluation. -/
def srcWritten (ids : List Nat) (s : State) : State :=
  let before := orMembers s
  let s1 := dcWritten 1 ids (dcWritten 0 ids s)
  let s2 := when_ (wrote ids 0x1005 0x1006) (applyOr before 0x04) s1
  when_ (wrote ids 0x1005 0x1008) returnCheck s2

/-- A channel's set point (R170). -/
def voutWritten (ids : List Nat) (c : Fin 12) (s : State) : State :=
  if wrote ids (Pid.VR_VOUT_MV c.val) (Pid.VR_VOUT_MV c.val) && s.pwr.vr[c].st.running then slewTo c (targetMv c s) s else s

/-- A change of MONm.RAIL gates the monitor afresh (R203). -/
def railWritten (m : Fin 32) (s : State) : State :=
  let r := pn (Pid.MON_RAIL m.val) s
  let past := fun (q : Rail) =>
    (railEnabledAt q s).any (fun t => decide (t + 1000 * pn (Pid.MON_BLANK_MS m.val) s ≤ s.sys.devTime))
  if r = 0xFF || (railOf r).any past then monEvaluate m s else onMon m (fun x => { x with eval := false }) s

/-- A change of a threshold of an evaluated monitor widens its window to the union (R229). -/
def monWritten (o : State) (ids : List Nat) (m : Fin 32) (s : State) : State :=
  let b := 0x4100 + 0x10 * m.val
  let s1 := when_ (wrote ids (b + 1) (b + 4) && s.pwr.mon[m].eval) (monUnite m) s
  when_ (pn (Pid.MON_RAIL m.val) o != pn (Pid.MON_RAIL m.val) s) (railWritten m) s1

/-- Acquisition parameters: the reference, and comparators disarmed until they re-arm (R284, R285). -/
def acqWritten (ids : List Nat) (s : State) : State :=
  let sel := BitVec.ofNat 2 (pn Pid.ACQ_REF_SEL s)
  let s1 := when_ (wrote ids Pid.ACQ_REF_SEL Pid.ACQ_REF_SEL && sel != s.acq.ref) (setRef sel) s
  foldS (fun c t => when_ (wrote ids (0x6100 + 8 * c.val) (0x6105 + 8 * c.val))
    (onCc c (fun x => { x with armed := false, written := true })) t) (allFin 32) s1

/-- USB port parameters: a changed offer is sent, a changed choice is requested (R331, R349). -/
def pdWritten (o : State) (u : Fin 2) (s : State) : State :=
  let s1 := capsChanged u (offeredList u o) s
  let x := pdPort u s1
  if s1.pd.coreRuns && x.st == .attachedSnk && !x.source && x.pos != 0 && chooseRequest u o != chooseRequest u s1 then
    sendRequest u s1
  else s1

/-- Everything a PARAM_SET of `ids` changes beside the values; `o` is the state before it. -/
def paramsWritten (o : State) (ids : List Nat) (s : State) : State :=
  let s1 := when_ (wrote ids 0x1000 0x102F) (srcWritten ids) s
  let s2 := when_ (wrote ids Pid.CHG_EN Pid.CHG_EN && !pb Pid.CHG_EN s1) chgStop s1
  let minPh := fun (c : Fin 12) => when_ (wrote ids (Pid.VR_MIN_PH c.val) (Pid.VR_MIN_PH c.val)) (minPhCheck c)
  let s3 := when_ (wrote ids 0x3000 0x3BFF) (fun t => foldS minPh (allFin 12) (foldS (voutWritten ids) (allFin 12) t)) s2
  let s4 := when_ (wrote ids 0x4100 0x42FF) (foldS (monWritten o ids) (allFin 32)) s3
  let s5 := when_ (wrote ids Pid.EST_FT_EN Pid.EST_DT_TIME) programAlarms s4
  let s6 := when_ (wrote ids 0x6000 0x61FF) (acqWritten ids) s5
  let s7 := when_ (wrote ids 0x7000 0x7FFF) throttleActions s6
  when_ (wrote ids 0x7009 0x7009 || wrote ids 0x8000 0x82FF) (fun t => pdWritten o 1 (pdWritten o 0 t)) s7

/-- An entry that its range alone refuses breaks a condition of R231: a MONm.RAIL that names no rail, or a monitor threshold above the
DAC's range. -/
def SetEntry.breaksSeq (s : State) (e : SetEntry) : Bool :=
  inInst e.id 0x4100 0x10 32 &&
    (let o := (e.id - 0x4100) % 0x10
     let v := (e.vals.getD 0 0).toNat
     if o = 8 then decide (v ≤ 0xFE) && (railOf v).isNone
     else (o == 1 || o == 2 || o == 4) && decide (1023 < monCode v (pn (Pid.MON_DIV ((e.id - 0x4100) / 0x10)) s)))

/-- PARAM_SET (R102): all or nothing. A rule newly broken by the set as a whole refuses it with index 0 (log entry 28), and
raises SEQ_CONFIG when the rule is of R231. -/
def execParamSet (p : Port) (tag : Tag) (s : State) : Out :=
  .next (runCmd 0x102 p tag (fun x s =>
    let es := setEntries x
    match checkEntries s 0 es with
    | some f =>
      complete p tag f.1 [w32 f.2] (when_ (f.1 == 0x14 && (es[f.2]?).any (SetEntry.breaksSeq s)) (raisePick 0x128 0x1C 0) s)
    | none =>
      let ids := es.map (·.id)
      let t := foldS SetEntry.put es s
      if newlyBroken (rulesFor ids s) (rulesFor ids t) then
        outOfRange p tag 0 (when_ (wrote ids 0x4000 0x4FFF && newlyBroken (r231Rules s) (r231Rules t))
          (raisePick 0x128 0x1C 0) s)
      else done p tag [] (paramsWritten s ids t)) s)

/-! ### PARAM_COMMIT (R105, R404, R406) -/

/-- PARAM_COMMIT: one transaction that writes a copy in turn; `bad`: an area page that fails verification twice. -/
def execParamCommit (p : Port) (tag : Tag) (bad : Option (BitVec 8)) (s : State) : Out :=
  .next (runCmd 0x103 p tag (fun _ s =>
    let n := paramsChanged s
    let s1 := if n = 0 then s
      else retireOpt bad (s.onNvm (fun v => { v with params := takeTurn 2 (paramsNow s) v.params }))
    done p tag [w32 n] s1) s)

end Sys2Proof.Machine
end

