-- ==== Sys2Proof/Machine/Resets.lean ====
section
/-! DEFINITION. The reset rows: power-on reset, RESET_N, the chip reset, block resets and the CMD restart, and the commands that
begin a reset or turn every rail off (R43 to R58, R100, R348). -/

namespace Sys2Proof.Machine

/-! ### Power-on reset (R43, R44) -/

/-- Code of a brown-out in RSTCAUSE.LAST (chapter 02). -/
def porCode : Sys2Proof.PorCause → Nat
  | .vin _ => 0
  | .vcc5 _ => 1
  | .vddc _ => 2

/-- The supply is below its brown-out level: 5.2 V, 4.20 V, 0.70 V (R43). -/
def brownOut : Sys2Proof.PorCause → Bool
  | .vin v => decide (v < 5200)
  | .vcc5 v => decide (v < 4200)
  | .vddc v => decide (v < 700)

/-- The supplies with the one that falls as it stands. -/
def supFall (v : Supplies) : Sys2Proof.PorCause → Supplies
  | .vin x => { v with vin := x }
  | .vcc5 x => { v with vcc5 := x }
  | .vddc x => { v with vddc := x }

/-- POR_ASSERT (R20, R43): a fall to a voltage that is not below the brown-out level only moves the supply. A save under
way is cut short (R411). The always-on regulator moves to VBKUP as VIN fails, once the RTC is locked out (R439, log entry 30). -/
def execPorAssert (why : PorCause) (s : State) : Out :=
  .next (
    let s0 := s.onSys (fun y => { y with sup := supFall y.sup why })
    if s.sys.porActive || !brownOut why then s0
    else
      let t := assertPor (porCode why) (cutSave s0)
      if porCode why = 0 && s.store.rtc.locked then t.onRtc (fun r => { r with onBkup := true }) else t)

/-- VIN, VCC5 and VDDC are good (R43). -/
def suppliesGood (v : Supplies) : Bool := decide (5600 ≤ v.vin ∧ 4400 ≤ v.vcc5 ∧ 740 ≤ v.vddc)

/-- The cause bit of a POR, by the code of LAST (chapter 02). -/
def porBit (c : Nat) : BitVec 16 :=
  if c = 0 then 0x0001 else if c = 1 then 0x0002 else if c = 2 then 0x0004 else if c = 4 then 0x0080
  else if c = 0xC then 0x8000 else 0

/-- POR_RELEASE (R43, R44, R58, R76, R439): start-up begins; with RESET_N low the digital domain stays in reset. -/
def execPorRelease (resetLow : Bool) (straps : BitVec 2) (sup : Supplies) (s : State) : Out :=
  .next (if !s.sys.porActive || !suppliesGood sup then s
    else
      let c := s.sys.porCause
      let s1 := s.onSys (fun y =>
        { y with porActive := false, inReset := resetLow, resetHeld := resetLow, sup := sup, frameRun := true,
                 rstLast := BitVec.ofNat 4 c, rstBits := y.rstBits ||| porBit c })
      (s1.onHif (fun h => { h with straps := straps })).onRtc (fun r =>
        { r with vddio33 := decide (2500 < sup.vddio), onBkup := false }))

/-! ### RESET_N (R56 to R58) -/

/-- RESET_N is seen: the device is out of POR and awake. DEDUCED: it is ignored in DEEP SLEEP (log entry 24). -/
def resetSeen (s : State) : Bool :=
  !s.sys.porActive && !s.sys.resetHeld && (s.sys.power == .run || s.sys.power == .doze)

/-- RESET_N_SHORT (R56). The hold of R47 is left only through POR. -/
def execResetNShort (s : State) : Out :=
  .next (if resetSeen s && s.sys.digestHold.isNone then takeChip .rstnShort s else s)

/-- RESET_N_LONG (R57): CMD, or SAF while CMD is down, powers every group down; when neither runs every output goes off at once. POR
follows the last rail. -/
def execResetNLong (s : State) : Out :=
  .next (if !resetSeen s || s.sys.rstnLong then s
    else
      let s1 := s.onSys (fun y => { y with rstnLong := true })
      afterRailFall (if procsRun s then startAllDown [] s1 else allOff (originWord 0x003 4) s1))

/-- RSTN_PD_MAX_EXPIRY (R57): POR at once, all outputs off together. -/
def execRstnPdMaxExpiry (s : State) : Out :=
  .next (if s.sys.rstnLong && !s.sys.porActive then assertPor 4 (cutSave s) else s)

/-- RESET_N_RELEASE_HELD (R58). -/
def execResetNReleaseHeld (s : State) : Out :=
  .next (if s.sys.resetHeld then s.onSys (fun y => { y with resetHeld := false, inReset := false }) else s)

/-! ### The other resets (R19, R52 to R55) -/

/-- CHIP_RESET (R19, R54): the chip reset that has begun takes hold. -/
def execChipReset (cause : ResetCause) (s : State) : Out :=
  .next (if s.sys.resetBegun = some cause then takeChip cause s else s)

/-- BLOCK_RESET (R53): Horto recovers a block. -/
def execBlockReset (b : Block) (s : State) : Out := .next (blockReset b false s)

/-- CMD_RESTART (R55). -/
def execCmdRestart (s : State) : Out := .next (cmdRestart s)

/-! ### Commands -/

/-- PD_RESTART (R348): DONE once the PD core runs; FAILED_HW when no PD image verifies. -/
def execPdRestart (p : Port) (tag : Tag) (s : State) : Out :=
  .next (runCmd 0x810 p tag (fun _ s =>
    if s.pd.imageBad then complete p tag 0x30 [] s
    else
      let s1 := (modSlot p tag (fun y => { y with status := .running }) s).onPd (fun q =>
        { q with waiters := q.waiters ++ [(p, tag)] })
      blockReset .pdCore false s1) s)

/-- EMERGENCY_OFF (R50, R100, R220): every channel, LDO and enable output off at once; without effect in DECOMMISSIONED (R421). -/
def execEmergencyOff (p : Port) (tag : Tag) (s : State) : Out :=
  .next (runCmd 0x003 p tag (fun _ s =>
    if lcNow s = .decommissioned then done p tag [] s
    else done p tag [] (afterRailFall (allOff (supersedeWord 0x003 tag p 0) s))) s)

/-- SAFE_EXIT (R100, R401): the ladder and the Safe Hold flag are cleared, DONE is posted and a chip reset begins. -/
def execSafeExit (p : Port) (tag : Tag) (s : State) : Out :=
  .next (runCmd 0x004 p tag (fun _ s =>
    if !s.heddle.safeHold then wrongState p tag 0 s
    else
      let s1 := s.onHeddle (fun h =>
        { h with safeHold := false, count := 0, w := vmap (fun w => { w with strike := false, good := none }) h.w })
      beginChip .safeExit (done p tag [] s1)) s)

end Sys2Proof.Machine
end

