-- ==== Sys2Proof/Machine/Kettle.lean ====
section
/-! DEFINITION. The kettle reserve and its save, DEEP SLEEP and SHIP with their wakes, and the NVM recall (R67, R68, R238, R249, R404
to R412, R464). -/

namespace Sys2Proof.Machine

/-! ### The reserve (R411, R412) -/

/-- SH0 to SH5, the PD core and the acquisition are held in block reset (R411). -/
def holdBlocks (s : State) : State :=
  let s1 := acqReset (pdReset (chgHalt s))
  let s2 := s1.onSys (fun y => { y with pfHeld := true, rstBits := y.rstBits ||| 0x0010 })
  foldS (fun i t => when_ (decide (1 ≤ i.val ∧ i.val ≤ 7)) (onWatch i Watch.disarm) t) (allFin 9) s2

/-- The held blocks restart as after a block reset (R411, R53). -/
def releaseBlocks (s : State) : State :=
  if !s.sys.pfHeld then s
  else
    let s1 := s.onSys (fun y => { y with pfHeld := false })
    blockReset .acq false (blockReset .pdCore false (foldS (fun i t => blockReset (.shuttle i) false t) (allFin 6) s1))

/-- The pending self-discharge is posted at power-down (R237). -/
def postAtDown (s : State) : State := if s.est.caddy.valid then postSelf s else s

/-- A save begins: the pending self-discharge is posted, and the NVM is busy for at most 5 ms (R237, R411). -/
def startSave (s : State) : State :=
  (postAtDown s).onSys (fun y => { y with saving := true, nvmBusy := max y.nvmBusy (y.devTime + 5000) })

/-- POWER_FAIL_TRIGGER (R358, R411, R412): the reserve is switched on, the blocks are held, and a save begins when the reserve is ready
and a processor runs. -/
def execPowerFailTrigger (s : State) : Out :=
  .next (if !awake s || s.sys.porActive || s.store.res.switched then s
    else
      let s1 := holdBlocks (latchEic 218 (s.onRes (fun r => { r with switched := true })))
      if s.store.res.ready && procsRun s then startSave s1 else s1)

/-- POWER_RETURN (R411). -/
def execPowerReturn (s : State) : Out :=
  .next (if !s.store.res.switched then s else releaseBlocks (s.onRes (fun r => { r with switched := false })))

/-- KETTLE_READY (R412): KETTLE is at or above 11.5 V. -/
def execKettleReady (s : State) : Out :=
  .next (if awake s && !s.sys.porActive then s.onRes (fun r => { r with ready := true, lowVolt := false }) else s)

/-- KETTLE_CHECK (R412): C_EST_UF from the droop; without a droop the quotient is not defined and the estimate is a free value (log entry
3). -/
def execKettleCheck (droopMv : Nat) (s : State) : Out :=
  .next (if !cmdRuns s then s
    else if droopMv = 0 then (takeFree s).onRes (fun r => { r with cEst := (freeW s).toNat % 65536 })
    else s.onRes (fun r => { r with cEst := min 65535 (rdivN 10000 droopMv) }))

/-- KETTLE_LOW with its pick, its host event and its EIC source (R412, R471). -/
def kettleLow (detail : Nat) (s : State) : State :=
  latchEic 217 (raisePickEv 0x201 0x18 detail (some (0xB002, w32 detail)) s)

/-- KETTLE_LOW (R412). The voltage condition is reported once until the reserve is ready again. -/
def execKettleLow (why : KettleLowCause) (s : State) : Out :=
  .next (match why with
    | .voltage =>
      if s.store.res.ready && !s.store.res.lowVolt then kettleLow 1 (s.onRes (fun r => { r with lowVolt := true })) else s
    | .capacitance => if decide (s.store.res.cEst < pn Pid.KETTLE_C_MIN_UF s) then kettleLow 2 s else s)

/-! ### DEEP SLEEP and SHIP (R64, R67, R68, R464) -/

/-- POWER_STATE (R67, R464): DONE, then the save. -/
def execPowerState (p : Port) (tag : Tag) (s : State) : Out :=
  .next (runCmd 0x010 p tag (fun x s =>
    let k := bitsOf (x.word 1) 0 2
    if k ≠ 1 && k ≠ 2 then outOfRange p tag 0 s
    else if s.sys.mode = .test || s.heddle.safeHold || !allGroupsDown s || s.pd.a.pos ≠ 0 || s.pd.b.pos ≠ 0 then wrongState p tag 0 s
    else
      (startSave (done p tag [] s)).onSys (fun y => { y with sleepReq := some (if k = 1 then .deepSleep else .ship) })) s)

/-- Status words rebuilt from the AON latches (R314, R366): THERM_SHUTDOWN of every zone whose latch is set. -/
def latchStatus (s : State) : Sparse (BitVec 64) :=
  (allFin 9).foldl (fun m z =>
    if s.therm.zone[z].latch then sset 0 m (if z.val = 8 then 0x1A0 else 0x1A8 + z.val) (1#64 <<< 0x12) else m) []

/-- The state in DEEP SLEEP or SHIP (R20, R29, R64, R67, R314): the digital domain and the Power Frame stop, the retained regions are
cleared; a regulation part that the die shutdown has stopped stays so until POR (R20, log entry 24); the AON blocks, the ledger accumulator and the early converter's last values stay. -/
def asleep (k : SleepKind) (s : State) : State :=
  let r := State.reset
  let s1 := thermRestart (pdReset { s with
    sys := { (s.sys.chip s.heddle.safeHold false) with
             power := if k = .ship then .ship else .deepSleep, frameRun := false,
             regStopped := s.sys.regStopped || s.sys.dieStopping, dieStopping := false, pfHeld := false,
             planned := { sys := true, acq := true, frame := true } },
    hif := s.hif.chip, path := { r.path with vlink := s.path.vlink, vbat := s.path.vbat, ibat := s.path.ibat }, chg := {}, pwr := {},
    est := { r.est with led := { accIn := s.est.led.accIn, accOut := s.est.led.accOut } }, acq := {},
    selv := { r.selv with status := latchStatus s }, eic := {}, gpio := Vector.replicate 16 {},
    heddle := s.heddle.chip s.sys.devTime })
  ((s1.onTherm (fun t => { t with dieCmp := 0 })).onNvm Nvm.loseStaged).onRes (fun _ => {})

/-- The counters with Reset NVM go to the parameter store at power-down (R404): SRC.TRANSFERS and CHG.CYCLES. Without a complete copy the
kettle set alone holds them. -/
def saveCounters (s : State) : State :=
  match s.store.nvm.params with
  | [] => s
  | c :: _ =>
    let m := sput (pkey 0x2044 0) (s.chg.cycles : Int) (sput (pkey 0x1031 0) (s.path.transfers : Int) c.2)
    s.onNvm (fun n => { n with params := takeTurn 2 m n.params })

/-- KETTLE_SAVE_COMPLETE (R67, R358, R404, R406, R411). -/
def execKettleSaveComplete (bad : Option (BitVec 8)) (s : State) : Out :=
  .next (if !s.sys.saving then s
    else
      let s1 := retireOpt bad (saveCounters (writeSave true s))
      let s2 := latchEic 214 (s1.onSys (fun y => { y with saving := false }))
      match s2.sys.sleepReq with
      | none => s2
      | some k => asleep k (interruptTest s2))

/-- DEEP_SLEEP_WAKE (R64, R68): the digital domain restarts as after a chip reset, with the Power Frame at its POR values. -/
def execDeepSleepWake (w : WakeCause) (s : State) : Out :=
  let wakes := match w with
    | .gpio n => decide (pn (Pid.GPIO_CFG n.val) s % 16 = 6)
    | _ => true
  .next (if s.sys.power = .deepSleep && wakes then
      (takeChip .deepSleep s).onSys (fun y => { y with power := .run, frameRun := true })
    else s)

/-- SHIP_WAKE (R64, R68): WAKE or an RTC alarm ends SHIP with a POR. -/
def execShipWake (w : WakeCause) (s : State) : Out :=
  .next (match w with
    | .wakePin => if s.sys.power = .ship then assertPor 0xC s else s
    | .rtcAlarm => if s.sys.power = .ship then assertPor 0xC s else s
    | _ => s)

/-! ### Recall (R249, R404, R406, R409, R410, R413) -/

/-- A pick of the NVM controller at recall, which may come before the host interfaces open. -/
def recallPick (kind detail : Nat) (s : State) : State :=
  s.onSelv (Selv.deliver { pick := mkPick 0x200 kind detail, carried := false, time := s.sys.devTime })

/-- Drop the copies or slots, of `n` pages each from page `first`, that hold page `a`. -/
def dropCopy {α : Type} (first n a : Nat) (l : List (Nat × α)) : List (Nat × α) :=
  l.filter (fun c => !(decide (first + n * c.1 ≤ a ∧ a < first + n * c.1 + n)))

/-- A ring without the entries of page `a`; staged entries are not in NVM. -/
def LogRing.dropPage (first pages a : Nat) (l : LogRing) : LogRing :=
  let m := l.entries.length - l.staged
  let keep := (List.range m).filter (fun i => first + ((l.written - m + i) / 8) % pages != a)
  { l with entries := keep.map (fun i => l.entries.getD i []) ++ l.entries.drop m }

/-- A page of the array fails its ECC at recall (R409, R413). -/
def badPage (page : Nat) (s : State) : State :=
  let a := areaPage page s
  let ring := fun (f : Nvm → Nvm) => recallPick 0x10 page (s.onNvm f)
  if a = 0 then recallPick 0x14 page (s.onNvm (fun n => { n with idBad := true }))
  else if a ≤ 8 then s.onNvm (fun n => { n with params := dropCopy 1 4 a n.params })
  else if a ≤ 16 then s.onNvm (fun n => { n with learned := dropCopy 9 4 a n.learned })
  else if a ≤ 48 then s.onNvm (fun n => { n with kettle := dropCopy 17 16 a n.kettle })
  else if a ≤ 78 then s.onNvm (fun n => { n with faultSets := dropCopy 49 6 a n.faultSets })
  else if a ≤ 110 then ring (fun n => { n with test := n.test.dropPage 79 32 a })
  else if a ≤ 174 then ring (fun n => { n with caddy := n.caddy.dropPage 111 64 a })
  else if a ≤ 238 then ring (fun n => { n with event := n.event.dropPage 175 64 a })
  else s

/-- EARLY_STAGE.BOOT_ERR reads 0x04 (R409). -/
def recallError (s : State) : Bool :=
  s.store.nvm.params.isEmpty || ((newestKettle s).isNone && !s.store.nvm.faultSets.isEmpty)

/-- The served tables and the phase estimates come from the newest complete copy of the learned data at each start-up; the scalars of the
estimator are kept through chip reset (R249, R269, R404, R409). -/
def recallLearned (all : Bool) (s : State) : State :=
  let l := s.store.nvm.learned.head?.map (·.2)
  let ph := l.elim [] (·.ph)
  let s1 := s.onPwr (fun w => { w with ph := vmapIdx (fun k x => let e := ph.getD k (0, 0); { x with lEst := e.1, rEst := e.2 }) w.ph })
  let s2 := s1.onEst (fun e =>
    { e with ocv := { e.ocv with served := l.bind (·.ocv) }, cap := { e.cap with served := l.bind (·.cap) },
             rs := { e.rs with served := l.bind (·.rs) } })
  match l with
  | none => s2
  | some v =>
    if all then s2.onEst (fun e =>
      { e with qFull := v.qFull, sigC := v.sigC, learnCount := v.learnCount, learnTs := v.learnTs })
    else s2

/-- A counter of the parameter store, 0 when there is none. -/
def storedCount (id : Nat) (s : State) : Nat :=
  match s.store.nvm.params with
  | [] => 0
  | c :: _ => ((sfind c.2 (pkey id 0)).getD 0).toNat

/-- The test that the kettle set holds was interrupted by the power-down: it is logged as it stood at the save (R267, R269). -/
def interruptedTest (k : KettleSet) (s : State) : State :=
  let now := s.sys.devTime
  (interruptTest (s.onSys (fun y => { y with devTime := k.time }))).onSys (fun y => { y with devTime := now })

/-- Status of a recalled CHARGE_TIMEOUT latch (R147, R366). -/
def timeoutStatus (s : State) : State :=
  if s.chg.tmoPhase = 0 then s else s.onSelv (Selv.setStatus (mkPick 0x148 0x18 s.chg.tmoPhase) false)

/-- An entry that the kettle set holds and the NVM log does not is staged again (R235). -/
def LogRing.restage (cap : Nat) (e : List W) (l : LogRing) : LogRing :=
  if (e.getD 0 0) >>> 16 = l.next.setWidth 32 then
    { l with entries := newest cap (l.entries ++ [e]), staged := min cap (l.staged + 1), next := l.next + 1 }
  else l

/-- The caddy entries of a kettle set that were not yet in NVM. -/
def restage (es : List (List W)) (s : State) : State :=
  s.onNvm (fun n => { n with caddy := es.foldl (fun l e => l.restage (caddyCap s) e) n.caddy })

/-- What the newest complete kettle set gives back after POR or DEEP SLEEP; `por`: the charger starts anew (R29, R68, R154, R155). -/
def recallKettle (por : Bool) (s : State) : State :=
  let tr := storedCount 0x1031 s
  let cy := storedCount 0x2044 s
  match newestKettle s with
  | none => (s.onPath (fun q => { q with transfers := tr })).onChg (fun c => { c with cycles := cy })
  | some k =>
    let s1 := (s.onPath (fun q => { q with transfers := max tr k.transfers })).onChg (fun c =>
      let d := if por then chgFrom k.chg c else k.chg
      { d with cycles := max cy k.chg.cycles, st := if d.tmoPhase ≠ 0 then .suspended else if por then .off else d.st })
    timeoutStatus (chgHalt (interruptedTest k (restage k.staged (s1.onEst (estFrom por k.time k.est)))))

/-- The previous run ended without a save (R410). -/
def staleKettle (s : State) : Bool := (newestKettle s).any (fun k => decide (k.run < s.store.nvm.run))

/-- The tables whose last NVM copy the recall has lost, between `s` and `t` (R249). -/
def noteLost (s t : State) : State :=
  match s.store.nvm.learned, t.store.nvm.learned with
  | x :: _, [] => t.onNvm (fun n =>
      { n with lostTables := (if x.2.ocv.isSome then [.ocv] else []) ++ (if x.2.cap.isSome then [.cap] else []) ++
                             (if x.2.rs.isSome then [.rs] else []) })
  | _, _ => t

/-- NVM_RECALL (R45, R409, R410, R413): `bad` are the pages that fail their checks. -/
def execNvmRecall (bad : List Nat) (s : State) : Out :=
  .next (if !s.sys.boot.sysLocked || s.sys.boot.recallDone || s.sys.porActive || s.sys.resetHeld || s.sys.digestHold.isSome then s
    else
      let b := s.sys.boot
      let s1 := noteLost s (foldS badPage bad s)
      let s2 := when_ (recallError s1 && s1.sys.bootErr == 0) (State.onSys (fun y => { y with bootErr := 4 })) s1
      let s3 := recallLearned b.autoDue s2
      let s4 := when_ b.autoDue (recallKettle b.startEntryDue) s3
      let stale := b.startEntryDue && staleKettle s4
      (when_ stale (recallPick 0x13 0) s4).onSys (fun y =>
        { y with boot := { y.boot with recallDone := true, staleRun := stale } }))

/-! ### What the estimator does once the parameters are loaded -/

/-- SHIP_GAP at the exit from SHIP (R235, R238). -/
def shipGap (k : KettleSet) (s : State) : State :=
  if !s.store.rtc.valid || !k.tsValid || decide (timestamp s < k.ts) then sigHalf s
  else if !s.est.caddy.valid then s
  else
    let sec := timestamp s - k.ts
    let q := rdivN (selfDischarge sec 250 s + 8 * sec) 1000
    caddyEntry 0x02 0 (-(q : Int)) (takeSelf q s)

/-- Some day after `c`, at most `n` days on, is one that an alarm set to the second names, at a second after `from_` and up to `upTo`. -/
def alarmPassed (a : BitVec 31) (from_ upTo : Nat) : Nat → Calendar → Bool
  | 0, _ => false
  | n + 1, c =>
    let v := a.toNat
    let due : Calendar := { c with hour := (v / 4096) % 32, min := (v / 64) % 64, sec := 0 }
    (almMatch a due && decide (from_ < due.stamp ∧ due.stamp ≤ upTo)) || alarmPassed a from_ upTo n c.nextDay

/-- The due time of a test that Horto's alarm `n` stands for passed while the device was unpowered or in SHIP (R263). -/
def duePassed (n : Fin 2) (s : State) : Bool :=
  match newestKettle s with
  | none => false
  | some k =>
    let r := s.store.rtc
    s.sys.boot.startEntryDue && !s.sys.boot.staleRun && r.own n && r.valid && k.tsValid && decide (k.ts < timestamp s) &&
      alarmPassed (r.alm n) k.ts (timestamp s) (min 400 (r.cal.dayNo - k.cal.dayNo + 1)) k.cal

/-- A due time that passed unpowered or in SHIP is a postponement (R263). The reason of its entry is free (log entry 3); a duration test
stands as the function test of its day. -/
def missedTests (s : State) : State :=
  let miss := fun (k : TestKind) (t : State) => postpone k ((freeW t).toNat % 16) (takeFree t)
  let dt := duePassed 1 s && pb Pid.EST_DT_EN s
  let ft := duePassed 0 s && pb Pid.EST_FT_EN s && !(dt && (s.store.rtc.alm0.toNat / 131072) % 32 == (s.store.rtc.alm1.toNat / 131072) % 32)
  when_ ft (miss .function) (when_ dt (miss .duration) s)

/-- The estimator's record at the first full service after POR or DEEP SLEEP (R68, R238, R410). -/
def estStart (s : State) : State :=
  if !s.sys.boot.autoDue then s
  else if !s.sys.boot.startEntryDue then rebuildCaddy s
  else match newestKettle s with
    | none => sigHalf s
    | some k => if s.sys.boot.staleRun then sigHalf s else when_ (decide (s.sys.porCause = 0xC)) (shipGap k) s

end Sys2Proof.Machine
end

