-- ==== Sys2Proof/Machine/HifOps.lean ====
section
/-! DEFINITION. The host interface as operations: acceptance, index writes, session reset, credit allocation and the register window
(R71 to R87, R95 to R98). -/

namespace Sys2Proof.Machine

/-! ### Acceptance (R81, R84, R85, R86) -/

/-- Word `i` of a port's submission queue, wrapping (R81). -/
def PortState.sqWord (q : PortState) (i : Nat) : W := Memory.readW .queue q.sqMem (4 * (i % 1024))

/-- The word found at acceptance: one rewritten while presented holds its old or its new value (R84, log entry 3). -/
def foundWord (p : Port) (i : Nat) (s : State) : W × State :=
  let q := s.hif.port p
  match sfind q.sqOld (i % 1024) with
  | none => (q.sqWord i, s)
  | some old =>
    (if freeB s then old else q.sqWord i, onPort p (fun r => { r with sqOld := sdel (i % 1024) r.sqOld }) (takeFree s))

/-- The `n` words found from word `i` on. -/
def foundWords (p : Port) : Nat → Nat → State → List W × State
  | 0, _, s => ([], s)
  | n + 1, i, s =>
    let a := foundWord p i s
    let b := foundWords p n (i + 1) a.2
    (a.1 :: b.1, b.2)

/-- The command that word 0 and a payload spell (chapter 03, "Queues"). -/
def slotOf (p : Port) (w : W) (payload : List W) (s : State) : Slot :=
  { port := p, tag := w.extractLsb' 16 8, op := bitsOf w 0 12, cls := bitsOf w 12 2, notify := w.getLsbD 14, payload := payload,
    tAcc := s.sys.devTime, deferred := false, waitTicks := 0, status := .deferred }

/-- Acceptance of the presented entries, with fuel (R85). -/
def acceptFrom (p : Port) : Nat → State → State
  | 0, s => s
  | n + 1, s =>
    let q := s.hif.port p
    let left := (q.sqPres - q.sqHead).toNat
    if left = 0 then s
    else
      let a := foundWord p (16 * q.sqHead.toNat) s
      let len := bitsOf a.1 24 6
      let need := 1 + len / 16
      let stop := s.onSys (fun y => { y with free := a.2.sys.free })
      if left < need then stop
      else if q.avail = 0 then onPortNew p (fun r => { r with noCredit := true }) stop
      else
        let b := foundWords p len (16 * q.sqHead.toNat + 1) a.2
        let t := onPort p (fun r => { r with sqHead := r.sqHead + BitVec.ofNat 6 need, avail := r.avail - 1 }) b.2
        acceptFrom p n (decideNew (slotOf p a.1 b.1 t) t)

/-- An index write or a doorbell during a session reset (R84). -/
def idxErr (p : Port) (s : State) : State := onPortNew p (fun q => { q with idxErr := true }) s

/-- The doorbell (R84, R85): the entries up to TAIL are presented and taken. -/
def ringDoorbell (p : Port) (s : State) : State :=
  if p = .internal then s
  else if (s.hif.port p).sess = .resetting then idxErr p s
  else acceptFrom p 64 (latchEic (196 + portNo p) (onPort p (fun q => { q with sqPres := q.sqTail }) s))

/-! ### Index writes (R84) -/

/-- Entries from `a` up to `b` in a ring. -/
def ringDist (a b : BitVec 6) : Nat := (b - a).toNat

/-- Write of SQ_TAIL. -/
def writeSqTail (p : Port) (v : W) (s : State) : State :=
  let q := s.hif.port p
  let t : BitVec 6 := v.setWidth 6
  let d := ringDist q.sqHead t
  if q.sess = .resetting || (0 < d && d < ringDist q.sqHead q.sqTail) then idxErr p s
  else onPort p (fun q => { q with sqTail := t, sqPres := if d < ringDist q.sqHead q.sqPres then t else q.sqPres }) s

/-- Write of CQ_HEAD. -/
def writeCqHead (p : Port) (v : W) (s : State) : State :=
  let q := s.hif.port p
  let h : BitVec 6 := v.setWidth 6
  if q.sess = .resetting || ringDist q.cqHead q.cqTail < ringDist q.cqHead h then idxErr p s
  else onPort p (fun q => { q with cqHead := h }) s

/-- Write of EVQ_HEAD. -/
def writeEvqHead (p : Port) (v : W) (s : State) : State :=
  let q := s.hif.port p
  let h : BitVec 6 := v.setWidth 6
  if q.sess = .resetting || ringDist q.evqHead q.evqTail < ringDist q.evqHead h then idxErr p s
  else onPort p (fun q => { q with evqHead := h }) s

/-! ### Sessions (R80, R97, R98) -/

/-- The next session number: 255 wraps to 1 (R80). -/
def nextSnum (n : BitVec 8) : BitVec 8 := if n = 255 then 1 else n + 1

/-- Words of a system-generated completion. -/
def sysgenWords (op st tag : Nat) (ws : List W) (s : State) : List W :=
  [w32 (op * 1048576 + st * 256 + tag),
   w32 (min 12 ws.length * 268435456 + 134217728 + 67108864 * b01 s.sys.service.isLimp), wLo s.sys.devTime, wHi s.sys.devTime] ++
    padTo 12 0 ws

/-- Post a system-generated completion (R95 to R97). -/
def postSysgen (p : Port) (op st tag : Nat) (ws : List W) (s : State) : State :=
  onPortNew p (fun q => if q.cqFree then q.postCq (sysgenWords op st tag ws s) false true else { q with cqWait := true }) s

/-- Four tags in a result word, the first in [7:0]. -/
def tagWord (l : List Tag) : W := w32 (((l.zipIdx).map (fun x => x.1.toNat * 256 ^ x.2)).sum)

/-- Cut a list into pieces of `k`, with fuel. -/
def pieces {α : Type} (k : Nat) : Nat → List α → List (List α)
  | 0, _ => []
  | n + 1, l => if l.isEmpty then [] else l.take k :: pieces k n (l.drop k)

/-- The batch completions of a list of tags (R97). -/
def postBatches (p : Port) (tags : List Tag) (s : State) : State :=
  foldS (fun l t => postSysgen p 0x000 0x20 l.length ((pieces 4 12 l).map tagWord) t) (pieces 48 256 tags) s

/-- The port's own registers and queues as a session reset leaves them (R80, R97). -/
def PortState.session (q : PortState) : PortState :=
  { ({} : PortState) with sess := .resetting, busy := true, snum := q.snum, alloc := q.alloc, avail := q.alloc,
                          badTrailer := none }

/-- The image's credit allocations, in port order (R87). -/
def imageAlloc (s : State) : List (Port × Nat) :=
  [(.spia, pn Pid.HIF_CRED_SPIA s), (.spib, pn Pid.HIF_CRED_SPIB s), (.i2c, pn Pid.HIF_CRED_I2C s), (.internal, 48)]

/-- All ports take their image allocations in one step, once every port's INUSE fits (R87). -/
def tryAlloc (s : State) : State :=
  if s.hif.allocPending && (imageAlloc s).all (fun a => decide (inUse a.1 s ≤ a.2)) then
    (foldS (fun a t => onPort a.1 (fun q => { q with alloc := a.2, avail := a.2 - inUse a.1 s }) t) (imageAlloc s) s).onHif
      (fun h => { h with allocPending := false })
  else s

/-- The session reset of a port (R97, R98): its queues and registers restart, its commands are detached and listed, the snapshot is
posted, and the session is READY under a new number. -/
def sessionReset (p : Port) (s : State) : State :=
  let s1 := latchEic (200 + portNo p) s
  let mine := s1.hif.slots.filter (fun x => x.port == p)
  let cmds := (mine.filter (fun x => !x.status.isFinished)).map Slot.ref
  let s2 := onSlots (List.filter (fun x => x.port != p)) (forgetCmds cmds s1)
  let s3 := postBatches p (mine.map (fun x => x.tag)) (onPort p PortState.session s2)
  let s4 := if s3.sys.service = .early then postSysgen p 0x002 0x01 0 (earlySnapshot s3) s3
    else postSysgen p 0x002 0x00 0 (snapshotWords p s3) s3
  let s5 := onPort p (fun q => { q with sess := .ready, busy := false, snum := nextSnum q.snum }) s4
  raisePick (0x060 + portNo p) 0x10 (s5.hif.port p).snum.toNat s5

/-! ### The register window (R10 to R12, R73, R79, R80) -/

/-- A word address lies in a writable region; regions by number (R79). -/
def writableRegion (a : Nat) (s : State) : Nat :=
  if a < 0x0034 then 1
  else if 0x0100 ≤ a && a < 0x0140 then 2
  else if 0x0180 ≤ a && a < 0x0200 && debugOpen s then 3
  else if 0x1000 ≤ a && a < 0x2000 then 4
  else 0

/-- The addresses of a burst. -/
def burstAddrs (addr n : Nat) : List Nat := (List.range n).map (fun i => addr + 4 * i)

/-- A write is committed: address and length are good and every word falls in one writable region (R73, R77). -/
def writeOk (addr n : Nat) (s : State) : Bool :=
  let r := writableRegion addr s
  addr % 4 == 0 && 1 ≤ n && n ≤ 64 && r != 0 && (burstAddrs addr n).all (fun a => writableRegion a s == r)

/-- Write of HIF_STATUS: the flags are W1C; CRC_COUNT and DROPPED return to 0 with their flags (R80). -/
def PortState.writeStatus (v : W) (q : PortState) : PortState :=
  { q with pecErr := q.pecErr && !v.getLsbD 0, crcErr := q.crcErr && !v.getLsbD 1, frmErr := q.frmErr && !v.getLsbD 2,
           addrErr := q.addrErr && !v.getLsbD 3, idxErr := q.idxErr && !v.getLsbD 4, noCredit := q.noCredit && !v.getLsbD 5,
           evqDrop := q.evqDrop && !v.getLsbD 6, cqWait := q.cqWait && !v.getLsbD 7,
           crcCount := if v.getLsbD 1 then 0 else q.crcCount, dropped := if v.getLsbD 6 then 0 else q.dropped }

/-- Write of HIF_SESSION: the key starts a session reset, unless one is in progress (R80, R98). -/
def writeSession (p : Port) (key : BitVec 16) (s : State) : State :=
  if key = 0x5E55 && (s.hif.port p).sess ≠ .resetting then sessionReset p s else s

/-- Write of a submission queue word; a presented one keeps its old value too (R84). -/
def writeSqWord (p : Port) (i : Nat) (v : W) (s : State) : State :=
  onPort p (fun q =>
    let shown := decide (ringDist q.sqHead (BitVec.ofNat 6 (i / 16)) < ringDist q.sqHead q.sqPres)
    { q with sqMem := Memory.writeW .queue q.sqMem (4 * i) v,
             sqOld := if shown then (if (sfind q.sqOld i).isSome then q.sqOld else sput i (q.sqWord i) q.sqOld)
                      else sdel i q.sqOld }) s

/-- Write of IRQ_MASK: a reason that holds and is newly enabled is a new reason (R95). -/
def writeIrqMask (p : Port) (m : BitVec 6) (s : State) : State :=
  let opened := m &&& ~~~(s.hif.port p).irqMask
  let fresh := p == .i2c && (irqReasons p s).zipIdx.any (fun x => x.1 && opened.getLsbD x.2)
  (onPort p (fun q => { q with irqMask := m }) s).onHif (fun h => if fresh then { h with alertReleased := false } else h)

/-- Write of one interface register (R80, RSTCAUSE in chapter 02); the other addresses are read-only. -/
def writeHifReg (p : Port) (a : Nat) (v : W) (s : State) : State :=
  if a = 0x0004 then onPort p (PortState.writeStatus v) s
  else if a = 0x0008 then writeSession p (v.extractLsb' 16 16) s
  else if a = 0x0010 then writeSqTail p v s
  else if a = 0x0014 then (if v.getLsbD 0 then ringDoorbell p s else if (s.hif.port p).sess = .resetting then idxErr p s else s)
  else if a = 0x0018 then writeCqHead p v s
  else if a = 0x0020 then writeEvqHead p v s
  else if a = 0x002C then writeIrqMask p (v.setWidth 6) s
  else if a = 0x0030 then s.onSys (fun y => { y with rstBits := y.rstBits &&& ~~~(v.setWidth 16) })
  else s

/-- RTC_CAL (R437): 0x80 is ignored with WR_ERR. -/
def Rtc.writeCal (v : W) (r : Rtc) : Rtc :=
  if v.setWidth 8 = 0x80#8 then { r with wrErr := true } else { r with ppm := v.setWidth 8 }

/-- RTC_STATUS: W1C flags (R434). -/
def Rtc.writeStatus (v : W) (r : Rtc) : Rtc :=
  { r with alm1F := r.alm1F && !v.getLsbD 17, alm0F := r.alm0F && !v.getLsbD 16, setTimeout := r.setTimeout && !v.getLsbD 10,
           wrErr := r.wrErr && !v.getLsbD 9, lockoutWr := r.lockoutWr && !v.getLsbD 8 }

/-- An alarm register: ignored with WR_ERR while Horto owns the alarm (R438). -/
def Rtc.writeAlm (n : Fin 2) (v : W) (r : Rtc) : Rtc :=
  if r.own n then { r with wrErr := true } else r.setAlm n (v.setWidth 31)

/-- Write of one RTC register that is no time field. -/
def Rtc.writeReg (a : Nat) (v : W) (r : Rtc) : Rtc :=
  if a = 0x0120 then r.writeCal v
  else if a = 0x0124 then r.writeStatus v
  else if a = 0x0128 then r.writeAlm 0 v
  else if a = 0x012C then r.writeAlm 1 v
  else r

/-- A committed write into the RTC block (R436 to R439): its time fields are applied together. -/
def writeRtc (addr : Nat) (ws : List W) (s : State) : State :=
  if s.store.rtc.locked then rtcLockedWrite s
  else
    let fs := timeFields addr ws
    s.onRtc (fun r => ((burstAddrs addr ws.length).zip ws).foldl (fun q x => q.writeReg x.1 x.2) (if fs.isEmpty then r else r.writeTime fs))

/-- A committed write, applied to all its words as one step (R10, R11, R73). -/
def writeWindow (p : Port) (addr : Nat) (ws : List W) (s : State) : State :=
  let l := (burstAddrs addr ws.length).zip ws
  if addr < 0x0034 then foldS (fun x t => writeHifReg p x.1 x.2 t) l s
  else if addr < 0x0140 then writeRtc addr ws s
  else if addr < 0x0200 then foldS (fun x t => when_ (x.1 == 0x0184) (State.onSys (fun y => { y with dbgHalt := x.2.setWidth 9 })) t) l s
  else foldS (fun x t => writeSqWord p ((x.1 - 0x1000) / 4) x.2 t) l s

end Sys2Proof.Machine
end

