-- ==== Sys2Proof/Machine/Hif.lean ====
section
/-! DEFINITION. The rows of the host interface: doorbells, index writes, window writes, discarded transactions, the I2C bus, waiting
completions, SESSION_OPEN, SNAPSHOT and credit allocation (R50, R71 to R106). -/

namespace Sys2Proof.Machine

/-- A SPI port as a port. -/
def sport : SpiPort → Port
  | .spia => .spia
  | .spib => .spib

/-! ### Acceptance, indices and sessions -/

/-- SQ_DOORBELL (R84 to R86, R92, R471). -/
def execSqDoorbell (p : Port) (s : State) : Out := .next (hifDo (ringDoorbell p) s)

/-- SESSION_RESET (R97, R98). -/
def execSessionReset (p : HPort) (key : BitVec 16) (s : State) : Out := .next (hifDo (writeSession (hport p) key) s)

/-- CQ_HEAD_WRITE (R84). -/
def execCqHeadWrite (p : HPort) (v : W) (s : State) : Out := .next (hifDo (writeCqHead (hport p) v) s)

/-- EVQ_HEAD_WRITE (R84). -/
def execEvqHeadWrite (p : HPort) (v : W) (s : State) : Out := .next (hifDo (writeEvqHead (hport p) v) s)

/-- SQ_TAIL_WRITE (R84). -/
def execSqTailWrite (p : HPort) (v : W) (s : State) : Out := .next (hifDo (writeSqTail (hport p) v) s)

/-! ### Window writes and transactions that fail (R73 to R78) -/

/-- An I2C transfer has ended with its pointer at `a` (R76). -/
def i2cEnd (p : HPort) (a : Nat) (s : State) : State :=
  if p = .i2c then s.onHif (fun h => { h with i2cPtr := BitVec.ofNat 16 a, i2cBusy := false }) else s

/-- WINDOW_REGISTER_WRITE (R10, R11, R73, R74, R77): a committed write, or one discarded with its flag. A write transfer without data
bytes only sets the pointer. -/
def execWindowRegisterWrite (p : HPort) (addr : BitVec 16) (ws : List W) (s : State) : Out :=
  let a := addr.toNat
  let q := hport p
  .next (hifDo (fun s =>
    let s1 := i2cEnd p (a + 4 * ws.length) s
    if writeOk a ws.length s then writeWindow q a ws s1
    else if ws.isEmpty && p == .i2c then s1
    else if ws.isEmpty || 64 < ws.length then onPortNew q (fun r => { r with frmErr := true }) s1
    else onPortNew q (fun r => { r with addrErr := true }) s1) s)

/-- A failed CRC check (R74, R80). -/
def PortState.crcFail (q : PortState) : PortState := { q with crcErr := true, crcCount := satAdd 255 q.crcCount 1 }

/-- SPI_WRITE_DISCARD (R74). -/
def execSpiWriteDiscard (p : SpiPort) (e : SpiWriteError) (s : State) : Out :=
  .next (hifDo (onPortNew (sport p) (fun q =>
    match e with
    | .badCommand => { q with frmErr := true }
    | .badLen => { q with frmErr := true }
    | .badCount => { q with frmErr := true }
    | .badCrc => q.crcFail
    | .badAddr => { q with addrErr := true })) s)

/-- SPI_READ_CHECK_FAIL (R74): zero data, the inverse trailer and the flag; with a LEN of 0 or above 64 the transaction is ignored with
FRM_ERR. -/
def execSpiReadCheckFail (p : SpiPort) (e : SpiReadError) (addr : BitVec 16) (len : BitVec 8) (s : State) : Out :=
  let lenOk := decide (1 ≤ len.toNat ∧ len.toNat ≤ 64)
  .next (hifDo (fun s =>
    if !lenOk then onPortNew (sport p) (fun q => { q with frmErr := true }) s
    else if e == .badAddr && addr.toNat % 4 == 0 then s
    else onPortNew (sport p) (fun q =>
      let r := { q with badTrailer := some (~~~(crc16 (spiHeader 0x03 addr len ++ List.replicate (4 * len.toNat) 0#8))) }
      match e with
      | .badCrc => r.crcFail
      | .badAddr => { r with addrErr := true }) s) s)

/-- I2C_WRITE_DISCARD (R76, R77). The pointer follows the last byte transferred, wherever that was: a free value (log entry 3). -/
def execI2cWriteDiscard (e : I2cWriteError) (s : State) : Out :=
  .next (hifDo (fun s =>
    onPortNew .i2c (fun q =>
      match e with
      | .align => { q with addrErr := true }
      | .region => { q with addrErr := true }
      | .length => { q with frmErr := true }
      | .pec => { q with pecErr := true })
      ((takeFree s).onHif (fun h => { h with i2cPtr := (freeW s).setWidth 16, i2cBusy := false }))) s)

/-- SMBUS_TIMEOUT (R78): the transfer is abandoned, an uncommitted write has no effect. -/
def execSmbusTimeout (s : State) : Out := .next (hifDo (State.onHif (fun h => { h with i2cBusy := false })) s)

/-- ALERT_RESPONSE_READ (R75, R95): the target that asserts HIRQC_N answers with its own address, and
releases the pin until a new reason arises. -/
def execAlertResponseRead (s : State) : Out :=
  .next (hifDo (fun s => if hirq .i2c s then s.onHif (fun h => { h with alertReleased := true, alertAnswer := some (i2cAddress s) })
    else s) s)

/-- I2C_START (R106): a changed HIF.I2C_PEC takes effect. -/
def execI2cStart (s : State) : Out :=
  .next (hifDo (fun s => s.onHif (fun h => { h with i2cBusy := true, pecOn := pb Pid.HIF_I2C_PEC s })) s)

/-! ### Completions and credits -/

/-- The completion words with CQ_WAITED (R83). -/
def markWaited (ws : List W) : List W := ws.mapIdx (fun i w => if i = 1 then w ||| 0x01000000 else w)

/-- CQ_WAIT_POST (R83, R86): the oldest waiting completion is posted, its slot freed and its credit returned. -/
def execCqWaitPost (p : Port) (s : State) : Out :=
  let waits := fun (x : Slot) => x.port == p && x.status.isFinished
  .next (match s.hif.slots.find? waits with
    | none => s
    | some x => match x.status with
      | .finished ws =>
        if (s.hif.port p).cqFree then
          onPortNew p (fun q => { (q.postCq (markWaited ws) x.notify false) with avail := q.avail + 1 })
            (onSlots (List.eraseP waits) s)
        else s
      | _ => s)

/-- CREDIT_REALLOCATION (R87). -/
def execCreditReallocation (s : State) : Out := .next (tryAlloc s)

/-! ### SESSION_OPEN and SNAPSHOT -/

/-- Bounds of the classes 0 to 3, us, as SESSION_OPEN returns them (R88, R98). -/
def boundWords (s : State) : List W :=
  if s.sys.service.isLimp then [250, 5000, 0, 0]
  else if s.sys.mode = .normal then [40, 1000, 25000, 2000000]
  else [250, 0xFFFFFFFF, 0xFFFFFFFF, 0xFFFFFFFF]

/-- SESSION_OPEN (R98): the session is OPEN under a new number and the credits are reissued; a reissue in NORMAL that changes AVAIL is a
CONSERVATION pick. -/
def execSessionOpen (p : Port) (tag : Tag) (s : State) : Out :=
  .next (runCmd 0x001 p tag (fun _ s =>
    let q := s.hif.port p
    let used := inUse p s
    let av := q.alloc - used
    let s1 := onPort p (fun q => { q with sess := .opened, snum := nextSnum q.snum, avail := av }) s
    let s2 := when_ (s.sys.mode == .normal && av != q.avail) (raisePick 0x01F 0x07 4) s1
    let w0 := w32 ((nextSnum q.snum).toNat + 256 * s.sys.mode.code + 1024 * s.sys.service.code)
    done p tag ([w0, w32 (q.alloc + 256 * av + 65536 * used)] ++ boundWords s) s2) s)

/-- SNAPSHOT (R50, R98). -/
def execSnapshot (p : Port) (tag : Tag) (s : State) : Out :=
  .next (runCmd 0x002 p tag (fun _ s =>
    if s.sys.service = .early then doneNote p tag (earlySnapshot s) s else done p tag (snapshotWords p s) s) s)

end Sys2Proof.Machine
end

