-- ==== Sys2Proof/Machine/Sys.lean ====
section
/-! DEFINITION. Start-up from the OTP check to full service, the PLLs, the clock monitor, DOZE, the early converter, the draft beat and
the audit of the invariants (R30, R33, R35, R39, R45 to R51, R59, R62, R64, R65, R99, R259, R415, R419, R420, R428, R429). -/

namespace Sys2Proof.Machine

/-! ### TEST mode (R34, R35) -/

/-- Result word of TEST_MODE: the mode in force. -/
def modeWord (s : State) : W := w32 s.sys.mode.code

/-- TEST_MODE with word 1 [0] set (R35). -/
def execTestModeEnter (p : Port) (tag : Tag) (s : State) : Out :=
  .next (runCmd 0x011 p tag (fun x s =>
    if !(x.word 1).getLsbD 0 then s
    else if x.word 2 ≠ 0x54450000 then outOfRange p tag 1 s
    else if s.sys.mode ≠ .normal || s.heddle.safeHold || s.sys.service.isLimp || s.est.test.isSome then wrongState p tag 0 s
    else let t := setMode .test s; done p tag [modeWord t] t) s)

/-- TEST_MODE with word 1 [0] clear (R34, R35). -/
def execTestModeLeave (p : Port) (tag : Tag) (s : State) : Out :=
  .next (runCmd 0x011 p tag (fun x s =>
    if (x.word 1).getLsbD 0 then s
    else if s.sys.mode ≠ .test || s.est.test.any (fun t => t.kind == .duration) then wrongState p tag 0 s
    else let t := leaveTest s; done p tag [modeWord t] t) s)

/-! ### The start before the processors run (R45, R47, R50) -/

/-- The start-up sequence proceeds: no POR, no RESET_N hold, no digest hold, the device awake. -/
def starting (s : State) : Bool := !s.sys.porActive && !s.sys.resetHeld && s.sys.digestHold.isNone && awake s

/-- Both conditions of secure boot hold: EARLY_STAGE shows it (R45, R51). -/
def stageTwo (s : State) : State :=
  when_ (s.sys.boot.otpDone && s.sys.boot.sysLocked && s.sys.stage == 0x01) (State.onSys (fun y => { y with stage := 0x02 })) s

/-- OTP_LC_INVALID of the OTP controller, which may come before the host interfaces open (R420). -/
def lcInvalid (s : State) : State :=
  s.onSelv (Selv.deliver { pick := mkPick 0x208 0x21 0, carried := false, time := s.sys.devTime })

/-- The patterns that R420 calls invalid, one pick each. -/
def otpPatterns (s : State) : State :=
  let rd := fun a => otpShadow a s
  when_ (thermoGap (thermoBits 0x1A9 6 rd)) lcInvalid (when_ (thermoGap (thermoBits 0x1A1 8 rd)) lcInvalid
    (when_ (!lcValid (rd 0x1A0)) lcInvalid s))

/-- The lowest-coded finalised region whose digest does not match (R418, R419). -/
def badRegion (s : State) : Option Nat :=
  let rd := fun a => otpWord a s
  [1, 2, 3, 4].find? (fun r => finalised r rd &&
    (otpRegion r).any (fun x => regionDigest r rd != (rd x.2.2, rd (x.2.2 + 1))))

/-- OTP_DIGEST_CHECK (R45, R47, R415, R419, R420). -/
def execOtpDigestCheck (s : State) : Out :=
  .next (if !starting s || s.sys.boot.otpDone then s
    else
      let s1 := s.onOtp (fun o => { o with shadow := o.words })
      match badRegion s with
      | some r => s1.onSys (fun y => { y with digestHold := some r, inReset := true })
      | none => otpPatterns (stageTwo (s1.onSys (fun y => { y with boot := { y.boot with otpDone := true } }))))

/-- DIGEST_PATTERN_TOGGLE (R419): the pattern is driven, and GPIO3 changes its level. -/
def execDigestPatternToggle (s : State) : Out :=
  .next (if s.sys.digestHold.isSome then
      s.onSys (fun y => { y with digestPattern := true, digestToggle := if y.digestPattern then !y.digestToggle else y.digestToggle })
    else s)

/-- SYS_PLL_LOCK (R45, R409): BUS and PD clocks run and the NVM recall begins, busy for at most 3.2 ms. -/
def execSysPllLock (s : State) : Out :=
  .next (if !starting s || s.sys.boot.sysLocked then s
    else stageTwo (s.onSys (fun y => { y with boot := { y.boot with sysLocked := true }, nvmBusy := y.devTime + 3200 })))

/-- ACQ_PLL_LOCK (R45, R59): results carry CLOCK_DEGRADED only while the PLL locks to the LFO. -/
def execAcqPllLock (s : State) : Out :=
  .next (if !starting s || !s.sys.boot.sysLocked || s.sys.inReset then s
    else (s.onAcq (fun a => { a with degraded := s.sys.xtalFailed, rings := true })).onSys (fun y =>
      { y with boot := { y.boot with acqLocked := true } }))

/-- A Power Frame flag, or one of AON, is read after the restart: its pick is carried and its event follows (R26, R59, R355). -/
def postFlag (f : FrameFlag) (s : State) : State :=
  let s1 := s.onSelv (Selv.deliver { pick := f.pick, carried := true, time := s.sys.devTime })
  match f.event with
  | none => s1
  | some e => raiseEvent e.code e.detail s1

/-- Every flag is read. -/
def postFlags (s : State) : State := foldS postFlag s.selv.frameFlags (s.onSelv (fun v => { v with frameFlags := [] }))

/-- A group's state as the step engine reads it back (R37): what its rails show, or INTERRUPTED. -/
def readBack (was : GroupState) (g : Fin 8) (s : State) : GroupState :=
  if (groupRails g s).all (fun r => railOff r s && !railEnabled r s) then .down
  else if was = .up && (groupRails g s).all (fun r => railUp r s) then .up
  else .interrupted

/-- The chip-reset notice of a host port (R96). -/
def notice (p : Port) (s : State) : State :=
  if !(s.hif.port p).noticeDue then s
  else postSysgen p 0x000 0x21 0 [rstCause s, wLo s.sys.resetTime, wHi s.sys.resetTime] (onPort p (fun q => { q with noticeDue := false }) s)

/-- The strike timers count again after a chip reset (R394). -/
def restartGood (now : Nat) (w : Watch) : Watch := { w with good := w.good.map (fun g => (g.1, now)) }

/-- EARLY_SERVICE_OPEN (R26, R45, R50, R96): the digital domain is out of reset and the doorbells are accepted. -/
def execEarlyServiceOpen (s : State) : Out :=
  .next (if !starting s || s.sys.boot.earlyOpen || !s.sys.boot.otpDone || !s.sys.boot.sysLocked then s
    else
      let s1 := s.onSys (fun y => { y with inReset := false, boot := { y.boot with earlyOpen := true } })
      let s2 := s1.onHeddle (fun h => { h with w := vmap (restartGood s.sys.devTime) h.w })
      foldS notice hostPorts (postFlags s2))

/-! ### Secure boot (R427 to R430) -/

/-- The facts allow bank `b` to be booted. -/
def bootable (f : BootFacts) (b : Bool) (s : State) : Bool := hortoOk (bankOf f b).horto s

/-- No bank boots (R429): the boot loader in ROM serves. -/
def bootFailed (s : State) : State :=
  let s1 := s.onSys (fun y => { y with bootErr := 2 })
  admitServed (fwEvent 2 (raisePick 0x210 0x28 0 (s1.onFw (fun f => { f with bankB := false }))))

/-- A boot of the second bank because the first failed (R428, R429). -/
def bootSecond (first : Bool) (s : State) : State :=
  let e := if first then 5 else 1
  fwEvent e (raisePick 0x210 0x28 0 (s.onSys (fun y => { y with bootErr := BitVec.ofNat 8 e })))

/-- Bank `b` is booted: its trial, its PD slot, its versions, and the processors released with their boot windows (R391, R428, R433). -/
def bootBank (b : Bool) (s : State) : State :=
  let r := newestRec b s
  let x := (bootedImages (s.onFw (fun f => { f with bankB := b })))
  let s1 := s.onFw (fun f => { f with bankB := b, trial := r.any (fun q => q.st == 1), pdSel := r.any (fun q => q.pdSel),
                                       pdTrial := r.any (fun q => q.pdTrial), written := false })
  let s2 := takePd s1
  let s3 := s2.onSys (fun y => { y with hortoVer := x.elim 0 (fun i => i.horto.version), hortoRuns := true, stage := 0x03,
                                        boot := { y.boot with bootDone := true } })
  foldS (fun i t => when_ (!t.sys.pfHeld || i == 0 || i == 8) (armBoot i) t) (allFin 9) s3

/-- The restart into Safe Hold: limp service again, with its signs (R398, R400). -/
def holdAgain (s : State) : State := if s.heddle.safeHold then safeHoldSigns (limpStart s) else s

/-- A trial that the Heddle's chip reset ended is reverted: record, pick and event (R428). -/
def revertTrial (first : Bool) (s : State) : State :=
  let s1 := (appendRec first (fun r => { r with st := 3 }) s).onFw (fun f => { f with reverted := true })
  fwEvent 0x03 (raisePick 0x210 0x29 0 s1)

/-- SECURE_BOOT (R428). -/
def execSecureBoot (f : BootFacts) (s : State) : Out :=
  .next (if !s.sys.boot.earlyOpen || s.sys.inReset || s.sys.boot.bootDone || s.sys.bootErr = 2 || lcNow s = .decommissioned then s
    else
      let a := activeBank s
      let trial := (newestRec a s).any (fun r => r.st == 1) && s.sys.rstLast == 5
      let s1 := s.onFw (fun w => { w with facts := some f, reverted := false })
      let s2 := when_ trial (revertTrial a) s1
      let first := if trial then !a else a
      if bootable f first s then holdAgain (bootBank first s2)
      else if bootable f (!first) s then holdAgain (bootBank (!first) (bootSecond first s2))
      else bootFailed s2)

/-! ### Full service (R35, R45, R90, R99, R410) -/

/-- Every Shuttle runs its work, CMD runs and the round engine is ready. -/
def serviceReady (s : State) : Bool :=
  let b := s.sys.boot
  b.earlyOpen && b.recallDone && b.bootDone && b.cfgLoaded && b.acqLocked && !s.sys.inReset && s.sys.bootErr ≠ 3 &&
    (List.range 6).all (fun i => shRuns i s) && !s.sys.dbgHalt.getLsbD 0

/-- The START entry of this run (R408, R410). -/
def startEntry (s : State) : State :=
  if !s.sys.boot.startEntryDue then s
  else
    let n := s.store.nvm.run + 1
    logEvent 0 (w32 n) s.sys.devTime (s.onNvm (fun v => { v with run := n }))

/-- The first full service of a start: the estimator's record, the START entry, the tests that fell due without power and the alarms, and
the result of a test that the reset interrupted (R263, R267, R410). -/
def firstService (s : State) : State :=
  (postResult (programAlarms (missedTests (startEntry (estStart s))))).onSys (fun y => { y with boot := { y.boot with full := true } })

/-- Full service begins: TEST's remnants go, the mode is NORMAL and the deferred commands are decided (R34, R35, R90). -/
def enterFull (s : State) : State :=
  let s1 := when_ s.sys.service.isLimp (raisePick 0x001 0x12 0) (s.onSys (fun y => { y with cmdDown := false }))
  let s2 := (setService .full s1).onSys (fun y => { y with stage := 0x04, reserved := [] })
  decideDeferred (setMode .normal (testRemnants s2))

/-- FULL_SERVICE (R45): after a start, or after a CMD restart. In Safe Hold, RECOVERY is not left (R36). -/
def execFullService (s : State) : Out :=
  .next (if !serviceReady s || (s.sys.boot.full && !s.sys.cmdDown) then s
    else
      let s1 := when_ (!s.sys.boot.full) firstService s
      if s.heddle.safeHold then s1 else enterFull s1)

/-! ### Clock monitor and crossings (R59, R62) -/

/-- CLKMON_SYS_FAIL (R59): the chip reset follows from AON at once, and the Selvedge posts the picks after the restart. The hold of
R47 is left only through POR. -/
def execClkmonSysFail (xtalFailed : Bool) (s : State) : Out :=
  .next (if s.sys.porActive || s.sys.power ≠ .run || s.sys.planned.sys || s.sys.digestHold.isSome then s
    else
      let s1 := takeChip .clkmon (s.onSys (fun y => { y with sysFail := true, xtalFailed := y.xtalFailed || xtalFailed }))
      when_ xtalFailed (raisePick 0x040 0x13 0) (raisePick 0x040 0x10 0 s1))

/-- CLKMON_ACQ_FAIL (R59, R299): ACQ runs from SYS until it relocks. Running records end truncated, and a round resumes with RESTARTED on
the input it was converting. In DOZE the monitor expects ACQ during a round (R65). -/
def execClkmonAcqFail (s : State) : Out :=
  .next (if !s.sys.boot.acqLocked || s.sys.inReset || s.sys.planned.acq then s
    else
      let s1 := (truncateAll s).onAcq (fun a => { a with degraded := true, restart := a.restart || a.running })
      raisePick 0x040 0x11 0 (latchEic 220 (s1.onSys (fun y => { y with acqFail := true }))))

/-- FRAME_CLOCK_LOSS (R59): the backup ring oscillator takes over. -/
def execFrameClockLoss (s : State) : Out :=
  .next (if !s.sys.frameRun || s.sys.frameBackup then s
    else raisePick 0x040 0x12 0 (latchEic 220 (s.onSys (fun y => { y with frameBackup := true, frameFail := true }))))

/-- Crossings that carry events (R61): trips, edges, capture lines, ledger samples, port events, interrupts, conversion starts and
doorbells. Only these can overrun; on every other one the writer of data stalls (R62, log entry 49). -/
def cdcEvent (n : Nat) : Bool := [0x02, 0x04, 0x05, 0x07, 0x08, 0x0C, 0x0E, 0x10].contains n

/-- Crossings with a counter (R61). -/
def cdcCounted (n : Nat) : Bool := n == 0x02 || n == 0x05 || n == 0x08 || n == 0x0C

/-- CDC_OVERRUN (R62). -/
def execCdcOverrun (x : BitVec 5) (s : State) : Out :=
  let n := x.toNat
  .next (if !cdcEvent n || s.sys.inReset || s.sys.porActive then s
    else
      let s1 := s.onSys (fun y =>
        { y with overrun := y.overrun ||| (1#20 <<< n),
                 overrunCount := if cdcCounted n then sset 0 y.overrunCount n (satAdd 255 (sget 0 y.overrunCount n) 1)
                                 else y.overrunCount })
      raisePick 0x041 0x06 n (latchEic 223 s1))

/-! ### DOZE (R64, R65) -/

/-- The power state as R64 names it. -/
inductive PowerName where | run | idle | doze | deepSleep | ship
deriving DecidableEq, Repr

/-- The power state in force: IDLE is RUN with every processor waiting, which is nothing left to do (log entry 24). -/
def powerNow (s : State) : PowerName :=
  match s.sys.power with
  | .run => if s.pending.isEmpty && !s.sys.inReset && !s.sys.porActive then .idle else .run
  | .doze => .doze
  | .deepSleep => .deepSleep
  | .ship => .ship

/-- No capture is armed or runs. -/
def noCapture (s : State) : Bool := s.acq.slot.toList.all (fun x => x.st != .armed && x.st != .running)

/-- DOZE_ENTRY (R65). A group that powers up, powers down or backs off is a draft task due at its next tick (R208). The battery
rings stop before it (R300). -/
def execDozeEntry (nextTaskUs : Nat) (s : State) : Out :=
  .next (if pb Pid.SYS_DOZE_EN s && (outstanding s).isEmpty && noCapture s && decide (pn Pid.SYS_DOZE_MIN_US s ≤ nextTaskUs) &&
      !s.chg.pwm && s.pd.a.pos == 0 && s.pd.b.pos == 0 && s.sys.mode == .normal && cmdRuns s && s.sys.power == .run &&
      s.sys.sleepReq.isNone && !seqBusy s then
      (s.onSys (fun y => { y with power := .doze, planned := { y.planned with sys := true, acq := !s.acq.running } })).onAcq (fun a =>
        { a with rings := false })
    else s)

/-- DOZE_WAKE (R63, R64). -/
def execDozeWake (s : State) : Out := .next (dozeWake s)

/-! ### The early converter (R51) -/

/-- Voltage code: floor(V / 0.4 V), saturating. -/
def earlyCode (mv : Nat) : Nat := min 255 (mv / 400)

/-- Temperature code: the whole degrees of the die plus 64, saturating. -/
def earlyTemp (die : Int) : Nat := (clampI 0 255 (die + 64)).toNat

/-- EARLY_SAMPLE (R51): once per millisecond; the converter is in the LFO domain, which stops only in SHIP. -/
def execEarlySample (vin vlink vbat : Nat) (die : Int) (s : State) : Out :=
  .next (if s.sys.porActive || s.sys.power = .ship then s
    else (tickTo 6 1000 s).onSys (fun y =>
      { y with earlyPwr := w32 (earlyCode vin + 256 * earlyCode vlink + 65536 * earlyCode vbat + 16777216 * earlyTemp die) }))

/-! ### The draft beat (R30, R31, R33) and what is polled with it -/

/-- A port that holds a contract or sources VBUS is taken to DISABLED (R259 step 3). -/
def cutPort (u : Fin 2) (s : State) : State :=
  let x := pdPort u s
  if x.pos = 0 && !x.gsrc then s
  else
    let s1 := dropContract u (leaveRole u s)
    onPdp u (fun x => { detachFields x with st := .disabled, cc := .open_, gsrc := false, discharging := false }) s1

/-- Steps 2 to 4 of R259 once GROUP_DOWN 0xFF has ended; in limp service and in Safe Hold step 4 waits for full service. -/
def cutPoll (s : State) : State :=
  match s.est.cutDown with
  | none => s
  | some k =>
    if !s.pwr.allDown.isEmpty || !s.pwr.allDownDone.isEmpty || s.sys.sleepReq.isSome then s
    else
      let s1 := foldS (fun g t => when_ (t.pwr.grp[g].st == .halted) (immediateOff g (originWord 0x411 0)) t) (allFin 8) s
      if !allGroupsDown s1 then s1
      else
        let s2 := foldS cutPort (allFin 2) s1
        if s2.sys.service ≠ .full || s2.heddle.safeHold || s2.sys.saving then s2
        else (startSave (leaveTest s2)).onSys (fun y => { y with sleepReq := some k })

/-- A draft task overruns its beat (R33). -/
def draftOverrun (n : BitVec 16) (s : State) : State :=
  if cmdRuns s then raisePick 0x01E 0x0A n.toNat (s.onSys (fun y => { y with suspended := [n] })) else s

/-- A beat begins: the suspended task resumes, the fast lane's count and the promises of past beats go. -/
def newBeat (s : State) : State :=
  let s1 := tickTo 7 100 s
  s1.onSys (fun y => { y with class0Starts := 0, suspended := [], reserved := y.reserved.filter (fun e => decide (y.devTime / 100 ≤ e.1)) })

/-- DRAFT_BEAT (R30, R33); the running test and the cut-off are judged with it (R259, R267). -/
def execDraftBeat (overrun : Option (BitVec 16)) (s : State) : Out :=
  .next (if s.sys.porActive || s.sys.inReset || s.sys.power ≠ .run then s
    else
      let s1 := newBeat s
      let s2 := match overrun with
        | none => s1
        | some n => draftOverrun n s1
      if procsRun s2 then cutPoll (testPoll s2) else s2)

/-! ### The audit (R38, R39) -/

/-- The credits of all ports and the slots in use make 256. -/
def creditsOk (s : State) : Bool :=
  allPorts.all (fun p => (s.hif.port p).avail + inUse p s == (s.hif.port p).alloc) &&
    (allPorts.map (fun p => (s.hif.port p).alloc)).sum == 256

/-- The balance of the caddy is what its entries make it (R38, R233). -/
def caddyOk (s : State) : Bool := let c := s.est.caddy; !c.valid || c.b == c.qIn - c.qOut - c.qSelf + c.qRebase

/-- Every pick received is stored, dropped or waits in the intake, until a count saturates (R357). -/
def picksOk (s : State) : Bool :=
  let v := s.selv
  v.received == max32 || v.stored == max32 || v.dropped == max32 || v.received == v.stored + v.dropped + v.intake.length

/-- CONSERVATION with the violated invariant. -/
def conservation (ok : Bool) (detail : Nat) (s : State) : State := when_ (!ok) (raisePick 0x01F 0x07 detail) s

/-- CONSERVATION_AUDIT (R39): SAF audits; nothing is repaired. -/
def execConservationAudit (s : State) : Out :=
  .next (if !procsRun s || s.sys.dbgHalt.getLsbD 8 then s
    else
      let c := creditsOk s
      let b := caddyOk s
      let k := picksOk s
      conservation k 3 (conservation b 2 (conservation c 1 (s.onSys (fun y => { y with auditClean := c && b && k })))))

end Sys2Proof.Machine
end

