-- ==== Sys2Proof/Machine/CfgLoad.lean ====
section
/-! DEFINITION. The configuration image: its entries as parameters, its verification, its meeting with carried settings and what each
block takes from it (R14, R15, R48, R87, R117, R155, R199, R202, R215, R249, R285, R319, R383, R426, R429). -/

namespace Sys2Proof.Machine

/-! ### The image as parameters (R14, R15) -/

/-- The parameter is restored from the image (R15). -/
def fromImage (id : Nat) : Bool := (paramInfo id).any (fun r => r.rst = .img)

/-- The keys and values of one entry; a parameter that the image does not restore, or an unknown one, has none. -/
def entryKeys (id : Nat) (ws : List W) : List (Nat × Int) :=
  match paramInfo id with
  | none => []
  | some r =>
    if r.rst = .img then ((List.range r.words).zip ws).map (fun p => (pkey id p.1, cleanWord id p.1 (r.value p.2))) else []

/-- The values of an image, by key. -/
def imageKeys (img : List (Nat × List W)) : Sparse Int :=
  (img.flatMap (fun e => entryKeys e.1 e.2)).foldl (fun m p => sput p.1 p.2 m) []

/-- With CHG.CHEM VRLA, an image that leaves both charge temperature limits at their LFP defaults has -20.0 and 50.0 degC (R157). -/
def vrlaTemps (m : Sparse Int) : Sparse Int :=
  let v := fun id => (sfind m (pkey id 0)).getD (paramDefault id 0)
  if v Pid.CHG_CHEM = 1 && v Pid.CHG_T_CHG_MIN = 0 && v Pid.CHG_T_CHG_MAX = 450 then
    sput (pkey Pid.CHG_T_CHG_MIN 0) (-200) (sput (pkey Pid.CHG_T_CHG_MAX 0) 500 m)
  else m

/-- The live values with an image's in place of the previous image's. -/
def withImage (m : Sparse Int) (s : State) : State :=
  s.onPar (fun p => { p with live := (vrlaTemps m).foldl (fun l e => sput e.1 e.2 l) (p.live.filter (fun e => !fromImage (e.1 / 1024))),
                             img := m })

/-- The image is valid: its signature and version, every value in range, every rule (R14, R426). -/
def imageOk (img : List (Nat × List W)) (s : State) : Bool :=
  (match bootedImages s with
    | none => false
    | some x => cfgOk x.cfg x.horto.version s) &&
  imageInRange img && imageRules (withImage (imageKeys img) s)

/-- No valid configuration (R14, R429): Horto runs without one. -/
def imageBad (s : State) : State :=
  admitServed (fwEvent 3 (raisePick 0x210 0x28 0 (s.onSys (fun y => { y with bootErr := 3 }))))

/-! ### Carried settings (R48) -/

/-- Protection thresholds and current limits of a channel, for which a smaller value is tighter. -/
def tightKey (key : Nat) : Bool :=
  let id := key / 1024
  inInst id 0x3000 0x100 12 && [0x20, 0x21, 0x23, 0x24, 0x26].contains (id % 0x100)

/-- The rail is off: OFF or latched off, and not in DISCHARGE. -/
def railIdle (r : Rail) (s : State) : Bool :=
  match r with
  | .vr c => s.pwr.vr[c].st.offOrLatched
  | .ldo n => s.pwr.ldo[n].st.offOrLatched
  | .en n => s.pwr.en[n].st == .off

/-- The value of a key in a map, or the parameter's default. -/
def keyValue (m : Sparse Int) (key : Nat) : Int := (sfind m key).getD (paramDefault (key / 1024) (key % 1024))

/-- The carried value of a key stays in force, the image's `v` being pending. -/
def staysCarried (s : State) (key : Nat) (v : Int) : Bool :=
  let old := keyValue s.store.par.live key
  match keyRail key s with
  | none => false
  | some r => decide (old ≠ v) && !railIdle r s && !(tightKey key && decide (v < old))

/-- The settings whose carried values stay in force: key, carried value, image value. -/
def carriedKeys (m : Sparse Int) (s : State) : List (Nat × Int × Int) :=
  let old := s.store.par.live.filter (fun e => fromImage (e.1 / 1024))
  let keys := m.map (·.1) ++ (old.filter (fun e => (sfind m e.1).isNone)).map (·.1)
  keys.filterMap (fun k =>
    let v := keyValue m k
    if staysCarried s k v then some (k, keyValue s.store.par.live k, v) else none)

/-- The image's values take effect but for those of carried rails, which are pending (R48). -/
def takeImage (m : Sparse Int) (s : State) : State :=
  let l := carriedKeys m s
  (withImage m s).onPar (fun p => { p with live := l.foldl (fun q e => sput e.1 e.2.1 q) p.live,
                                           pend := l.foldl (fun q e => sput e.1 e.2.2 q) [] })

/-- CARRY_MISMATCH of every rail with pending values (R48). -/
def carryPicks (s : State) : State :=
  foldS (fun r t => when_ (railPending r t) (raisePickEv 0x000 0x0B (railCode r) (some (0x0003, 0))) t) allRails s

/-! ### What each block takes -/

/-- One served table at a start-up (R249): the factory copy when the recalled one does not pass, with its pick. -/
def checkTable (k : TableKind) (s : State) : State :=
  match (tableSet k s).served with
  | none => when_ (s.store.nvm.lostTables.contains k) (fun t => raisePick 0x163 0x13 (tableCode k) (setFlag 4 true t))
      (onTable k (fun t => { t with served := some (factTable k s) }) s)
  | some t =>
    if t.factCrc = factCrc k s && tableConsistent k t.entries (factEntries k s) then s
    else raisePick 0x163 0x13 (tableCode k) (setFlag 4 true (onTable k (fun u => { u with served := some (factTable k s) }) s))

/-- The served tables of a start-up. -/
def checkTables (s : State) : State := checkTable .rs (checkTable .cap (checkTable .ocv (setFlag 4 false s)))

/-- The phases of the channels that are off take their places (R160, R197); one dropped stays so (R188). -/
def placePhases (s : State) : State :=
  let busy := fun (k : Fin 24) => (chanOf k s).any (fun c => !s.pwr.vr[c].st.offOrLatched)
  let member := fun (k : Fin 24) => (allFin 12).any (fun c => (vrMembers c s).contains k)
  let spare := fun (k : Fin 24) => (allFin 12).any (fun c => vrSpare c s == some k)
  foldS (fun k t => when_ (!busy k && t.pwr.ph[k].st != .dropped)
    (onPh k (fun x => { x with st := if member k then .member else if spare k then .standby else .unused })) t) (allFin 24) s

/-- The attenuators of the channels that are off and not linked (R167). -/
def placeAtts (s : State) : State :=
  foldS (fun c t => when_ ((linkedPort c t).isNone && t.pwr.vr[c].st.offOrLatched)
    (onVr c (fun x => { x with att := pn (Pid.VR_ATT c.val) t })) t) (allFin 12) s

/-- The groups in use are in the state read back from their rails, each change with its event; those the image does not enable are
unused (R37, R209, R221). A power-down that a carried monitor fault has asked for starts from there (R204). -/
def placeGroups (s : State) : State :=
  let back := foldS (fun g t =>
    let x := t.pwr.grp[g]
    onGrp g (fun y => { y with was := .unused })
      (if !groupEn g t then setGroup g .unused t else if x.st = .unused then setGroup g (readBack x.was g t) t else t)) (allFin 8) s
  foldS (fun g t => when_ (groupEn g t) (requestDown g [] (originWord 0x411 1) .toDown) t) back.pwr.carriedDown
    (back.onPwr (fun w => { w with carriedDown := [] }))

/-- The monitors take their thresholds; one that watches no rail is evaluated from here on (R202, R203). -/
def placeMons (s : State) : State :=
  foldS (fun m t => when_ (pn (Pid.MON_RAIL m.val) t == 0xFF) (monEvaluate m) (monWrite m t)) (allFin 32) s

/-- A DC input as SRC.DCx_EN stands (R115). -/
def placeDc (d : Fin 2) (s : State) : State :=
  let i := dcSrc d
  if !pb (Pid.SRC_DC_EN d.val) s then onSrc i (fun x => { x with st := .disabled, qualFrom := none }) (pathOff i s)
  else when_ (decide ((srcAt i s).st = .disabled)) (onSrc i (fun x => { x with st := .absent })) s

/-- The link begins, or SH0 takes it from the paths it finds (R117, R126); the die shutdown keeps the POR settings (R313). -/
def placeLink (s : State) : State :=
  if (vgetD {} s.therm.zone 8).latch then s
  else
    let s1 := foldS refreshLimit (allFin 4) s
    if s.path.porSet then linkStart s1 else linkRestart (foldS judgeWindow (allFin 2) s1)

/-- The acquisition: the reference selected, the comparators written (R283 to R285). -/
def placeAcq (s : State) : State :=
  let s1 := setRef (BitVec.ofNat 2 (pn Pid.ACQ_REF_SEL s)) s
  s1.onAcq (fun a => { a with cc := vmap (fun x => { x with written := true }) a.cc })

/-- The charger: after POR OFF, or WAIT with CHG.AUTOSTART (R155); after another restart by its record (R154); in Safe Hold as
R156 states. -/
def placeChg (s : State) : State :=
  let s1 := if s.sys.boot.startEntryDue && s.chg.absDet = 0 then
      (if s.chg.st = .off && pb Pid.CHG_AUTOSTART s && pb Pid.CHG_EN s then chgWait s else s)
    else chgRestart s
  if s.heddle.safeHold then chgSafeHold s1 else s1

/-- Everything the blocks take from the image, in one step. -/
def placeAll (s : State) : State :=
  let s1 := (s.onPwr (fun w => { w with en := vmap (fun x => { x with hiZ := false }) w.en })).onGpio
    (fun v => vmap (fun g => { g with hiZ := false, fresh := true }) v)
  let s2 := placeMons (placeGroups (placeAtts (placePhases s1)))
  let s3 := placeAcq (foldS writeLevels (allFin 12) (checkTables s2))
  let s4 := placeLink (foldS placeDc (allFin 2) s3)
  placeChg (tryAlloc (s4.onHif (fun h => { h with allocPending := true })))

/-- CONFIG_LOAD (R14, R45, R48, R426, R428, R429): the booted bank's image, with its serial and its parameter entries. -/
def execConfigLoad (serial : W) (img : List (Nat × List W)) (s : State) : Out :=
  .next (if !s.sys.boot.bootDone || s.sys.boot.cfgLoaded || s.sys.inReset || s.sys.bootErr = 2 || s.sys.bootErr = 3 then s
    else if !imageOk img s then imageBad s
    else
      let s1 := takeImage (imageKeys img) s
      let s2 := s1.onSys (fun y => { y with cfgSerial := serial, boot := { y.boot with cfgLoaded := true } })
      placeAll (carryPicks s2))

end Sys2Proof.Machine
end

