-- ==== Sys2Proof/Machine/Eic.lean ====
section
/-! DEFINITION. The event controller and the posting of host events: rows EIC_EDGE to EIC_COMPLETE, EVENT_INJECT,
EVENT_READ, POSTED_EVENT and PICK_DROPPED (R371 to R381, R384). -/

namespace Sys2Proof.Machine

/-- EIC_EDGE (R372, R377, R379). -/
def execEicEdge (n : BitVec 8) (s : State) : Out := .next (latchEic n.toNat s)

/-- A target processor is halted by a debug request, in the processor codes of R392. -/
def targetHalted (t : Nat) (s : State) : Bool :=
  s.sys.dbgHalt.getLsbD (if t = 0 then 0 else if t = 1 then 8 else if t = 2 then 7 else t - 2)

/-- A target processor is in reset. -/
def targetInReset (t : Nat) (s : State) : Bool :=
  s.sys.inReset || !s.sys.boot.bootDone || (t == 0 && s.sys.cmdDown) || (t == 2 && !s.pd.coreRuns) || (2 ≤ t && s.sys.pfHeld)

/-- A source that can be delivered: pending, priority above 0, not storm-masked (R374). -/
def deliverable (n : Nat) (s : State) : Bool :=
  let x := s.eic.get n
  x.pending && !x.storm && decide (0 < eicPrio n s)

/-- A target can take a source (R374). -/
def canTake (t n : Nat) (s : State) : Bool :=
  (eicTargets n s).testBit t && !targetHalted t s && !targetInReset t s &&
    decide ((vgetD {} s.eic.tgt t).running < eicPrio n s)

/-- The target a pending source goes to: the lowest running priority, then the lowest number (R374). -/
def route (n : Nat) (s : State) : Option Nat :=
  if deliverable n s then
    (List.range 9).foldl (fun best t =>
      if canTake t n s then
        match best with
        | none => some t
        | some b => if (vgetD {} s.eic.tgt t).running < (vgetD {} s.eic.tgt b).running then some t else some b
      else best) none
  else none

/-- The better of two sources for a target: higher priority, then lower number (R374). -/
def betterSource (a : Option Nat) (n : Nat) (s : State) : Nat :=
  match a with
  | none => n
  | some m => if eicPrio n s < eicPrio m s || (eicPrio n s == eicPrio m s && m < n) then m else n

/-- A target's notification still stands (R376). -/
def assignedStill (t : Nat) (s : State) : Option Nat :=
  match (vgetD {} s.eic.tgt t).assigned with
  | none => none
  | some n => if route n s = some t then some n else none

/-- Change a target. -/
def Eic.onTgt (t : Nat) (f : EicTarget → EicTarget) (e : Eic) : Eic :=
  { e with tgt := vmapIdx (fun i x => if i = t then f x else x) e.tgt }

/-- EIC_DELIVER (R374, R375): a pending source is routed to an available target, which is notified of its best source. -/
def execEicDeliver (n : BitVec 8) (s : State) : Out :=
  .next (match route n.toNat s with
    | none => s
    | some t => s.onEic (Eic.onTgt t (fun x => { x with assigned := some (betterSource (assignedStill t s) n.toNat s) })))

/-- EIC_CLAIM (R376): the claim takes the assigned source, clears its pending bit and raises the running priority; with
nothing assigned it returns 1023 and changes nothing. -/
def execEicClaim (t : Fin 9) (s : State) : Out :=
  .next (match assignedStill t.val s with
    | none => s.onEic (Eic.onTgt t.val (fun x => { x with assigned := none }))
    | some n =>
      let pr := eicPrio n s
      s.onEic (fun e => Eic.onTgt t.val (fun x => { running := pr, claims := (n, x.running) :: x.claims, assigned := none })
        (e.mod n (fun y => { y with pending := false }))))

/-- EIC_COMPLETE (R376): restores the running priority held before the claim; a source not claimed raises
BAD_COMPLETE. -/
def execEicComplete (t : Fin 9) (n : BitVec 8) (s : State) : Out :=
  .next (match (vgetD {} s.eic.tgt t.val).claims.find? (fun c => c.1 == n.toNat) with
    | none => raisePick 0x01C 0x09 n.toNat s
    | some c => s.onEic (Eic.onTgt t.val (fun x =>
        { x with running := c.2, claims := x.claims.eraseP (fun d => d.1 == n.toNat) })))

/-- EVENT_INJECT (R378, R384, R472). -/
def execEventInject (p : Port) (tag : Tag) (s : State) : Out :=
  .next (runCmd 0x910 p tag (fun x s =>
    let n := bitsOf (x.word 1) 0 8
    if eicReserved n then outOfRange p tag 0 s
    else if !(232 ≤ n && n ≤ 247) && s.sys.mode ≠ .test then wrongState p tag 0 s
    else done p tag [] (latchEicInj n true s)) s)

/-- A source's word in EVENT_READ (R384). -/
def eventReadWord (n : Nat) (s : State) : W :=
  let x := s.eic.get n
  w32 (x.count + 256 * b01 x.sat + 512 * b01 x.pending + 1024 * b01 x.storm + 2048 * b01 x.injected +
    4096 * eicPrio n s + 65536 * eicTargets n s)

/-- EVENT_READ (R384): counters and flags, cleared in the same read with CLEAR. -/
def execEventRead (p : Port) (tag : Tag) (s : State) : Out :=
  .next (runCmd 0x911 p tag (fun x s =>
    let a := bitsOf (x.word 1) 0 8
    let n := bitsOf (x.word 1) 8 8
    if n = 0 || 12 < n || 256 < a + n then outOfRange p tag 0 s
    else
      let ws := (List.range n).map (fun i => eventReadWord (a + i) s)
      let s1 := if (x.word 1).getLsbD 16 then
          s.onEic (fun e => foldS (fun i => Eic.mod (a + i)
            (fun y => { y with count := 0, sat := false, injected := false })) (List.range n) e)
        else s
      done p tag ws s1) s)

/-- EVT.CAT_x of a host port (R379). -/
def evtCat (p : Port) (s : State) : Nat := pn (Pid.EVT_CAT_SPIA + portNo p) s

/-- Post one raised event to the ports whose EVT.CAT bit is set, and to the event log when NVM.EVLOG_CAT asks for it
(R379, R407). A transfer has been logged by its own rule (R127). -/
def postRaised (e : RaisedEvent) (s : State) : State :=
  let c := (e.code / 4096) % 16
  let s1 := foldS (fun p t => when_ ((evtCat p s).testBit c)
    (onPortNew p (PortState.postEvent e.code e.detail e.time)) t) hostPorts s
  when_ ((pn Pid.NVM_EVLOG_CAT s).testBit c && e.code ≠ 0x1001) (logEvent e.code e.detail e.time) s1

/-- POSTED_EVENT (R379): CMD, or SAF while CMD is down, posts the oldest raised event; neither runs before Horto does. -/
def execPostedEvent (s : State) : Out :=
  .next (match s.hif.events with
    | [] => s
    | e :: l =>
      if s.sys.inReset || !s.sys.hortoRuns then s
      else postRaised e (s.onHif (fun h => { h with events := l })))

/-- PICK_DROPPED (R380): a change of SELV.DROPPED is posted, at most once per second. -/
def execPickDropped (s : State) : Out :=
  let s1 := tickTo 1 1000000 s
  .next (if s1.selv.dropped = s1.selv.droppedPosted || s1.sys.inReset then s1
    else raiseEvent 0x9002 (w32 s1.selv.dropped)
      (s1.onSelv (fun v => { v with droppedPosted := v.dropped })))

end Sys2Proof.Machine
end

