-- ==== Sys2Proof/Machine/Regulators.lean ====
section
/-! DEFINITION. Regulator channels, phases and LDOs: the rows of chapter 06 (R159 to R193, R474), and the rows that find
a rail off. -/

namespace Sys2Proof.Machine

/-- The Shuttle that serves a channel runs: SH2 for VR0 to VR5, SH3 for VR6 to VR11. -/
def servedNow (c : Fin 12) (s : State) : Bool := shRuns (if c.val < 6 then 2 else 3) s

/-! ### The dispatcher (R162 to R164, R180) -/

/-- A member is ready (R164). -/
def Phase.ready (x : Phase) : Bool := x.onTaps.isNone && !x.minOff && !x.valley

/-- The positions in rotation order after the last one served. -/
def rotationFrom (c : Fin 12) (s : State) : List (Nat × Fin 24) :=
  let l := rotationPos c s
  match s.pwr.vr[c].rot with
  | none => l
  | some k => l.filter (fun j => k < j.1) ++ l.filter (fun j => j.1 ≤ k)

/-- The ramp of an on-time of `n` taps, uV peak to peak: the injection amplitude scaled with (v_link - v_set) x t_on (R166). Where
VIN_NOM_MV is no higher than the set point the gain has no value, and the amplitude is free (log entry 3). -/
def rampUv (c : Fin 12) (n : Nat) (s : State) : State × Nat :=
  let x := s.pwr.vr[c]
  if x.injRef = 0 then (takeFree s, (freeW s).toNat)
  else (s, 1000 * x.injGain * ((s.path.vlink - refNow c s) * n) / x.injRef)

/-- Start an on-time on the phase in position `k` (R162): v_set is the present set point with its ramps. -/
def startOn (c : Fin 12) (k : Nat × Fin 24) (s : State) : State :=
  let n := onTaps (pn (Pid.VR_FSW_KHZ c.val) s) (refNow c s) s.path.vlink s.pwr.ph[k.2].trim
  let r := rampUv c n s
  onVr c (fun y => { y with rot := some k.1, heldTrip := false })
    (onPh k.2 (fun y => { y with onTaps := some n, level := .high, peak := false, ramp := r.2 }) r.1)

/-- Dispatch a trip to the next ready member, or hold it (R164). -/
def dispatch (c : Fin 12) (s : State) : State :=
  match (rotationFrom c s).find? (fun k => s.pwr.ph[k.2].ready) with
  | some k => startOn c k s
  | none => onVr c (fun y => { y with heldTrip := true }) s

/-- The members switch: in a running state or an active discharge, and not held off by VIN_LOW. -/
def switching (c : Fin 12) (s : State) : Bool :=
  let x := s.pwr.vr[c]
  !x.vinLow && (x.st.running || (x.st == .discharge && pn (Pid.VR_DISCH c.val) s == 1 && !x.disSusp)) && !s.sys.regStopped

/-- The sensed output is below 30 % of the present reference referred to the output (R180). -/
def belowShort (c : Fin 12) (mv : Nat) (s : State) : Bool := decide (mv * 10 < 3 * dacMv c (refNow c s) s)

/-- An undervoltage already reported is a short once CURRENT_LIMIT is set (R180). -/
def uvShort (c : Fin 12) (s : State) : State :=
  let x := s.pwr.vr[c]
  if x.st.isUp && x.uvOn && x.curLimit && !x.vinLow then hiccupNow c s else s

/-- COMPARATOR_TRIP (R164, R176, R178, R180): the valley limits are judged, trips in current limit are counted, and the
trip is dispatched. -/
def execComparatorTrip (c : Fin 12) (imon : List (Fin 24 × Int)) (sensed vlink : Nat) (s : State) : Out :=
  let s0 := noteOut (.vr c, sensed) (s.onPath (fun q => { q with vlink := vlink }))
  .next (if !switching c s0 then s0
    else
      let ival : Int := pn (Pid.VR_IVAL_MA c.val) s0
      let s1 := foldS (fun e t => onPh e.1 (fun y => { y with imon := e.2 }) t) imon s0
      let s2 := onPhs (rotation c s1) (fun y => { y with valley := decide (ival < y.imon) }) s1
      let rot := rotation c s2
      let limited := rot.all (fun k => s2.pwr.ph[k].valley || s2.pwr.ph[k].peak)
      let any := rot.any (fun k => s2.pwr.ph[k].valley || s2.pwr.ph[k].peak)
      let s3 := onVr c (fun y =>
        { y with curLimit := y.curLimit || any,
                 shortTrips := if y.st.running && limited && belowShort c sensed s2 then satAdd 8 y.shortTrips 1 else 0 }) s2
      dispatch c (uvShort c s3))

/-- ON_TIME_END (R162, R163): low, and off for at least the minimum off-time. -/
def execOnTimeEnd (k : Fin 24) (s : State) : Out :=
  .next (if s.pwr.ph[k].onTaps.isSome then
      onPh k (fun y => { y with onTaps := none, level := .low, minOff := true }) s
    else s)

/-- MEMBER_READY (R164): a held trip goes to the member. -/
def execMemberReady (k : Fin 24) (s : State) : Out :=
  let s1 := onPh k (fun y => { y with minOff := false, valley := false }) s
  .next (match chanOf k s1 with
    | none => s1
    | some c =>
      match (rotationPos c s1).find? (fun j => j.2 == k) with
      | none => s1
      | some j => if s1.pwr.vr[c].heldTrip && s1.pwr.ph[k].ready && switching c s1 then startOn c j s1 else s1)

/-! ### Limits and flags (R176, R178) -/

/-- PEAK_OVER_CURRENT (R176): the cycle is truncated and CURRENT_LIMIT set. -/
def execPeakOverCurrent (k : Fin 24) (ma : Int) (s : State) : Out :=
  .next (match chanOf k s with
    | none => s
    | some c =>
      if s.pwr.ph[k].onTaps.isSome && decide ((pn (Pid.VR_IPK_MA c.val) s : Int) ≤ ma) then
        uvShort c (onVr c (fun y => { y with curLimit := true })
          (onPh k (fun y => { y with imon := ma, onTaps := none, level := .low, minOff := true, peak := true }) s))
      else s)

/-- The negative limit in force: 0 throughout SOFTSTART (R173). -/
def negLimit (c : Fin 12) (s : State) : Int :=
  if s.pwr.vr[c].st = .softstart then 0 else pn (Pid.VR_INEG_MA c.val) s

/-- NEGATIVE_CURRENT (R176): the rest of the off-time runs with both switches off. -/
def execNegativeCurrent (k : Fin 24) (ma : Int) (s : State) : Out :=
  .next (match chanOf k s with
    | none => s
    | some c =>
      if s.pwr.ph[k].onTaps.isNone && s.pwr.ph[k].level = .low && decide (ma ≤ -negLimit c s) then
        onPh k (fun y => { y with imon := ma, level := .hiZ }) s
      else s)

/-- CURRENT_LIMIT_CLEAR (R178). -/
def execCurrentLimitClear (c : Fin 12) (s : State) : Out :=
  .next (if (rotation c s).any (fun k => s.pwr.ph[k].valley || s.pwr.ph[k].peak) then s
    else onVr c (fun y => { y with curLimit := false }) s)

/-- RAIL_OVERLOAD (R178). -/
def execRailOverload (c : Fin 12) (s : State) : Out :=
  .next (if s.pwr.vr[c].curLimit then vrPick c 0x16 0 s.pwr.vr[c].st none s else s)

/-! ### Over-voltage, undervoltage, short, hiccup (R176 to R180, R474) -/

/-- What the output OV comparison takes: the higher of the two readings, and the local one once the remote is lost or not in use (R176,
R182). -/
def ovReading (c : Fin 12) (t : OvTrip) (s : State) : Nat :=
  if s.pwr.vr[c].senseOpen || pn (Pid.VR_SNS_MODE c.val) s = 1 then t.near else max t.remote t.near

/-- RAIL_OV (R176). With a disable in its FRAME cycle a HICCUP is not entered; after another trip of the cycle it still raises its pick
(R172). -/
def execRailOv (c : Fin 12) (t : OvTrip) (s : State) : Out :=
  let x := s.pwr.vr[c]
  let mv := ovReading c t s
  .next (if x.st = .off || (x.st = .latchedOff && t.co ≠ .trip) || x.ovOn || s.sys.regStopped ||
      decide (mv * 100 < winTop c s * (100 + pn (Pid.VR_OV_PCT c.val) s)) then s
    else
      let s1 := vrPick c 0x12 0 x.st (some 0x3005) (noteOut (.vr c, mv) s)
      if x.st = .latchedOff then s1
      else
        let s2 := onVr c (fun y => { y with ovOn := true })
          (onPhs (rotation c s1) (fun y => { y with level := .low, onTaps := none }) s1)
        if pn (Pid.VR_OV_ACT c.val) s = 0 then latchNow c 1 s2
        else if x.st.running then (if t.co = .disable then s2 else hiccupNow c s2)
        else onPhs (rotation c s2) (fun y => { y with level := .hiZ }) s2)

/-- The undervoltage condition: the sensed output, or an input undervoltage that outlasts the blanking (R176, R179). -/
def uvHolds (c : Fin 12) (mv : Nat) (s : State) : Bool :=
  s.pwr.vr[c].vinLow || decide (mv * 100 < winBottom c s * (100 - pn (Pid.VR_UV_PCT c.val) s))

/-- RAIL_UV (R176, R179, R180), with the coincidences of R172 as for an over-voltage. -/
def execRailUv (c : Fin 12) (t : UvTrip) (s : State) : Out :=
  let x := s.pwr.vr[c]
  let here := x.st.isUp || (t.co ≠ .alone && x.st ≠ .off)
  let hic := fun (u : State) => if u.pwr.vr[c].st.running && t.co ≠ .disable then hiccupNow c u else u
  .next (if !here || s.sys.regStopped || !uvHolds c t.mv s then s
    else
      let s0 := noteOut (.vr c, t.mv) s
      if x.curLimit && !x.vinLow then hic s0
      else if x.uvOn then s
      else
        let s1 := vrPick c 0x13 0 x.st (some 0x3005) s0
        let act := pn (Pid.VR_UV_ACT c.val) s
        if act = 1 then hic s1
        else if act = 2 then latchNow c 2 s1
        else if x.st.isUp then onVr c (fun y => { y with uvOn := true }) s1 else s1)

/-- RAIL_UV_CLEAR (R176): 2 % above the threshold. -/
def execRailUvClear (c : Fin 12) (mv : Nat) (s : State) : Out :=
  let x := s.pwr.vr[c]
  .next (if x.uvOn && decide (winBottom c s * (102 - pn (Pid.VR_UV_PCT c.val) s) ≤ mv * 100) then
      onVr c (fun y => { y with uvOn := false }) (noteOut (.vr c, mv) s)
    else s)

/-- SHORT_DETECT (R180). A HICCUP that gives way to a disable of its FRAME cycle is reported and not counted (R172). -/
def execShortDetect (t : ShortTrip) (s : State) : Out :=
  let c := t.c
  let x := s.pwr.vr[c]
  .next (if t.co = .disable then
      (if (x.st.running && decide (8 ≤ x.shortTrips)) || x.st == .discharge then vrPick c 0x14 0 x.st (some 0x3005) s else s)
    else if x.st.running && decide (8 ≤ x.shortTrips) then hiccupNow c s else s)

/-- HICCUP_OFF_EXPIRY (R171, R180). -/
def execHiccupOffExpiry (c : Fin 12) (s : State) : Out :=
  let x := s.pwr.vr[c]
  let m := pn (Pid.VR_HICCUP_MAX c.val) s
  .next (if x.st ≠ .hiccup then s
    else if m = 0 || decide (x.hiccups ≤ m) then softStart c (pb (Pid.VR_PREBIAS c.val) s) s
    else latchNow c 3 s)

/-- HICCUP_COUNT_RESET (R180). -/
def execHiccupCountReset (c : Fin 12) (s : State) : Out :=
  .next (if s.pwr.vr[c].st.isUp then onVr c (fun y => { y with hiccups := 0 }) s else s)

/-! ### Soft start and discharge (R171 to R175, R190) -/

/-- The state at the end of a soft start: REGULATE with every position filled, or being filled, and the sense line whole. -/
def ssEnd (c : Fin 12) (s : State) : ChanState :=
  let x := s.pwr.vr[c]
  if decide ((vrMembers c s).length ≤ activeNow c s + b01 x.takeover) && !x.senseOpen then .regulate else .degraded

/-- SOFTSTART_COMPLETE (R171, R182, R190, R222). -/
def execSoftstartComplete (r : Rail) (s : State) : Out :=
  .next (match r with
    | .vr c =>
      if s.pwr.vr[c].st = .softstart && !s.pwr.vr[c].vinLow then
        railUpDone r (onVr c (fun y => { y with refMv := y.setMv, margined := decide (y.margin ≠ 0) }) (chanGo c (ssEnd c s) s))
      else s
    | .ldo n =>
      if s.pwr.ldo[n].st = .softstart then railUpDone r (onLdo n (fun y => { y with st := .regulate }) s) else s
    | .en _ => s)

/-- DISCHARGE_COMPLETE (R171, R190, R200). -/
def execDischargeComplete (r : Rail) (mv : Nat) (s : State) : Out :=
  let s0 := noteOut (r, mv) s
  .next (match r with
    | .vr c => if s0.pwr.vr[c].st = .discharge && vrBelowOff c mv s0 then afterRailFall (chanOff c s0) else s0
    | .ldo n =>
      if s0.pwr.ldo[n].st = .discharge && ldoBelowOff n mv s0 then
        afterRailFall (applyPending r (onLdo n (fun y => { y with st := .off }) s0))
      else s0
    | .en n => if enBelowOff n s0 then afterRailFall (enOffWait n s0) else s0)

/-- DISCH_TIMEOUT (R171, R190): OFF although the output has not fallen. -/
def execDischTimeout (r : Rail) (s : State) : Out :=
  .next (match r with
    | .vr c =>
      if s.pwr.vr[c].st = .discharge then afterRailFall (chanOff c (vrPick c 0x18 0 .discharge none s)) else s
    | .ldo n =>
      if s.pwr.ldo[n].st = .discharge then afterRailFall (applyPending r (onLdo n (fun y => { y with st := .off }) s))
      else s
    | .en _ => s)

/-- EN_OFF_WAIT_EXPIRY (R200). -/
def execEnOffWaitExpiry (n : Fin 16) (s : State) : Out := .next (afterRailFall (enOffWait n s))

/-- OFF_COMPARATOR_CHANGE (R200, R202). -/
def execOffComparatorChange (m : Fin 32) (below : Bool) (s : State) : Out := .next (afterRailFall (offChange m below s))

/-- ENABLE_HELD_START (R171, R219): the held enable starts the rail once its output has fallen. -/
def execEnableHeldStart (r : Rail) (mv : Nat) (s : State) : Out :=
  let s0 := noteOut (r, mv) s
  .next (if !railHeld r s0 || !railOff r s0 || s0.sys.regStopped || thermHeld r s0 then s0
    else match r with
    | .vr c => if vrCanStart c s0 then softStart c (pb (Pid.VR_PREBIAS c.val) s0) s0 else s0
    | .ldo n => onLdo n (fun y => { y with st := .softstart, enableHeld := false }) s0
    | .en n => railUpDone r (onEn n (fun y => { y with st := .on, enableHeld := false }) s0))

/-- Suspend or resume a channel's active discharge (R175). -/
def dischVlink (c : Fin 12) (s : State) : State :=
  let x := s.pwr.vr[c]
  let m := pn Pid.VR_DIS_VLINK_MAX_MV s
  if x.st = .discharge && pn (Pid.VR_DISCH c.val) s = 1 then
    if !x.disSusp && decide (m ≤ s.path.vlink) then onVr c (fun y => { y with disSusp := true }) (phasesOff c s)
    else if x.disSusp && decide (s.path.vlink + 1000 < m) then
      onVr c (fun y => { y with disSusp := false })
        (when_ (!x.vinLow) (onPhs (rotation c s) (fun y => { y with level := .low })) s)
    else s
  else s

/-- DISCH_VLINK_CROSSING (R175). -/
def execDischVlinkCrossing (vlink : Nat) (s : State) : Out :=
  .next (foldS dischVlink (allFin 12) (s.onPath (fun q => { q with vlink := vlink })))

/-! ### Sense line and input undervoltage (R179, R181, R182) -/

/-- Sensing is compared in this state. -/
def senseChecked (c : Fin 12) (s : State) : Bool :=
  let st := s.pwr.vr[c].st
  (st.running || st == .discharge) && pn (Pid.VR_SNS_MODE c.val) s == 0 && !s.sys.regStopped

/-- delta of R181 times DIV, uV / 1000: the local reading less the drop of the channel's current less the remote one, which the bias
current through RTH_OHM raises. -/
def senseDelta (c : Fin 12) (v : SensePins) (s : State) : Int :=
  let rem := (v.snsUv - 10 * pn (Pid.VR_RTH_OHM c.val) s) * pn (Pid.VR_DIV c.val) s
  v.locUv * pn (Pid.VR_DIV_LOC c.val) s - chanMa c s * pn (Pid.VR_RDIST_UOHM c.val) s - rem

/-- |delta| is above `mv` at the pin. -/
def senseAbove (c : Fin 12) (v : SensePins) (mv : Nat) (s : State) : Bool :=
  decide (1000 * mv * pn (Pid.VR_DIV c.val) s < (senseDelta c v s).natAbs)

/-- SENSE_OPEN (R181, R182): above 150 mV the line is open; while it is, the row reports whether the difference has come
back within 75 mV for 10 ms. -/
def execSenseOpen (c : Fin 12) (v : SensePins) (s : State) : Out :=
  let x := s.pwr.vr[c]
  .next (if !senseChecked c s then s
    else if x.senseOpen then onVr c (fun y => { y with senseBack := !senseAbove c v 75 s }) s
    else if !senseAbove c v 150 s then s
    else
      let s1 := onVr c (fun y => { y with senseOpen := true, senseBack := false }) (vrPick c 0x11 0 x.st (some 0x3004) s)
      if x.st = .regulate then chanGo c .degraded s1 else s1)

/-- Remote sense resumes: the reference slews from the local point, and DEGRADED ends when every position is filled (R182). -/
def senseResume (c : Fin 12) (s : State) : State :=
  let mv := localMv c s
  let s1 := onVr c (fun y => { y with senseOpen := false, senseBack := false, slewing := y.st.isUp,
                                      refMv := if y.st.isUp then mv else y.refMv, refAt := if y.st.isUp then s.sys.devTime else y.refAt }) s
  if s.pwr.vr[c].st = .degraded && decide ((vrMembers c s).length ≤ activeNow c s) then chanGo c .regulate s1 else s1

/-- The channel switches, or would at a higher VLINK: a running state or an active discharge. -/
def wouldSwitch (c : Fin 12) (s : State) : Bool :=
  s.pwr.vr[c].st.running || (s.pwr.vr[c].st == .discharge && pn (Pid.VR_DISCH c.val) s == 1)

/-- VIN_LOW (R176): the phases go high-impedance and the state is kept. -/
def execVinLow (c : Fin 12) (vlink : Nat) (s : State) : Out :=
  let x := s.pwr.vr[c]
  let s0 := s.onPath (fun q => { q with vlink := vlink })
  .next (if wouldSwitch c s && !x.vinLow && decide (vlink < pn (Pid.VR_VIN_MIN_MV c.val) s) && !s.sys.regStopped then
      onVr c (fun y => { y with vinLow := true }) (vrPick c 0x17 0 x.st none (phasesOff c s0))
    else s0)

/-- VIN_RECOVERY (R179): SOFTSTART as though pre-biased; an active discharge goes on. -/
def execVinRecovery (c : Fin 12) (vlink : Nat) (s : State) : Out :=
  let x := s.pwr.vr[c]
  let s0 := s.onPath (fun q => { q with vlink := vlink })
  .next (if x.vinLow && decide (pn (Pid.VR_VIN_MIN_MV c.val) s + 1000 ≤ vlink) then
      let s1 := onVr c (fun y => { y with vinLow := false }) s0
      if x.st.running then softStart c true s1
      else when_ (wouldSwitch c s1 && !x.disSusp) (onPhs (rotation c s1) (fun y => { y with level := .low })) s1
    else s0)

/-! ### Phase loss and the spare (R183 to R188) -/

/-- A phase drops: high-impedance, out of the rotation. -/
def dropPhase (k : Fin 24) (chanIsOff : Bool) (s : State) : State :=
  onPh k (fun y => { y with st := .dropped, level := .hiZ, onTaps := none, minOff := false, valley := false, peak := false,
                            cleared := false, wasOff := chanIsOff, imonOk := false }) s

/-- A loss without a takeover: DEGRADED, or LATCHED_OFF below MIN_PH (R187). -/
def noTakeover (c : Fin 12) (s : State) : State :=
  let st := s.pwr.vr[c].st
  minPhCheck c (if st = .regulate then chanGo c .degraded s else s)

/-- An IMON voltage is out of range (R161). -/
def imonOut (mv : Nat) : Bool := decide (mv < 100 ∨ 2900 < mv)

/-- IMON lies outside the STANDBY band, 3 % of 2.70 V about its zero level (R183). -/
def bandOut (k : Fin 24) (mv : Nat) (s : State) : Bool := decide (81 < ((mv : Int) - pn (Pid.PH_IMON_REF_MV k.val) s).natAbs)

/-- The check of a DROPPED phase: its result is the cause of R188. -/
def checkDropped (k : Fin 24) (mv : Nat) (s : State) : State :=
  onPh k (fun y => { y with imonOk := !imonOut mv && !bandOut k mv s }) s

/-- Of a DROPPED phase only the IMON voltage is checked (R160). -/
def noteDropped (k : Fin 24) (r : LossReading) (s : State) : State :=
  match r with
  | .imon mv => checkDropped k mv s
  | .ripple _ _ _ => s
  | .averages _ => s

/-- The condition of R184 that a reading meets, in the channel states in which its check runs (R160); 0: none. -/
def lossFound (c : Fin 12) (k : Fin 24) (r : LossReading) (s : State) : Nat :=
  let st := s.pwr.vr[c].st
  match r with
  | .imon mv => if imonOut mv then 1 else 0
  | .ripple ma vlink tOn =>
    if st.running && decide (5 * ma * pn (Pid.PH_L_NH k.val) s < (vlink - refNow c s) * tOn) then 2 else 0
  | .averages l =>
    let a := l.filter (fun e => (rotation c s).contains e.1)
    let n : Int := a.length
    let sum := (a.map (·.2)).sum
    let d := (a.filter (fun e => e.1 == k)).map (fun e => (n * e.2 - sum).natAbs)
    if st.isUp && d.any (fun d => decide (40 * sum.natAbs < 100 * d ∧ 10 * a.length * pn (Pid.VR_IVAL_MA c.val) s < 100 * d)) then 3
    else 0

/-- PHASE_LOST (R184 to R187). Of two losses in one FRAME cycle the lower-numbered has the takeover (R186). -/
def execPhaseLost (k : Fin 24) (r : LossReport) (s : State) : Out :=
  let ph := s.pwr.ph[k].st
  .next (match chanOf k s with
    | none => s
    | some c =>
      let x := s.pwr.vr[c]
      let cond := lossFound c k r.what s
      if s.sys.regStopped then s
      else if ph = .dropped then noteDropped k r.what s
      else if !(ph = .member || ph = .spareIn) || cond = 0 then s
      else
        let s1 := raisePickEv (0x0A0 + k.val) 0x10 (x.st.code + 16 * cond) (some (0x3001, 0)) s
        let s2 := dropPhase k (x.st == .off) s1
        if ph = .spareIn then
          noTakeover c (onVr c (fun y => { y with spareUsed := false, takePos := none }) s2)
        else if x.st.running && !x.takeover && (vrSpare c s2).any (fun j => s2.pwr.ph[j].st == .standby) then
          onVr c (fun y => { y with takeover := true, takePos := some k.val }) s2
        else
          let pos := if r.same && x.takeover then x.takePos.map (fun j => min j k.val) else x.takePos
          noTakeover c (onVr c (fun y => { y with takePos := pos }) s2))

/-- SPARE_IN (R185): the spare's first on-time in the dropped member's place. -/
def execSpareIn (c : Fin 12) (s : State) : Out :=
  .next (match vrSpare c s with
    | none => s
    | some k =>
      if s.pwr.vr[c].takeover && s.pwr.ph[k].st = .standby && s.pwr.vr[c].st.running then
        let s1 := spareTakes c k s
        match (rotationPos c s1).find? (fun j => j.2 == k) with
        | none => s1
        | some j => when_ (switching c s1) (startOn c j) s1
      else s)

/-- SPARE_LOST (R183): outside 3 % of 2.70 V around the zero level; of a DROPPED phase it is the check behind R188. -/
def execSpareLost (k : Fin 24) (imonMv : Nat) (s : State) : Out :=
  .next (match chanOf k s with
    | none => s
    | some c =>
      let x := s.pwr.vr[c]
      if s.sys.regStopped then s
      else if s.pwr.ph[k].st = .dropped then checkDropped k imonMv s
      else if s.pwr.ph[k].st = .standby && bandOut k imonMv s then
        let s1 := dropPhase k (x.st == .off)
          (raisePickEv (0x0A0 + k.val) 0x11 x.st.code (some (0x3003, 0)) s)
        if x.takeover then noTakeover c (onVr c (fun y => { y with takeover := false, takePos := none }) s1) else minPhCheck c s1
      else s)

/-- One trim step by integral action: its size is free, its direction is against the deviation (R165; log entry 3). -/
def trimStep (k : Fin 24) (dev : Int) (s : State) : State :=
  let m : Int := (freeW s).toNat % 2401
  let d := if dev = 0 then 0 else if 0 < dev then -m else m
  takeFree (onPh k (fun y => { y with trim := clampI (-1200) 1200 (y.trim + d) }) s)

/-- SHARING_UPDATE (R165). -/
def execSharingUpdate (c : Fin 12) (avg : List (Fin 24 × Int)) (s : State) : Out :=
  let l := avg.filter (fun e => (rotation c s).contains e.1)
  .next (if !servedNow c s || !s.pwr.vr[c].st.running || l.isEmpty then s
    else
      let mean := rdiv ((l.map (·.2)).sum) l.length
      let s1 := foldS (fun e t => trimStep e.1 (e.2 - mean) (onPh e.1 (fun y => { y with imon := e.2 }) t)) l s
      onVr c (fun y => { y with trimAt := s.sys.devTime }) s1)

/-! ### PG, health, LDO (R189 to R192) -/

/-- PG_CHANGE (R189, R227): inside the inner window good, outside the outer one bad. -/
def execPgChange (c : Fin 12) (mv : Nat) (s : State) : Out :=
  let s0 := noteOut (.vr c, mv) s
  let x := s0.pwr.vr[c]
  let uv := pn (Pid.VR_PG_UV c.val) s
  let ov := pn (Pid.VR_PG_OV c.val) s
  let h := pn (Pid.VR_PG_HYST c.val) s
  let lo := winBottom c s0
  let hi := winTop c s0
  let bad := decide (mv * 1000 < lo * (1000 - uv)) || decide (hi * (1000 + ov) < mv * 1000)
  let good := decide (lo * (1000 - uv + h) ≤ mv * 1000) && decide (mv * 1000 ≤ hi * (1000 + ov - h))
  .next (if !x.st.isUp || s.sys.regStopped then s0
    else if x.pg && bad then onVr c (fun y => { y with pg := false }) s0
    else if !x.pg && good then onVr c (fun y => { y with pg := true }) s0
    else s0)

/-- PH_HEALTH (R192). -/
def execPhHealth (k : Fin 24) (m : HealthMeasure) (s : State) : Out :=
  .next (match chanOf k s with
    | none => s
    | some c =>
      let x := s.pwr.vr[c]
      let due := pn (Pid.VR_HEALTH_S c.val) s ≠ 0 && servedNow c s && x.st.isUp && !x.slewing &&
        (rotation c s).contains k &&
        decide ((3 * (activeNow c s * pn (Pid.VR_IVAL_MA c.val) s) : Int) ≤ 10 * chanMa c (onPh k (fun y => { y with imon := m.avgMa }) s))
      if !due then s
      else
        let l := (tquot (((m.vlinkMv : Int) - m.voutMv) * m.tOnNs) m.rippleMa).toNat
        let r := (tquot (((m.tOnNs : Int) * m.vlinkMv - (m.voutMv : Int) * m.periodNs) * 1000000)
          ((m.periodNs : Int) * m.avgMa)).toNat
        let l0 := pn (Pid.PH_L_NH k.val) s
        let r0 := pn (Pid.PH_R_UOHM k.val) s
        let out := decide (l0 * pn Pid.VR_L_TOL_PCT s < ((l : Int) - l0).natAbs * 100) ||
          decide (r0 * (100 + pn Pid.VR_R_TOL_PCT s) < r * 100)
        let s1 := (onPh k (fun y => { y with lEst := min l max32, rEst := min r max32 }) s).onNvm
          (fun v => { v with learnedDirty := true })
        when_ out (raisePickEv (0x0A0 + k.val) 0x12 x.st.code (some (0x3006, 0))) s1)

/-- LDO_UV (R191). -/
def execLdoUv (n : Fin 8) (mv : Nat) (s : State) : Out :=
  let s0 := noteOut (.ldo n, mv) s
  .next (if s0.pwr.ldo[n].st = .regulate && decide (mv * 10 < 9 * pn (Pid.LDO_VOUT_MV n.val) s) && !s.sys.regStopped then
      let s1 := raisePickEv (0x0E0 + n.val) 0x10 3 (some (0x3005, 0)) s0
      if pn (Pid.LDO_UV_ACT n.val) s = 1 then
        railFault (.ldo n) 3 (onLdo n (fun y => { y with st := .latchedOff }) s1)
      else s1
    else s0)

/-- LDO_OVERLOAD (R191). -/
def execLdoOverload (n : Fin 8) (s : State) : Out :=
  let st := s.pwr.ldo[n].st
  .next (if st.running then raisePick (0x0E0 + n.val) 0x11 st.code s else s)

end Sys2Proof.Machine
end

