-- ==== Sys2Proof/Machine/Faults.lean ====
section
/-! DEFINITION. The Selvedge and the GPIO inputs: intake, storing with reactions, clears, the fault commands, fault injection and
GPIO edges (R351 to R370, R377, R383, R384). -/

namespace Sys2Proof.Machine

/-! ### Reactions (R359 to R362, R475) -/

/-- What one pick brings about. -/
structure Reaction where
  /-- Selvedge lines latched. -/
  lines : List Nat := []
  /-- CMD restart. -/
  cmd : Bool := false
  /-- Block reset. -/
  block : Option Block := none
  /-- Chip reset. -/
  chip : Option ResetCause := none
  /-- ERR_N. -/
  errN : Bool := false
  /-- The DONE byte. -/
  dn : Nat := 0
deriving DecidableEq, Repr

/-- A chip-reset reaction of the Selvedge has begun: no further reaction is carried out (R362). -/
def selvOver (s : State) : Bool := s.sys.resetBegun == some .selvedge || s.sys.resetBegun == some .safLockstep

/-- CONSERVATION, STORM and DRAFT_OVERRUN (R361). -/
def auditKind (kind : Nat) : Bool := kind == 0x07 || kind == 0x08 || kind == 0x0A

/-- ECC_UNCORR of a retained region of the shared memory (R361, R470). -/
def keptMemory (p : Pick) : Bool := (p.src == 0x02B || p.src == 0x02C) && p.kind == 0x02

/-- A fixed IRQ on line 0 (R361). -/
def fixedIrq (p : Pick) : Bool := auditKind p.kind.toNat || keptMemory p

/-- The reactions of a pick that are carried out: the configured ones and the fixed ones (R360, R361); for an injection of mode 1
only IRQ on line 0 (R369). A carried pick resets no chip (R362). -/
def reactionOf (p : IntakePick) (inj : Option Injection) (s : State) : Reaction :=
  let src := p.pick.src.toNat
  let kind := p.pick.kind.toNat
  if selvOver s then {}
  else if inj.any (·.mode1) then { lines := [0], dn := 1 }
  else
    let r := reactSet p.pick s
    let line := (r / 64) % 4
    let wantChip := r.testBit 4 || (src == 0x001 && kind == 0x04) || (src == 0x021 && kind == 0x02)
    let chip := if !wantChip || p.carried || s.sys.resetBegun.isSome then none
      else if src = 0x001 && kind = 0x04 then some .safLockstep else some .selvedge
    let wantBlk := !wantChip && (r.testBit 3 || (0x022 ≤ src && src ≤ 0x028 && kind == 0x02))
    let blk := if wantBlk then blockOf src else none
    let irq := r.testBit 0 || (wantBlk && (blockOf src).isNone)
    let nmiC := r.testBit 1 && cmdRuns s
    let nmiS := (r.testBit 2 || auditKind kind) && procsRun s && !s.sys.dbgHalt.getLsbD 8
    { lines := (if irq then [line] else []) ++ (if fixedIrq p.pick && !(irq && line == 0) then [0] else []),
      cmd := (src == 0x000 && kind == 0x04) || (src == 0x020 && kind == 0x02), block := blk, chip := chip, errN := r.testBit 5,
      dn := b01 (irq || fixedIrq p.pick) + 2 * b01 nmiC + 4 * b01 nmiS + 8 * b01 blk.isSome + 16 * b01 chip.isSome +
        32 * b01 (r.testBit 5) + 64 * (if irq then line else 0) }

/-- A monitor's carried fault runs its bit-1 action now (R204). -/
def carriedMon (p : IntakePick) (s : State) : State :=
  let src := p.pick.src.toNat
  if h : 0x100 ≤ src ∧ src < 0x120 then
    let m : Fin 32 := ⟨src - 0x100, by omega⟩
    if p.carried && !(pn (Pid.MON_ACT m.val) s).testBit 2 then monActions m s else s
  else s

/-- The reactions are carried out, the chip reset last. -/
def carryOut (p : IntakePick) (r : Reaction) (s : State) : State :=
  let s1 := foldS (fun l t => latchEic (224 + l) t) r.lines s
  let s2 := when_ r.errN (State.onSelv (fun v => { v with errLatch := true })) s1
  let s3 := match r.block with
    | none => s2
    | some b => blockReset b false s2
  let s4 := when_ r.cmd cmdRestart s3
  let s5 := when_ (keptMemory p.pick && !r.lines.isEmpty) rebuildKettle s4
  let s6 := carriedMon p s5
  match r.chip with
  | none => s6
  | some c => beginChip c s6

/-- One pick leaves the intake (R355 to R363, R369, R379). -/
def takePick (p : IntakePick) (s : State) : State :=
  let inj := s.selv.injections.find? (fun i => i.causes p.pick)
  let r := reactionOf p inj s
  let stored := !(merges p s && s.selv.ring.getLast?.any (fun x => x.rpt == 255))
  let s1 := storePick p r.dn inj.isSome s
  let s2 := when_ (stored && !p.pick.isNote && ((reactSet p.pick s).testBit 0 || fixedIrq p.pick))
    (raiseEvent 0x9001 p.pick.word) s1
  let s3 := match inj with
    | none => s2
    | some i => raisePick 0x01D 0x0C i.checker (s2.onSelv (fun v => { v with injections := v.injections.erase i }))
  carryOut p r s3

/-- PICK_INTAKE (R351, R354): a checker delivers a pick that some source sends. -/
def execPickIntake (src : BitVec 10) (kind : BitVec 6) (detail : BitVec 16) (s : State) : Out :=
  .next (if (pickClass src.toNat kind.toNat).isSome then raisePick src.toNat kind.toNat detail.toNat s else s)

/-- PICK_STORE (R355 to R363). -/
def execPickStore (s : State) : Out :=
  .next (match s.selv.intake with
    | [] => s
    | p :: l => if s.sys.inReset then s else takePick p (s.onSelv (fun v => { v with intake := l })))

/-! ### Clearing (R364, R365) -/

/-- The storm-masked sources have calmed down (R364). -/
def stormOver (s : State) : Bool :=
  let w := s.sys.devTime / 1000
  let lim := pn Pid.EIC_STORM_PER_MS s
  s.eic.src.all (fun e => !e.2.storm || e.2.wins.all (fun x => decide (x.1 + 100 < w ∨ x.2 ≤ lim)))

/-- The cause of RAIL_LATCHED is gone (R474). -/
def latchedGone (c : Fin 12) (s : State) : Bool :=
  let x := s.pwr.vr[c]
  x.st != .latchedOff ||
    (vrBelowOff c x.outMv s && (x.latchCause != 4 || decide (pn (Pid.VR_MIN_PH c.val) s ≤ canFill c s)))

/-- The cause of LDO_UV is gone (R474). -/
def ldoGone (n : Fin 8) (s : State) : Bool :=
  let x := s.pwr.ldo[n]
  x.st != .latchedOff || decide (x.outMv * 10 < pn (Pid.LDO_VOUT_MV n.val) s)

/-- The cause of a status bit is gone (R364 and the rule that raises the kind). -/
def causeGone (src kind : Nat) (s : State) : Bool :=
  if kind = 0x07 then s.sys.auditClean
  else if kind = 0x08 then stormOver s
  else if kind < 0x10 then true
  else if h : 0x080 ≤ src ∧ src < 0x08C then
    let c : Fin 12 := ⟨src - 0x080, by omega⟩
    if kind = 0x11 then !s.pwr.vr[c].senseOpen || s.pwr.vr[c].senseBack
    else if kind = 0x15 then latchedGone c s
    else true
  else if h : 0x0A0 ≤ src ∧ src < 0x0B8 then
    let k : Fin 24 := ⟨src - 0x0A0, by omega⟩
    s.pwr.ph[k].st != .dropped || s.pwr.ph[k].imonOk
  else if h : 0x0E0 ≤ src ∧ src < 0x0E8 then ldoGone ⟨src - 0x0E0, by omega⟩ s
  else if h : 0x100 ≤ src ∧ src < 0x120 then
    let m : Fin 32 := ⟨src - 0x100, by omega⟩
    if kind = 0x10 then !s.pwr.mon[m].uv else !s.pwr.mon[m].ov
  else if src = 0x148 && kind = 0x18 then timeoutGone s
  else if src = 0x160 then s.est.disagreeGone
  else if src = 0x1A0 && kind = 0x12 then !(vgetD {} s.therm.zone 8).latch
  else if 0x1A8 ≤ src && src ≤ 0x1AF && kind = 0x12 then !(vgetD {} s.therm.zone (src - 0x1A8)).latch
  else if src = 0x1C0 && kind = 0x15 then lockGone 0 s
  else if src = 0x1C1 && kind = 0x15 then lockGone 1 s
  else if src = 0x1E9 then !s.heddle.safeHold
  else true

/-- What an accepted clear does beside clearing the bit. -/
def clearEffect (src kind : Nat) (s : State) : State :=
  if kind = 0x06 then s.onSys (fun y => { y with overrun := 0, overrunCount := [] })
  else if kind = 0x08 then s.onEic (fun e => { e with src := e.src.filterMap (fun x =>
    let y := { x.2 with storm := false }
    if y = {} then none else some (x.1, y)) })
  else if kind < 0x10 then s
  else if h : 0x080 ≤ src ∧ src < 0x08C then
    let c : Fin 12 := ⟨src - 0x080, by omega⟩
    if kind = 0x11 && s.pwr.vr[c].senseOpen then senseResume c s
    else if kind = 0x15 && s.pwr.vr[c].st = .latchedOff then
      chanOff c (onVr c (fun x => { x with hiccups := if x.latchCause = 3 then 0 else x.hiccups, latchCause := 0 }) (ungate (.vr c) s))
    else s
  else if h : 0x0A0 ≤ src ∧ src < 0x0B8 then
    onPh ⟨src - 0x0A0, by omega⟩ (fun x => if x.st = .dropped then { x with cleared := true } else x) s
  else if h : 0x0E0 ≤ src ∧ src < 0x0E8 then
    let n : Fin 8 := ⟨src - 0x0E0, by omega⟩
    if s.pwr.ldo[n].st = .latchedOff then
      applyPending (.ldo n) (onLdo n (fun x => { x with st := .off, enabledAt := none }) (ungate (.ldo n) s))
    else s
  else if src = 0x148 && kind = 0x18 then timeoutCleared s
  else if src = 0x160 && kind = 0x10 then setFlag 0 false s
  else if src = 0x1C0 && kind = 0x15 then lockCleared 0 s
  else if src = 0x1C1 && kind = 0x15 then lockCleared 1 s
  else s

/-- Clear one status bit. -/
def Selv.clearStatus (src kind : Nat) (v : Selv) : Selv :=
  let m : BitVec 64 := ~~~(1#64 <<< kind)
  let off := fun (l : Sparse (BitVec 64)) => sset 0 l src (sget 0 l src &&& m)
  { v with status := off v.status, carriedBits := off v.carriedBits }

/-- One refused clear is counted (R365). -/
def Selv.refuse (src : Nat) (v : Selv) : Selv :=
  { v with refused := sset 0 v.refused src (satAdd 255 (sget 0 v.refused src) 1), clearRefused := satAdd max32 v.clearRefused 1 }

/-- The status bit of a source and kind is set. -/
def statusBit (src kind : Nat) (s : State) : Bool := (sget 0 s.selv.status src).getLsbD kind

/-- Judge one bit of a clear (R365). -/
def clearBit (src kind : Nat) (s : State) : State :=
  if !statusBit src kind s then s
  else if causeGone src kind s then clearEffect src kind (s.onSelv (Selv.clearStatus src kind))
  else s.onSelv (Selv.refuse src)

/-- The bits of a clear of `m` that are accepted, as the state stands before it. -/
def clearable (src : Nat) (m : BitVec 64) (s : State) : BitVec 64 :=
  foldS (fun k (a : BitVec 64) => if m.getLsbD k && statusBit src k s && causeGone src k s then a ||| (1#64 <<< k) else a)
    (List.range 64) 0

/-- No status bit is set whose reaction set includes ERR_N (R367). -/
def errClearable (s : State) : Bool := s.selv.status.all (fun e => e.2 == 0 || !(reactEntry e.1 s).testBit 5)

/-- FAULT_CLEAR of the ERR latch (R367). Which result bits stand for it the manual does not say: free words (log entry 3). -/
def clearErr (p : Port) (tag : Tag) (s : State) : State :=
  let s1 := takeFree s
  let ws := [freeW s, freeW s1]
  if !s.selv.errLatch then done p tag [0, 0, 0, 0] s
  else if errClearable s then
    done p tag (ws ++ [0, 0]) ((takeFree s1).onSelv (fun v => { v with errLatch := false }))
  else
    doneNote p tag ([0, 0] ++ ws) ((takeFree s1).onSelv (fun v => { v with clearRefused := satAdd max32 v.clearRefused 1 }))

/-- FAULT_CLEAR (R364, R365, R384). -/
def execFaultClear (p : Port) (tag : Tag) (s : State) : Out :=
  .next (runCmd 0x902 p tag (fun x s =>
    let src := bitsOf (x.word 1) 0 10
    if src = 0x3FF then clearErr p tag s
    else
      let m : BitVec 64 := x.word 3 ++ x.word 2
      let named := m &&& sget 0 s.selv.status src
      let ok := clearable src m s
      let no := named &&& ~~~ok
      let s1 := foldS (fun k t =>
        if ok.getLsbD k then clearEffect src k (t.onSelv (Selv.clearStatus src k))
        else if no.getLsbD k then t.onSelv (Selv.refuse src) else t) (List.range 64) s
      let ws := [ok.setWidth 32, (ok >>> 32).setWidth 32, no.setWidth 32, (no >>> 32).setWidth 32]
      complete p tag (if no = 0 then 0x00 else 0x01) ws s1) s)

/-- STORM_AUTO_CLEAR (R377): once a second Horto requests the clear of STORM while a mask holds. -/
def execStormAutoClear (s : State) : Out :=
  let s1 := tickTo 8 1000000 s
  .next (if pb Pid.EIC_STORM_AUTO s1 && cmdRuns s1 && s1.eic.src.any (fun e => e.2.storm) then clearBit 0x01C 0x08 s1 else s1)

/-! ### Reading (R355, R358, R384) -/

/-- The four words of a record. -/
def SelvRec.words (r : SelvRec) : List W :=
  [r.pick.word, w32 (r.rpt * 16777216 + r.done.toNat * 65536 + 32768 * b01 r.carried + 16384 * b01 r.injected + 8192 * b01 r.limp +
     4096 * b01 r.note), wLo r.time, wHi r.time]

/-- FAULT_READ (R384). -/
def execFaultRead (p : Port) (tag : Tag) (s : State) : Out :=
  .next (runCmd 0x901 p tag (fun x s =>
    let sel := bitsOf (x.word 1) 0 8
    let a := (x.word 2).toNat
    let v := s.selv
    if sel = 0 then
      done p tag [stickySummary s, w32 v.received, w32 v.stored, w32 v.dropped, w32 v.clearRefused, w32 v.frozen.length,
        w32 v.ringIdx.toNat, w32 (b01 v.errLatch + 2 * b01 (errN s))] s
    else if sel = 1 then
      if 0x21F < a then outOfRange p tag 1 s
      else
        let w := sget 0 v.status a
        done p tag [w.setWidth 32, (w >>> 32).setWidth 32, w32 (sget 0 v.refused a)] s
    else if sel = 2 then
      if 15 < a then outOfRange p tag 1 s else done p tag (((v.frozen.drop a).take 3).flatMap SelvRec.words) s
    else if sel = 3 then
      if 63 < a then outOfRange p tag 1 s else done p tag (((v.ring.reverse.drop a).take 3).flatMap SelvRec.words) s
    else if sel = 4 then
      done p tag ([s.sys.overrun.setWidth 32] ++ [2, 5, 8, 12].map (fun k => w32 (sget 0 s.sys.overrunCount k))) s
    else outOfRange p tag 0 s) s)

/-- The words of a saved fault set whose layout R358 leaves open (log entry 10). -/
def FaultSet.words (f : FaultSet) : List W :=
  [w32 f.received, w32 f.stored, w32 f.dropped, wLo f.time, wHi f.time] ++ f.frozen.flatMap SelvRec.words ++
    f.ring.flatMap SelvRec.words

/-- FAULT_LOG_READ (R358, R384): the 1344 bytes of a set, 12 words from the offset. -/
def execFaultLogRead (p : Port) (tag : Tag) (s : State) : Out :=
  .next (runCmd 0x903 p tag (fun x s =>
    let off := (x.word 2).toNat
    match s.store.nvm.faultSets[bitsOf (x.word 1) 0 2]? with
    | none => badId p tag 0 s
    | some f =>
      if off % 4 ≠ 0 || 1344 ≤ off then outOfRange p tag 1 s
      else
        let ws := (List.range (min 12 (336 - off / 4))).map (fun i => Config.faultSetWord f.2.words (off / 4 + i))
        complete p tag (if f.2.complete then 0x00 else 0x01) ws s) s)

/-! ### Fault injection (R368, R369, R470) -/

/-- Bytes of the memory behind a memory checker (chapter 01, "Memory"). -/
def memSize (checker : Nat) : Nat :=
  if checker = 0x020 then 262144
  else if checker = 0x021 then 131072
  else if checker ≤ 0x027 then 32768
  else if checker = 0x028 then 65536
  else if checker = 0x029 then 331776
  else if checker = 0x02A then 28672
  else if checker = 0x02B then 28672
  else 4096

/-- A checker of memory type. -/
def memChecker (k : Nat) : Bool := 0x020 ≤ k && k ≤ 0x02C
/-- A checker ID of R470. -/
def knownChecker (k : Nat) : Bool :=
  memChecker k || k == 0x030 || k == 0x031 || k == 0x032 || (0x101 ≤ k && k ≤ 0x113) || k == 0x120

/-- The state in which FAULT_INJECT is accepted (R368, R421). -/
def injectAllowed (s : State) : Bool :=
  let l := lcNow s
  s.sys.mode == .test && decide (s.selv.injections.length < 4) &&
    (l == .vendorTest || l == .provisioned || l == .fieldReturn || (l == .customerLocked && (otpShadow 0x0E0 s).getLsbD 0))

/-- FAULT_INJECT (R368 to R370, R384). -/
def execFaultInject (p : Port) (tag : Tag) (s : State) : Out :=
  .next (runCmd 0x904 p tag (fun x s =>
    let k := bitsOf (x.word 1) 0 10
    let m : Byte := (x.word 2).setWidth 8
    let off := (x.word 3).toNat
    if !injectAllowed s then wrongState p tag 0 s
    else if !knownChecker k || 1 < bitsOf (x.word 1) 16 2 then outOfRange p tag 0 s
    else if m = 0 then outOfRange p tag 1 s
    else if memChecker k && (off % 8 ≠ 0 || memSize k ≤ off) then outOfRange p tag 2 s
    else
      let i : Injection := { checker := k, mask := m, mode1 := (x.word 1).getLsbD 16, off := x.word 3 }
      let s1 := s.onSelv (fun v => { v with injections := v.injections ++ [i] })
      done p tag [w32 s1.selv.injections.length] s1) s)

/-! ### GPIO inputs (R383) -/

/-- FUNC of a GPIO. -/
def gpioFunc (n : Fin 16) (s : State) : Nat := pn (Pid.GPIO_CFG n.val) s % 16

/-- What a GPIO drives: GPIOn.OUT at VDDIO as an output, else nothing (R383). -/
def gpioOut (n : Fin 16) (s : State) : PhLevel :=
  if s.gpio[n].hiZ || gpioFunc n s != 5 then .hiZ else if pb (Pid.GPIO_OUT n.val) s then .high else .low

/-- Change a GPIO. -/
def onGpio1 (n : Fin 16) (f : Gpio → Gpio) (s : State) : State := s.onGpio (fun v => vmod v n f)

/-- The inputs and outputs act: the image is loaded and the digital domain runs. -/
def gpioRuns (s : State) : Bool := s.sys.boot.cfgLoaded && !s.sys.inReset

/-- CMD receives an edge of source `n`: it is not masked and CMD is one of its targets (R374). -/
def cmdReceives (n : Nat) (s : State) : Bool := deliverable n s && (eicTargets n s).testBit 0 && cmdRuns s

/-- Every DC source is marked, or no longer marked, as expected to fail. -/
def expectFail (b : Bool) (s : State) : State :=
  s.onPath (fun q => { q with dca := { q.dca with expectFail := b }, dcb := { q.dcb with expectFail := b } })

/-- What Horto does on a delivered edge of GPIO `n`; `first`: the edge of an input already active at its first evaluation. -/
def gpioAct (n : Fin 16) (first : Bool) (s : State) : State :=
  let f := gpioFunc n s
  if f = 1 then raiseEvent 0x9010 (w32 n.val) s
  else if f = 2 then
    let s1 := (expectFail true s).onEst (fun e => { e with test := e.test.map (fun t => { t with mainsLost := true }) })
    if s.gpio[n].alarmed then s1 else raiseEvent 0x9011 0 (onGpio1 n (fun g => { g with alarmed := true }) s1)
  else if f = 3 then
    if s.gpio[n].alarmed then s else raiseEvent 0x9013 0x80000000 (onGpio1 n (fun g => { g with alarmed := true }) s)
  else if f = 4 && !first then
    let s1 := raiseEvent 0x9014 0 s
    if testRefusal .function false s = 0 then startTest .function false true s1 else s1
  else s

/-- GPIO_EDGE (R267, R383): the edge is latched, and Horto acts on it. Whether an input's first edge is that of its first
evaluation is a free bit (log entry 3). -/
def execGpioEdge (n : Fin 16) (s : State) : Out :=
  let f := gpioFunc n s
  let aborts := (pn Pid.EST_TEST_ABORT_GPIO s).testBit n.val && s.est.test.isSome
  .next (if !gpioRuns s then s
    else if f = 0 || f = 5 then when_ (aborts && cmdRuns s) (endTest 2 0x4) s
    else
      let fresh := s.gpio[n].fresh
      let first := fresh && freeB s
      let s1 := latchEic n.val (onGpio1 n (fun g => { g with fresh := false }) (when_ fresh takeFree s))
      if !cmdReceives n.val s1 then s1
      else
        let s2 := gpioAct n first s1
        when_ aborts (endTest 2 0x4) s2)

/-- MAINS_BACK (R383). -/
def execMainsBack (n : Fin 16) (s : State) : Out :=
  .next (if gpioRuns s && gpioFunc n s = 2 && s.gpio[n].alarmed then
      raiseEvent 0x9012 0 (onGpio1 n (fun g => { g with alarmed := false }) (expectFail false s))
    else s)

/-- FIRE_ALARM_CLEAR (R383). -/
def execFireAlarmClear (n : Fin 16) (s : State) : Out :=
  .next (if gpioRuns s && gpioFunc n s = 3 && s.gpio[n].alarmed then
      raiseEvent 0x9013 0 (onGpio1 n (fun g => { g with alarmed := false }) s)
    else s)

end Sys2Proof.Machine
end

