-- ==== Sys2Proof/Machine/Dispatch.lean ====
section
/-! DEFINITION. The meaning of every command: one arm per constructor of `Instr`. -/

namespace Sys2Proof.Machine

def exec (i : Instr) (s : State) : Host.Outcome State Fault Refusal :=
  match i with
  | .sessionOpen p tag => Sys2Proof.Machine.execSessionOpen p tag s
  | .snapshot p tag => Sys2Proof.Machine.execSnapshot p tag s
  | .emergencyOff p tag => Sys2Proof.Machine.execEmergencyOff p tag s
  | .safeExit p tag => Sys2Proof.Machine.execSafeExit p tag s
  | .powerState p tag => Sys2Proof.Machine.execPowerState p tag s
  | .testModeEnter p tag => Sys2Proof.Machine.execTestModeEnter p tag s
  | .testModeLeave p tag => Sys2Proof.Machine.execTestModeLeave p tag s
  | .paramGet p tag => Sys2Proof.Machine.execParamGet p tag s
  | .paramSet p tag => Sys2Proof.Machine.execParamSet p tag s
  | .paramCommit p tag bad => Sys2Proof.Machine.execParamCommit p tag bad s
  | .chgStart p tag => Sys2Proof.Machine.execChgStart p tag s
  | .chgStop p tag => Sys2Proof.Machine.execChgStop p tag s
  | .railOn p tag => Sys2Proof.Machine.execRailOn p tag s
  | .railOff p tag => Sys2Proof.Machine.execRailOff p tag s
  | .groupUp p tag => Sys2Proof.Machine.execGroupUp p tag s
  | .groupDown p tag => Sys2Proof.Machine.execGroupDown p tag s
  | .marginSet p tag => Sys2Proof.Machine.execMarginSet p tag s
  | .estRead p tag => Sys2Proof.Machine.execEstRead p tag s
  | .caddyRead p tag => Sys2Proof.Machine.execCaddyRead p tag s
  | .testStart p tag => Sys2Proof.Machine.execTestStart p tag s
  | .testAbort p tag => Sys2Proof.Machine.execTestAbort p tag s
  | .testLogRead p tag => Sys2Proof.Machine.execTestLogRead p tag s
  | .estLearnReset p tag => Sys2Proof.Machine.execEstLearnReset p tag s
  | .gaugeStatus p tag => Sys2Proof.Machine.execGaugeStatus p tag s
  | .gaugeCapacity p tag => Sys2Proof.Machine.execGaugeCapacity p tag s
  | .gaugeTimes p tag => Sys2Proof.Machine.execGaugeTimes p tag s
  | .captureArm p tag => Sys2Proof.Machine.execCaptureArm p tag s
  | .captureDisarm p tag => Sys2Proof.Machine.execCaptureDisarm p tag s
  | .captureStatus p tag => Sys2Proof.Machine.execCaptureStatus p tag s
  | .captureRead p tag => Sys2Proof.Machine.execCaptureRead p tag s
  | .acqTrigger p tag => Sys2Proof.Machine.execAcqTrigger p tag s
  | .acqRead p tag => Sys2Proof.Machine.execAcqRead p tag s
  | .pdStatus p tag => Sys2Proof.Machine.execPdStatus p tag s
  | .pdRestart p tag => Sys2Proof.Machine.execPdRestart p tag s
  | .pdPortReset p tag => Sys2Proof.Machine.execPdPortReset p tag s
  | .faultRead p tag => Sys2Proof.Machine.execFaultRead p tag s
  | .faultClear p tag => Sys2Proof.Machine.execFaultClear p tag s
  | .faultLogRead p tag => Sys2Proof.Machine.execFaultLogRead p tag s
  | .faultInject p tag => Sys2Proof.Machine.execFaultInject p tag s
  | .eventInject p tag => Sys2Proof.Machine.execEventInject p tag s
  | .eventRead p tag => Sys2Proof.Machine.execEventRead p tag s
  | .wdgRead p tag => Sys2Proof.Machine.execWdgRead p tag s
  | .fwWriteErase p tag => Sys2Proof.Machine.execFwWriteErase p tag s
  | .fwWriteProgram p tag => Sys2Proof.Machine.execFwWriteProgram p tag s
  | .fwActivateBank p tag f => Sys2Proof.Machine.execFwActivateBank p tag f s
  | .fwActivatePdSlot p tag f => Sys2Proof.Machine.execFwActivatePdSlot p tag f s
  | .fwStatus p tag => Sys2Proof.Machine.execFwStatus p tag s
  | .otpRead p tag => Sys2Proof.Machine.execOtpRead p tag s
  | .otpProgram p tag h => Sys2Proof.Machine.execOtpProgram p tag h s
  | .otpFinalise p tag h => Sys2Proof.Machine.execOtpFinalise p tag h s
  | .lcAdvance p tag h => Sys2Proof.Machine.execLcAdvance p tag h s
  | .nvmLockPage p tag h => Sys2Proof.Machine.execNvmLockPage p tag h s
  | .nvmIdRead p tag => Sys2Proof.Machine.execNvmIdRead p tag s
  | .nvmIdWrite p tag => Sys2Proof.Machine.execNvmIdWrite p tag s
  | .evlogRead p tag => Sys2Proof.Machine.execEvlogRead p tag s
  | .sqDoorbell p => Sys2Proof.Machine.execSqDoorbell p s
  | .sessionReset p key => Sys2Proof.Machine.execSessionReset p key s
  | .cqHeadWrite p v => Sys2Proof.Machine.execCqHeadWrite p v s
  | .evqHeadWrite p v => Sys2Proof.Machine.execEvqHeadWrite p v s
  | .sqTailWrite p v => Sys2Proof.Machine.execSqTailWrite p v s
  | .windowRegisterWrite p addr ws => Sys2Proof.Machine.execWindowRegisterWrite p addr ws s
  | .spiWriteDiscard p e => Sys2Proof.Machine.execSpiWriteDiscard p e s
  | .spiReadCheckFail p e addr len => Sys2Proof.Machine.execSpiReadCheckFail p e addr len s
  | .i2cWriteDiscard e => Sys2Proof.Machine.execI2cWriteDiscard e s
  | .smbusTimeout => Sys2Proof.Machine.execSmbusTimeout s
  | .alertResponseRead => Sys2Proof.Machine.execAlertResponseRead s
  | .rtcSubsecRead p => Sys2Proof.Machine.execRtcSubsecRead p s
  | .rtcYearRead p => Sys2Proof.Machine.execRtcYearRead p s
  | .rtcFreezeTimeout p => Sys2Proof.Machine.execRtcFreezeTimeout p s
  | .rtcTimeWrite p addr ws => Sys2Proof.Machine.execRtcTimeWrite p addr ws s
  | .rtcHoldTimeout => Sys2Proof.Machine.execRtcHoldTimeout s
  | .rtcAlarmWrite p n v => Sys2Proof.Machine.execRtcAlarmWrite p n v s
  | .dbgHaltWrite p v => Sys2Proof.Machine.execDbgHaltWrite p v s
  | .porAssert why => Sys2Proof.Machine.execPorAssert why s
  | .porRelease resetLow straps sup => Sys2Proof.Machine.execPorRelease resetLow straps sup s
  | .aonSupplyLoss => Sys2Proof.Machine.execAonSupplyLoss s
  | .resetNShort => Sys2Proof.Machine.execResetNShort s
  | .resetNLong => Sys2Proof.Machine.execResetNLong s
  | .rstnPdMaxExpiry => Sys2Proof.Machine.execRstnPdMaxExpiry s
  | .resetNReleaseHeld => Sys2Proof.Machine.execResetNReleaseHeld s
  | .chipReset cause => Sys2Proof.Machine.execChipReset cause s
  | .cmdRestart => Sys2Proof.Machine.execCmdRestart s
  | .blockReset b => Sys2Proof.Machine.execBlockReset b s
  | .otpDigestCheck => Sys2Proof.Machine.execOtpDigestCheck s
  | .earlyServiceOpen => Sys2Proof.Machine.execEarlyServiceOpen s
  | .nvmRecall bad => Sys2Proof.Machine.execNvmRecall bad s
  | .secureBoot f => Sys2Proof.Machine.execSecureBoot f s
  | .configLoad serial img => Sys2Proof.Machine.execConfigLoad serial img s
  | .creditReallocation => Sys2Proof.Machine.execCreditReallocation s
  | .fullService => Sys2Proof.Machine.execFullService s
  | .autoStart => Sys2Proof.Machine.execAutoStart s
  | .xtal32Confirm => Sys2Proof.Machine.execXtal32Confirm s
  | .clkmonSysFail xtalFailed => Sys2Proof.Machine.execClkmonSysFail xtalFailed s
  | .clkmonAcqFail => Sys2Proof.Machine.execClkmonAcqFail s
  | .frameClockLoss => Sys2Proof.Machine.execFrameClockLoss s
  | .xtal32Fail => Sys2Proof.Machine.execXtal32Fail s
  | .cdcOverrun x => Sys2Proof.Machine.execCdcOverrun x s
  | .dozeEntry nextTaskUs => Sys2Proof.Machine.execDozeEntry nextTaskUs s
  | .dozeWake => Sys2Proof.Machine.execDozeWake s
  | .deepSleepWake w => Sys2Proof.Machine.execDeepSleepWake w s
  | .shipWake w => Sys2Proof.Machine.execShipWake w s
  | .earlySample vin vlink vbat die => Sys2Proof.Machine.execEarlySample vin vlink vbat die s
  | .draftBeat overrun => Sys2Proof.Machine.execDraftBeat overrun s
  | .conservationAudit => Sys2Proof.Machine.execConservationAudit s
  | .cqWaitPost p => Sys2Proof.Machine.execCqWaitPost p s
  | .srcWindowEntry src mv => Sys2Proof.Machine.execSrcWindowEntry src mv s
  | .srcWindowExit src mv => Sys2Proof.Machine.execSrcWindowExit src mv s
  | .srcQuarantineEnd src => Sys2Proof.Machine.execSrcQuarantineEnd src s
  | .srcidRead d c1 c2 => Sys2Proof.Machine.execSrcidRead d c1 c2 s
  | .srcQualified src => Sys2Proof.Machine.execSrcQualified src s
  | .inputOvp d mv => Sys2Proof.Machine.execInputOvp d mv s
  | .standbyTakeover leaving => Sys2Proof.Machine.execStandbyTakeover leaving s
  | .handoverTrip vlink vbat => Sys2Proof.Machine.execHandoverTrip vlink vbat s
  | .hoMaxExpiry => Sys2Proof.Machine.execHoMaxExpiry s
  | .idealDiodeTurnOn g drop => Sys2Proof.Machine.execIdealDiodeTurnOn g drop s
  | .idealDiodeReverseOff g drop => Sys2Proof.Machine.execIdealDiodeReverseOff g drop s
  | .rampStep src demandMa => Sys2Proof.Machine.execRampStep src demandMa s
  | .supplementStart excessMa => Sys2Proof.Machine.execSupplementStart excessMa s
  | .sourceOverload => Sys2Proof.Machine.execSourceOverload s
  | .supplementEnd => Sys2Proof.Machine.execSupplementEnd s
  | .srcLimiting ix ma => Sys2Proof.Machine.execSrcLimiting ix ma s
  | .srcLimitExpired d => Sys2Proof.Machine.execSrcLimitExpired d s
  | .chgStartCheck vbatAvg => Sys2Proof.Machine.execChgStartCheck vbatAvg s
  | .chgTick obs => Sys2Proof.Machine.execChgTick obs s
  | .chargeTimeout => Sys2Proof.Machine.execChargeTimeout s
  | .chgTermination => Sys2Proof.Machine.execChgTermination s
  | .doneRecharge vbat => Sys2Proof.Machine.execDoneRecharge vbat s
  | .floatRebulk iAvg => Sys2Proof.Machine.execFloatRebulk iAvg s
  | .floatRecompute => Sys2Proof.Machine.execFloatRecompute s
  | .batpresAbsent => Sys2Proof.Machine.execBatpresAbsent s
  | .batteryOvTrip vbat => Sys2Proof.Machine.execBatteryOvTrip vbat s
  | .batteryPresent vbat absentS => Sys2Proof.Machine.execBatteryPresent vbat absentS s
  | .ovAbsenceExpiry => Sys2Proof.Machine.execOvAbsenceExpiry s
  | .comparatorTrip c imon sensed vlink => Sys2Proof.Machine.execComparatorTrip c imon sensed vlink s
  | .onTimeEnd k => Sys2Proof.Machine.execOnTimeEnd k s
  | .peakOverCurrent k ma => Sys2Proof.Machine.execPeakOverCurrent k ma s
  | .negativeCurrent k ma => Sys2Proof.Machine.execNegativeCurrent k ma s
  | .railOv c mv => Sys2Proof.Machine.execRailOv c mv s
  | .railUv c mv => Sys2Proof.Machine.execRailUv c mv s
  | .railUvClear c mv => Sys2Proof.Machine.execRailUvClear c mv s
  | .shortDetect c => Sys2Proof.Machine.execShortDetect c s
  | .hiccupOffExpiry c => Sys2Proof.Machine.execHiccupOffExpiry c s
  | .hiccupCountReset c => Sys2Proof.Machine.execHiccupCountReset c s
  | .softstartComplete r => Sys2Proof.Machine.execSoftstartComplete r s
  | .dischargeComplete r mv => Sys2Proof.Machine.execDischargeComplete r mv s
  | .dischTimeout r => Sys2Proof.Machine.execDischTimeout r s
  | .enableHeldStart r mv => Sys2Proof.Machine.execEnableHeldStart r mv s
  | .dischVlinkCrossing vlink => Sys2Proof.Machine.execDischVlinkCrossing vlink s
  | .senseOpen c deltaMv => Sys2Proof.Machine.execSenseOpen c deltaMv s
  | .vinLow c vlink => Sys2Proof.Machine.execVinLow c vlink s
  | .vinRecovery c vlink => Sys2Proof.Machine.execVinRecovery c vlink s
  | .phaseLost k why => Sys2Proof.Machine.execPhaseLost k why s
  | .spareIn c => Sys2Proof.Machine.execSpareIn c s
  | .spareLost k imonMv => Sys2Proof.Machine.execSpareLost k imonMv s
  | .sharingUpdate c avg => Sys2Proof.Machine.execSharingUpdate c avg s
  | .currentLimitClear c => Sys2Proof.Machine.execCurrentLimitClear c s
  | .railOverload c => Sys2Proof.Machine.execRailOverload c s
  | .pgChange c mv => Sys2Proof.Machine.execPgChange c mv s
  | .phHealth k m => Sys2Proof.Machine.execPhHealth k m s
  | .ldoUv n mv => Sys2Proof.Machine.execLdoUv n mv s
  | .ldoOverload n => Sys2Proof.Machine.execLdoOverload n s
  | .marginWindowNarrow c => Sys2Proof.Machine.execMarginWindowNarrow c s
  | .seqTick outs => Sys2Proof.Machine.execSeqTick outs s
  | .waitTimeEnd g => Sys2Proof.Machine.execWaitTimeEnd g s
  | .seqStepTimeout g => Sys2Proof.Machine.execSeqStepTimeout g s
  | .backoffExpiry g => Sys2Proof.Machine.execBackoffExpiry g s
  | .railStuck r => Sys2Proof.Machine.execRailStuck r s
  | .heldEnableTimeout r => Sys2Proof.Machine.execHeldEnableTimeout r s
  | .enOffWaitExpiry n => Sys2Proof.Machine.execEnOffWaitExpiry n s
  | .monComparatorSet m which => Sys2Proof.Machine.execMonComparatorSet m which s
  | .monComparatorClear m which => Sys2Proof.Machine.execMonComparatorClear m which s
  | .monEvaluationStart m => Sys2Proof.Machine.execMonEvaluationStart m s
  | .monThresholdWrite m => Sys2Proof.Machine.execMonThresholdWrite m s
  | .ledgerSample code => Sys2Proof.Machine.execLedgerSample code s
  | .ledgerRead => Sys2Proof.Machine.execLedgerRead s
  | .selfDischargeAccrue => Sys2Proof.Machine.execSelfDischargeAccrue s
  | .selfPost => Sys2Proof.Machine.execSelfPost s
  | .modelUpdate vbat ix => Sys2Proof.Machine.execModelUpdate vbat ix s
  | .naturalStep n => Sys2Proof.Machine.execNaturalStep n s
  | .fitComplete f => Sys2Proof.Machine.execFitComplete f s
  | .probeDue ix => Sys2Proof.Machine.execProbeDue ix s
  | .probeStepEnd => Sys2Proof.Machine.execProbeStepEnd s
  | .probeHoldRelease why => Sys2Proof.Machine.execProbeHoldRelease why s
  | .probeCancel why => Sys2Proof.Machine.execProbeCancel why s
  | .tablePour k => Sys2Proof.Machine.execTablePour k s
  | .estSecondUpdate load => Sys2Proof.Machine.execEstSecondUpdate load s
  | .driftRebase => Sys2Proof.Machine.execDriftRebase s
  | .directionChange d => Sys2Proof.Machine.execDirectionChange d s
  | .cutoffSet vbat => Sys2Proof.Machine.execCutoffSet vbat s
  | .cutoffClear => Sys2Proof.Machine.execCutoffClear s
  | .cutoffWithholdExpiry => Sys2Proof.Machine.execCutoffWithholdExpiry s
  | .qfullApply => Sys2Proof.Machine.execQfullApply s
  | .testDue t => Sys2Proof.Machine.execTestDue t s
  | .testEnd => Sys2Proof.Machine.execTestEnd s
  | .roundStart => Sys2Proof.Machine.execRoundStart s
  | .roundResult r => Sys2Proof.Machine.execRoundResult r s
  | .roundComplete elapsedUs => Sys2Proof.Machine.execRoundComplete elapsedUs s
  | .fastThermalRead rs => Sys2Proof.Machine.execFastThermalRead rs s
  | .crossingTrip c => Sys2Proof.Machine.execCrossingTrip c s
  | .sliceGrant slot => Sys2Proof.Machine.execSliceGrant slot s
  | .acqTimerFire t => Sys2Proof.Machine.execAcqTimerFire t s
  | .captureDone slot data => Sys2Proof.Machine.execCaptureDone slot data s
  | .acqFifo slot data => Sys2Proof.Machine.execAcqFifo slot data s
  | .ccRearm c => Sys2Proof.Machine.execCcRearm c s
  | .refSettled => Sys2Proof.Machine.execRefSettled s
  | .refinOutOfWindow => Sys2Proof.Machine.execRefinOutOfWindow s
  | .correctionPeriod coef => Sys2Proof.Machine.execCorrectionPeriod coef s
  | .coefPour => Sys2Proof.Machine.execCoefPour s
  | .corrStale => Sys2Proof.Machine.execCorrStale s
  | .sensorHealthy src => Sys2Proof.Machine.execSensorHealthy src s
  | .dieTrip mask => Sys2Proof.Machine.execDieTrip mask s
  | .thresholdRawWrite src => Sys2Proof.Machine.execThresholdRawWrite src s
  | .drpToggle u => Sys2Proof.Machine.execDrpToggle u s
  | .typecAttach u a => Sys2Proof.Machine.execTypecAttach u a s
  | .typecDetach u => Sys2Proof.Machine.execTypecDetach u s
  | .rpChange u rp => Sys2Proof.Machine.execRpChange u rp s
  | .sourcePairOn u vbus => Sys2Proof.Machine.execSourcePairOn u vbus s
  | .vbusDischarged u vbus => Sys2Proof.Machine.execVbusDischarged u vbus s
  | .pdRequestReceived u pos ma => Sys2Proof.Machine.execPdRequestReceived u pos ma s
  | .psRdy u vbus => Sys2Proof.Machine.execPsRdy u vbus s
  | .sourceCapsReceived u pdos epr => Sys2Proof.Machine.execSourceCapsReceived u pdos epr s
  | .ppsRerequest u => Sys2Proof.Machine.execPpsRerequest u s
  | .headroomWithdraw u pos vlink => Sys2Proof.Machine.execHeadroomWithdraw u pos vlink s
  | .headroomReoffer u pos vlink => Sys2Proof.Machine.execHeadroomReoffer u pos vlink s
  | .senderResponseTimeout u => Sys2Proof.Machine.execSenderResponseTimeout u s
  | .contractVlinkLow u vlink => Sys2Proof.Machine.execContractVlinkLow u vlink s
  | .hardReset u sent => Sys2Proof.Machine.execHardReset u sent s
  | .errorRecoveryEnd u => Sys2Proof.Machine.execErrorRecoveryEnd u s
  | .prSwap u ownToo => Sys2Proof.Machine.execPrSwap u ownToo s
  | .drSwap u ownToo => Sys2Proof.Machine.execDrSwap u ownToo s
  | .vconnSwap u ownToo => Sys2Proof.Machine.execVconnSwap u ownToo s
  | .cableDiscovery u r => Sys2Proof.Machine.execCableDiscovery u r s
  | .vdmRequest u v => Sys2Proof.Machine.execVdmRequest u v s
  | .pdOvp u vbus => Sys2Proof.Machine.execPdOvp u vbus s
  | .pdOcp u ma => Sys2Proof.Machine.execPdOcp u ma s
  | .pdReverse u sink => Sys2Proof.Machine.execPdReverse u sink s
  | .pdVconnOc u => Sys2Proof.Machine.execPdVconnOc u s
  | .sinkLimiterExpiry u => Sys2Proof.Machine.execSinkLimiterExpiry u s
  | .pdCoreRestart vbusLow => Sys2Proof.Machine.execPdCoreRestart vbusLow s
  | .pickIntake src kind detail => Sys2Proof.Machine.execPickIntake src kind detail s
  | .pickStore => Sys2Proof.Machine.execPickStore s
  | .eicEdge n => Sys2Proof.Machine.execEicEdge n s
  | .eicDeliver n => Sys2Proof.Machine.execEicDeliver n s
  | .eicClaim t => Sys2Proof.Machine.execEicClaim t s
  | .eicComplete t n => Sys2Proof.Machine.execEicComplete t n s
  | .stormAutoClear => Sys2Proof.Machine.execStormAutoClear s
  | .postedEvent => Sys2Proof.Machine.execPostedEvent s
  | .pickDropped => Sys2Proof.Machine.execPickDropped s
  | .gpioEdge n => Sys2Proof.Machine.execGpioEdge n s
  | .mainsBack n => Sys2Proof.Machine.execMainsBack n s
  | .fireAlarmClear n => Sys2Proof.Machine.execFireAlarmClear n s
  | .wdgCheckIn w thread cycle pc => Sys2Proof.Machine.execWdgCheckIn w thread cycle pc s
  | .wdgService w cycle reg pc => Sys2Proof.Machine.execWdgService w cycle reg pc s
  | .wdgKeepalive cycle pc => Sys2Proof.Machine.execWdgKeepalive cycle pc s
  | .wdgWindowClose w pc => Sys2Proof.Machine.execWdgWindowClose w pc s
  | .wdgBootWindowClose w pc => Sys2Proof.Machine.execWdgBootWindowClose w pc s
  | .strikeClear w => Sys2Proof.Machine.execStrikeClear w s
  | .powerFailTrigger => Sys2Proof.Machine.execPowerFailTrigger s
  | .kettleSaveComplete bad => Sys2Proof.Machine.execKettleSaveComplete bad s
  | .powerReturn => Sys2Proof.Machine.execPowerReturn s
  | .kettleReady => Sys2Proof.Machine.execKettleReady s
  | .kettleCheck droopMv => Sys2Proof.Machine.execKettleCheck droopMv s
  | .kettleLow why => Sys2Proof.Machine.execKettleLow why s
  | .nvmLogWrite bad => Sys2Proof.Machine.execNvmLogWrite bad s
  | .learnedDataWrite bad => Sys2Proof.Machine.execLearnedDataWrite bad s
  | .trialConfirm h => Sys2Proof.Machine.execTrialConfirm h s
  | .pdTrialConfirm h => Sys2Proof.Machine.execPdTrialConfirm h s
  | .rollbackBurnRetry h => Sys2Proof.Machine.execRollbackBurnRetry h s
  | .rtcSecond => Sys2Proof.Machine.execRtcSecond s
  | .rcCorrection deltaCycles => Sys2Proof.Machine.execRcCorrection deltaCycles s
  | .rtcLockoutStart why => Sys2Proof.Machine.execRtcLockoutStart why s
  | .rtcLockoutEnd why => Sys2Proof.Machine.execRtcLockoutEnd why s
  | .sysPllLock => Sys2Proof.Machine.execSysPllLock s
  | .acqPllLock => Sys2Proof.Machine.execAcqPllLock s
  | .memberReady k => Sys2Proof.Machine.execMemberReady k s
  | .offComparatorChange m below => Sys2Proof.Machine.execOffComparatorChange m below s
  | .slewComplete c => Sys2Proof.Machine.execSlewComplete c s
  | .declaredWaitExpiry p tag => Sys2Proof.Machine.execDeclaredWaitExpiry p tag s
  | .ccHysteresisRearm c => Sys2Proof.Machine.execCcHysteresisRearm c s
  | .pdProtocolTimer u t => Sys2Proof.Machine.execPdProtocolTimer u t s
  | .pdMessageReceived u m => Sys2Proof.Machine.execPdMessageReceived u m s
  | .converterModeChange vlink vbat => Sys2Proof.Machine.execConverterModeChange vlink vbat s
  | .i2cStart => Sys2Proof.Machine.execI2cStart s
  | .bkupLow low => Sys2Proof.Machine.execBkupLow low s
  | .digestPatternToggle => Sys2Proof.Machine.execDigestPatternToggle s

end Sys2Proof.Machine
end

