-- ==== Sys2Proof/Machine/Window.lean ====
section
/-! DEFINITION. What a host port reads at each address of its register window (R10, R12, R70, R79, R80, R51, R423, R434, R435).
Reading changes nothing here; the reads that do (RTC_SUBSEC, RTC_YEAR) are rows of their own. -/

namespace Sys2Proof.Machine

/-- HIF_SESSION.STATE codes (R80). -/
def SessState.code : SessState → Nat
  | .closed => 0
  | .resetting => 1
  | .ready => 2
  | .opened => 3

/-- STEP: OTP word 0x000 [5:0] (R80). -/
def stepField (s : State) : Nat := bitsOf (otpShadow 0x000 s) 0 6

/-- The interface control registers, 0x0000 to 0x0030 (R80); write-only fields read 0 (R12). -/
def readHifReg (p : Port) (a : Nat) (s : State) : W :=
  let q := s.hif.port p
  if a = 0x00 then w32 (0x0960 * 65536 + portNo p * 16384 + stepField s * 256 + 1)
  else if a = 0x04 then hifStatus p s
  else if a = 0x08 then w32 (q.sess.code * 4096 + q.snum.toNat)
  else if a = 0x0C then w32 (q.alloc * 16777216 + inUse p s * 65536 + q.avail * 256)
  else if a = 0x10 then q.sqTail.setWidth 32
  else if a = 0x14 then w32 (q.sqHead.toNat * 65536)
  else if a = 0x18 then q.cqHead.setWidth 32
  else if a = 0x1C then q.cqTail.setWidth 32
  else if a = 0x20 then q.evqHead.setWidth 32
  else if a = 0x24 then w32 (q.dropped * 256 + q.evqTail.toNat)
  else if a = 0x28 then stickySummary s
  else if a = 0x2C then q.irqMask.setWidth 32
  else if a = 0x30 then rstCause s
  else 0

/-- ID_HORTO: MAJOR 0x04 and MINOR 0x02 of the release that the manual describes, and BUILD, which it does not fix (R2,
log entry 6); 0 until a Horto image runs. -/
def hortoId (s : State) : W := if s.sys.hortoRuns then 0x0402#16 ++ Config.hortoBuild else 0

/-- The identity registers (R80). -/
def readId (a : Nat) (s : State) : W :=
  if a = 0x0140 then w32 (0x0960 * 65536 + stepField s * 256 + bitsOf (otpShadow 0x1A0 s) 0 5)
  else if a = 0x0144 then otpShadow 0x080 s
  else if a = 0x0148 then otpShadow 0x081 s
  else if a = 0x014C then hortoId s
  else if a = 0x0150 then s.sys.pdfw
  else if a = 0x0154 then s.sys.cfgSerial
  else if a = 0x0158 then
    w32 (512 * b01 (s.sys.bootErr == 2) + 256 * b01 (s.sys.boot.bootDone && s.store.fw.bankB) + hortoCounter s % 256)
  else 0

/-- The early status registers (R51). -/
def readEarly (a : Nat) (s : State) : W :=
  if a = 0x0160 then s.sys.earlyPwr
  else if a = 0x0164 then earlySup s
  else if a = 0x0168 then monOk s
  else if a = 0x016C then earlyStage s
  else 0

/-- The debug window, where it is permitted; full JTAG is permitted in the same states (R421, R423). -/
def readDebug (a : Nat) (s : State) : W :=
  if !debugOpen s then 0
  else if a = 0x0180 then w32 (bitsOf (otpShadow 0x1A0 s) 0 5 * 16777216 + 1)
  else if a = 0x0184 then s.sys.dbgHalt.setWidth 32
  else 0

/-- A time field of a calendar: 0x0104 SEC to 0x011C YEAR (R434). -/
def Calendar.field (c : Calendar) (a : Nat) : Nat :=
  if a = 0x0104 then c.sec
  else if a = 0x0108 then c.min
  else if a = 0x010C then c.hour
  else if a = 0x0110 then c.day
  else if a = 0x0114 then c.wday
  else if a = 0x0118 then c.month
  else c.year

/-- RTC_STATUS as a port reads it (R434). -/
def Rtc.status (r : Rtc) (p : HPort) : W :=
  w32 (bitsNat [r.valid, r.rc, r.onBkup, r.locked, r.bkupLow, false, false, false, r.lockoutWr, r.wrErr, r.setTimeout,
    (r.port p).shadow.isSome, false, false, false, false, r.alm0F, r.alm1F])

/-- An alarm register (R434). -/
def Rtc.almWord (r : Rtc) (n : Fin 2) : W := (BitVec.ofBool (r.own n)) ++ (if n = 0 then r.alm0 else r.alm1)

/-- The RTC block as a port reads it (R434, R435): the time fields come from its shadows while they are frozen. -/
def readRtc (p : HPort) (a : Nat) (s : State) : W :=
  let r := s.store.rtc
  if a = 0x0100 then r.subsec.setWidth 32
  else if a < 0x0120 then w32 (((r.port p).shadow.getD r.cal).field a)
  else if a = 0x0120 then r.ppm.setWidth 32
  else if a = 0x0124 then r.status p
  else if a = 0x0128 then r.almWord 0
  else if a = 0x012C then r.almWord 1
  else 0

/-- The word that a host port reads at a word address of its window (R79); reserved addresses read 0. -/
def readWindow (p : HPort) (a : Nat) (s : State) : W :=
  let q := s.hif.port (hport p)
  if a < 0x0034 then readHifReg (hport p) a s
  else if a < 0x0100 then 0
  else if a < 0x0140 then readRtc p a s
  else if a < 0x0160 then readId a s
  else if a < 0x0170 then readEarly a s
  else if a < 0x0180 then 0
  else if a < 0x0200 then readDebug a s
  else if a < 0x1000 then 0
  else if a < 0x2000 then Memory.readW .queue q.sqMem (a - 0x1000)
  else if a < 0x3000 then Memory.readW .queue q.cqMem (a - 0x2000)
  else if a < 0x3400 then Memory.readW .queue q.evqMem (a - 0x3000)
  else 0

/-- What a host port drives for a read of a word address: nothing while its interface does not respond, so that MISO stays
high-impedance or the I2C address is not acknowledged (R47, R49); otherwise the word of the window. -/
def portReads (p : HPort) (a : Nat) (s : State) : Option W := if hifOpen s then some (readWindow p a s) else none

end Sys2Proof.Machine
end

