-- ==== Sys2Proof/Machine/Wire.lean ====
section
/-! DEFINITION. The bytes of a host transaction: how a SPI or I2C write is formed and which row it is, and what the part drives for a
read (R72 to R77). -/

namespace Sys2Proof.Machine

/-! ### SPI (R72 to R74) -/

/-- The bytes of a SPI write of `ws` at `addr` (R72). -/
def spiWriteBytes (addr : BitVec 16) (ws : List W) : List Byte :=
  let b := spiHeader 0x02 addr (BitVec.ofNat 8 ws.length) ++ wordsLe ws
  b ++ crcBytes (crc16 b)

/-- The bytes a host drives for a SPI read of `len` words at `addr`, before the turnaround (R72). -/
def spiReadBytes (addr : BitVec 16) (len : BitVec 8) : List Byte :=
  let b := spiHeader 0x03 addr len
  b ++ crcBytes (crc16 b)

/-- The words that bytes spell, least-significant byte first. -/
def bytesWords : List Byte → List W
  | a :: b :: c :: d :: l => (d ++ c ++ b ++ a) :: bytesWords l
  | _ => []

/-- The row that the payload of a SPI write is: discarded for its count or its CRC, or a window write (R73, R74). -/
def spiWriteRow (p : SpiPort) (addr : BitVec 16) (len : BitVec 8) (pay : List Byte) : Sys2Proof.Instr :=
  let n := 4 * len.toNat
  if pay.length ≠ n + 2 then .spiWriteDiscard p .badCount
  else if pay.drop n ≠ crcBytes (crc16 (spiHeader 0x02 addr len ++ pay.take n)) then .spiWriteDiscard p .badCrc
  else .windowRegisterWrite (match p with | .spia => .spia | .spib => .spib) addr (bytesWords (pay.take n))

/-- The row that the bytes of a SPI transaction are; `none` where they are none: a read that passes its checks, or one ended early,
which has no effect (R74, R75). A misaligned or unmapped write address is judged by the window write. -/
def spiRow (p : SpiPort) : List Byte → Option Sys2Proof.Instr
  | c :: hi :: lo :: len :: pay =>
    if c ≠ 0x02 ∧ c ≠ 0x03 then some (.spiWriteDiscard p .badCommand)
    else if len = 0 ∨ 64 < len.toNat then some (.spiWriteDiscard p .badLen)
    else if c = 0x02 then some (spiWriteRow p (hi ++ lo) len pay)
    else match pay with
      | a :: b :: _ =>
        if [a, b] ≠ crcBytes (crc16 (spiHeader 0x03 (hi ++ lo) len)) then some (.spiReadCheckFail p .badCrc (hi ++ lo) len)
        else if (hi ++ lo).toNat % 4 ≠ 0 then some (.spiReadCheckFail p .badAddr (hi ++ lo) len)
        else none
      | _ => none
  | c :: _ => if c = 0x03 then none else some (.spiWriteDiscard p (if c = 0x02 then .badCount else .badCommand))
  | [] => none

/-- What a SPI port drives on MISO for a read that passes its checks: data and trailer; words of unmapped addresses read 0 under a
correct trailer; nothing while the interface does not respond (R72, R74). -/
def misoBytes (p : SpiPort) (addr : BitVec 16) (len : BitVec 8) (s : State) : Option (List Byte) :=
  if !hifOpen s then none
  else
    let q : HPort := match p with | .spia => .spia | .spib => .spib
    let data := wordsLe ((burstAddrs addr.toNat len.toNat).map (fun a => readWindow q a s))
    some (data ++ crcBytes (crc16 (spiHeader 0x03 addr len ++ data)))

/-! ### I2C (R76, R77) -/

/-- The address byte of a transfer; `r`: R/W is read. -/
def i2cAddrByte (r : Bool) (s : State) : Byte := (i2cAddress s) ++ (BitVec.ofBool r)

/-- The row that an I2C write transfer is: pointer, data bytes and, with HIF.I2C_PEC in force, a PEC over the whole transfer (R77). A
transfer without data bytes only sets the pointer. -/
def i2cWriteRow (hi lo : Byte) (l : List Byte) (s : State) : Sys2Proof.Instr :=
  let pecOn := s.hif.pecOn && !l.isEmpty
  let data := if pecOn then l.dropLast else l
  if l.isEmpty then .windowRegisterWrite .i2c (hi ++ lo) []
  else if pecOn && l.getLast? ≠ some (pec ([i2cAddrByte false s, hi, lo] ++ data)) then .i2cWriteDiscard .pec
  else if (hi ++ lo).toNat % 4 ≠ 0 then .i2cWriteDiscard .align
  else if data.length % 4 ≠ 0 ∨ data.length < 4 ∨ 256 < data.length then .i2cWriteDiscard .length
  else .windowRegisterWrite .i2c (hi ++ lo) (bytesWords data)

/-- Byte `k` of an I2C read from address `a`: 0xFF beyond 256 bytes (R77). -/
def i2cByte (a k : Nat) (s : State) : Byte :=
  if 256 ≤ k then 0xFF else (readWindow .i2c ((a + k) / 4 * 4) s).extractLsb' (8 * ((a + k) % 4)) 8

/-- What the target drives for a read transfer of `n` data bytes from its pointer: the bytes, and with HIF.I2C_PEC in force a PEC over
the write of the pointer and the read (R76, R77). -/
def i2cReadBytes (n : Nat) (s : State) : List Byte :=
  let a := s.hif.i2cPtr
  let data := (List.range n).map (fun k => i2cByte a.toNat k s)
  if s.hif.pecOn then
    data ++ [pec ([i2cAddrByte false s, a.extractLsb' 8 8, a.extractLsb' 0 8, i2cAddrByte true s] ++ data)]
  else data

/-- The state after an I2C read transfer of `n` data bytes: only the pointer moves (R75, R76). The reads of RTC_SUBSEC and RTC_YEAR are
rows besides. -/
def i2cAfterRead (n : Nat) (s : State) : State := readPast .i2c (s.hif.i2cPtr.toNat + n) s

end Sys2Proof.Machine
end

