-- ==== Sys2Proof/WellFormed.lean ====
section
/-! DEFINITION. Which commands are well formed: the limits that the manual sets on a row's operands and that their types do not say.
Meanings are total and need none of these; a term outside them stands for no command of the part. -/

namespace Sys2Proof

/-- A time write names fields of 0x0104 to 0x011C, word by word (R434, R436). -/
def rtcTimeOk (addr n : Nat) : Bool := addr % 4 == 0 && decide (0x0104 ≤ addr ∧ 1 ≤ n ∧ addr + 4 * n ≤ 0x0120)

/-- The EIC source is not a reserved one (R472). -/
def eicSourceOk (n : Nat) : Bool :=
  !((139 ≤ n && n ≤ 143) || (156 ≤ n && n ≤ 159) || (172 ≤ n && n ≤ 175) || n == 203 || n == 210 || n == 211 ||
    (228 ≤ n && n ≤ 231) || 248 ≤ n)

/-- A page that a write of an area finds bad is not the identity page (R404). -/
def areaPageOk (bad : Option (BitVec 8)) : Bool := bad != some 0

/-- The chip resets that begin with another row and take hold with CHIP_RESET; RESET_N, the clock monitor and the exit from DEEP SLEEP
have rows of their own (R56, R59, R68). -/
def rowReset (c : ResetCause) : Bool :=
  match c with
  | .rstnShort => false
  | .clkmon => false
  | .deepSleep => false
  | .heddle => true
  | .selvedge => true
  | .safLockstep => true
  | .fwActivate => true
  | .safeExit => true
  | .lcAdvance => true

/-- The operands lie in the manual's limits. -/
def Instr.wellFormed (i : Instr) : Bool :=
  match i with
  | .paramCommit _ _ bad => areaPageOk bad
  | .windowRegisterWrite _ _ ws => decide (ws.length ≤ 255)
  | .rtcTimeWrite _ addr ws => rtcTimeOk addr.toNat ws.length
  | .chipReset cause => rowReset cause
  | .nvmRecall bad => bad.all (fun p => decide (p < 256))
  | .configLoad _ img => img.all (fun e => decide (e.1 < 65536))
  | .cdcOverrun x => decide (1 ≤ x.toNat ∧ x.toNat ≤ 0x13)
  | .comparatorTrip _ imon _ _ => decide (imon.length ≤ 24)
  | .sharingUpdate _ avg => decide (avg.length ≤ 24)
  | .correctionPeriod coef => decide (coef.length = 16)
  | .sourceCapsReceived _ pdos _ => pdos.all (fun o => decide (1 ≤ o.pos ∧ o.pos ≤ 11))
  | .pickIntake src _ _ => decide (src.toNat ≤ 0x21F)
  | .eicEdge n => eicSourceOk n.toNat
  | .kettleSaveComplete bad => areaPageOk bad
  | .nvmLogWrite bad => areaPageOk bad
  | .learnedDataWrite bad => areaPageOk bad
  | .sessionOpen _ _ | .snapshot _ _ | .emergencyOff _ _ | .safeExit _ _ | .powerState _ _ | .testModeEnter _ _
  | .testModeLeave _ _ | .paramGet _ _ | .paramSet _ _ | .chgStart _ _ | .chgStop _ _ | .railOn _ _ | .railOff _ _
  | .groupUp _ _ | .groupDown _ _ | .marginSet _ _ | .estRead _ _ | .caddyRead _ _ | .testStart _ _ | .testAbort _ _
  | .testLogRead _ _ | .estLearnReset _ _ | .gaugeStatus _ _ | .gaugeCapacity _ _ | .gaugeTimes _ _ | .captureArm _ _
  | .captureDisarm _ _ | .captureStatus _ _ | .captureRead _ _ | .acqTrigger _ _ | .acqRead _ _ | .pdStatus _ _
  | .pdRestart _ _ | .pdPortReset _ _ | .faultRead _ _ | .faultClear _ _ | .faultLogRead _ _ | .faultInject _ _
  | .eventInject _ _ | .eventRead _ _ | .wdgRead _ _ | .fwWriteErase _ _ | .fwWriteProgram _ _ | .fwActivateBank _ _ _
  | .fwActivatePdSlot _ _ _ | .fwStatus _ _ | .otpRead _ _ | .otpProgram _ _ _ | .otpFinalise _ _ _ | .lcAdvance _ _ _
  | .nvmLockPage _ _ _ | .nvmIdRead _ _ | .nvmIdWrite _ _ | .evlogRead _ _ | .sqDoorbell _ | .sessionReset _ _
  | .cqHeadWrite _ _ | .evqHeadWrite _ _ | .sqTailWrite _ _ | .spiWriteDiscard _ _ | .spiReadCheckFail _ _ _ _
  | .i2cWriteDiscard _ | .smbusTimeout | .alertResponseRead | .rtcSubsecRead _ | .rtcYearRead _ | .rtcFreezeTimeout _
  | .rtcHoldTimeout | .rtcAlarmWrite _ _ _ | .dbgHaltWrite _ _ | .porAssert _ | .porRelease _ _ _ | .aonSupplyLoss
  | .resetNShort | .resetNLong | .rstnPdMaxExpiry | .resetNReleaseHeld | .cmdRestart | .blockReset _ | .otpDigestCheck
  | .earlyServiceOpen | .secureBoot _ | .creditReallocation | .fullService | .autoStart | .xtal32Confirm | .clkmonSysFail _
  | .clkmonAcqFail | .frameClockLoss | .xtal32Fail | .dozeEntry _ | .dozeWake | .deepSleepWake _ | .shipWake _
  | .earlySample _ _ _ _ | .draftBeat _ | .conservationAudit | .cqWaitPost _ | .srcWindowEntry _ _ | .srcWindowExit _ _
  | .srcQuarantineEnd _ | .srcidRead _ _ _ | .srcQualified _ | .inputOvp _ _ | .standbyTakeover _ | .handoverTrip _ _
  | .hoMaxExpiry | .idealDiodeTurnOn _ _ | .idealDiodeReverseOff _ _ | .rampStep _ _ | .supplementStart _ | .sourceOverload
  | .supplementEnd | .srcLimiting _ _ | .srcLimitExpired _ | .chgStartCheck _ | .chgTick _ | .chargeTimeout
  | .chgTermination | .doneRecharge _ | .floatRebulk _ | .floatRecompute | .batpresAbsent | .batteryOvTrip _
  | .batteryPresent _ _ | .ovAbsenceExpiry | .onTimeEnd _ | .peakOverCurrent _ _ | .negativeCurrent _ _ | .railOv _ _
  | .railUv _ _ | .railUvClear _ _ | .shortDetect _ | .hiccupOffExpiry _ | .hiccupCountReset _ | .softstartComplete _
  | .dischargeComplete _ _ | .dischTimeout _ | .enableHeldStart _ _ | .dischVlinkCrossing _ | .senseOpen _ _ | .vinLow _ _
  | .vinRecovery _ _ | .phaseLost _ _ | .spareIn _ | .spareLost _ _ | .currentLimitClear _ | .railOverload _ | .pgChange _ _
  | .phHealth _ _ | .ldoUv _ _ | .ldoOverload _ | .marginWindowNarrow _ | .seqTick _ | .waitTimeEnd _ | .seqStepTimeout _
  | .backoffExpiry _ | .railStuck _ | .heldEnableTimeout _ | .enOffWaitExpiry _ | .monComparatorSet _ _
  | .monComparatorClear _ _ | .monEvaluationStart _ | .monThresholdWrite _ | .ledgerSample _ | .ledgerRead
  | .selfDischargeAccrue | .selfPost | .modelUpdate _ _ | .naturalStep _ | .fitComplete _ | .probeDue _ | .probeStepEnd
  | .probeHoldRelease _ | .probeCancel _ | .tablePour _ | .estSecondUpdate _ | .driftRebase | .directionChange _
  | .cutoffSet _ | .cutoffClear | .cutoffWithholdExpiry | .qfullApply | .testDue _ | .testEnd | .roundStart | .roundResult _
  | .roundComplete _ | .fastThermalRead _ | .crossingTrip _ | .sliceGrant _ | .acqTimerFire _ | .captureDone _ _
  | .acqFifo _ _ | .ccRearm _ | .refSettled | .refinOutOfWindow | .coefPour | .corrStale | .sensorHealthy _ | .dieTrip _
  | .thresholdRawWrite _ | .drpToggle _ | .typecAttach _ _ | .typecDetach _ | .rpChange _ _ | .sourcePairOn _ _
  | .vbusDischarged _ _ | .pdRequestReceived _ _ _ | .psRdy _ _ | .ppsRerequest _ | .headroomWithdraw _ _ _
  | .headroomReoffer _ _ _ | .senderResponseTimeout _ | .contractVlinkLow _ _ | .hardReset _ _ | .errorRecoveryEnd _
  | .prSwap _ _ | .drSwap _ _ | .vconnSwap _ _ | .cableDiscovery _ _ | .vdmRequest _ _ | .pdOvp _ _ | .pdOcp _ _
  | .pdReverse _ _ | .pdVconnOc _ | .sinkLimiterExpiry _ | .pdCoreRestart _ | .pickStore | .eicDeliver _ | .eicClaim _
  | .eicComplete _ _ | .stormAutoClear | .postedEvent | .pickDropped | .gpioEdge _ | .mainsBack _ | .fireAlarmClear _
  | .wdgCheckIn _ _ _ _ | .wdgService _ _ _ _ | .wdgKeepalive _ _ | .wdgWindowClose _ _ | .wdgBootWindowClose _ _
  | .strikeClear _ | .powerFailTrigger | .powerReturn | .kettleReady | .kettleCheck _ | .kettleLow _ | .trialConfirm _
  | .pdTrialConfirm _ | .rollbackBurnRetry _ | .rtcSecond | .rcCorrection _ | .rtcLockoutStart _ | .rtcLockoutEnd _
  | .sysPllLock | .acqPllLock | .memberReady _ | .offComparatorChange _ _ | .slewComplete _ | .declaredWaitExpiry _ _
  | .ccHysteresisRearm _ | .pdProtocolTimer _ _ | .pdMessageReceived _ _ | .converterModeChange _ _ | .i2cStart | .bkupLow _
  | .digestPatternToggle => true

end Sys2Proof
end

