-- ==== Sys2Proof/Safety.lean ====
section
/-! DEFINITION. The terms that statements about runs use: a command answers with a next state, a host command stands admitted and is
completed, the part of the state that a command may touch, and the invariants that every state of a safe run has. -/

namespace Sys2Proof.Machine

/-! ### Answers and completions -/

/-- exec of the command answers a next state, and that state has `P`. -/
def Answers (c : Instr) (s : State) (P : State → Prop) : Prop := ∃ t, exec c s = .next t ∧ P t

/-- The command of opcode `op` that holds slot `x` of a port is admitted and its handler has not run (R85, R92). -/
abbrev Admitted (op : Nat) (p : Port) (tag : Tag) (x : Slot) (s : State) : Prop :=
  findSlot p tag s = some x ∧ x.op = op ∧ x.status = .admitted ∧ itsTurn x s = true

/-- A host port's completion queue has room, no completion of the port waits (R83), and the queue's memory is in canonical form, as
every step keeps it. -/
abbrev CqRoom (p : Port) (s : State) : Prop :=
  p ≠ .internal ∧ (s.hif.port p).cqFree = true ∧ s.hif.slots.any (fun y => y.port == p && y.status.isFinished) = false ∧
    Memory.wf .queue (s.hif.port p).cqMem = true

/-- Word `k` of the completion entry at index `i` of a port's completion queue. -/
def cqWord (p : Port) (i : BitVec 6) (k : Nat) (s : State) : W := Memory.readW .queue (s.hif.port p).cqMem (64 * i.toNat + 4 * k)

/-- Between `s` and `t` the command of slot `x` has completed with status `st`: its entry stands at the old tail, its slot is free and
its credit is back (R83, R86). -/
def Completed (p : Port) (x : Slot) (st : Nat) (s t : State) : Prop :=
  cqWord p (s.hif.port p).cqTail 0 t = w32 (x.op * 1048576 + x.cls * 65536 + st * 256 + x.tag.toNat) ∧
    (t.hif.port p).cqTail = (s.hif.port p).cqTail + 1 ∧ (t.hif.port p).avail = (s.hif.port p).avail + 1 ∧
    t.hif.slots = removeSlot p x.tag s.hif.slots

/-- `Completed`, and every word of the entry is that of the completion with results `ws` at the time of `s` (R81). -/
def CompletedWith (p : Port) (x : Slot) (st : Nat) (ws : List W) (s t : State) : Prop :=
  Completed p x st s t ∧ ∀ k, k < 16 → cqWord p (s.hif.port p).cqTail k t = (completionWords x st ws s).getD k 0

/-- A host port shows exactly one command, of one entry: `x` is what its words spell, the port holds a credit, no session reset runs and
no shown word was rewritten (R81, R84, R85). -/
abbrev Presents (p : Port) (x : Slot) (s : State) : Prop :=
  let q := s.hif.port p
  let w := q.sqWord (16 * q.sqHead.toNat)
  q.sess ≠ .resetting ∧ q.sqTail = q.sqHead + 1 ∧ q.sqOld = [] ∧ 0 < q.avail ∧ bitsOf w 24 6 ≤ 15 ∧
    x = slotOf p w ((List.range (bitsOf w 24 6)).map (fun k => q.sqWord (16 * q.sqHead.toNat + 1 + k))) s

/-- A shown command was taken and completed at once with status `st` and result word `w`: HEAD has moved, no slot is in use for it and
the credit is back (R85, R86, R92). -/
def TurnedAway (p : Port) (x : Slot) (st w : Nat) (s t : State) : Prop :=
  (t.hif.port p).sqHead = (s.hif.port p).sqHead + 1 ∧ t.hif.slots = s.hif.slots ∧ (t.hif.port p).avail = (s.hif.port p).avail ∧
    (t.hif.port p).cqTail = (s.hif.port p).cqTail + 1 ∧
    ∀ k, k < 16 → cqWord p (s.hif.port p).cqTail k t = (completionWords x st [w32 w] s).getD k 0

/-! ### Frames -/

/-- Of the whole state only the registers and queues of one port may differ, and on the I2C port whether HIRQC_N was released. -/
def PortOnly (p : Port) (s t : State) : Prop :=
  (∀ q, q ≠ p → t.hif.port q = s.hif.port q) ∧ t.hif.slots = s.hif.slots ∧ t.hif.events = s.hif.events ∧ t = { s with hif := t.hif }

/-- Only what a completion writes may differ: the port's completion queue, its credit, and the slots (R81, R83, R86). Every byte of the
completion queue outside the new entry, of the submission queue and of the event queue is as before. -/
def CompletionOnly (p : Port) (s t : State) : Prop :=
  (∀ q, q ≠ p → t.hif.port q = s.hif.port q) ∧ t.hif.events = s.hif.events ∧ t = { s with hif := t.hif } ∧
    (t.hif.port p).sqMem = (s.hif.port p).sqMem ∧ (t.hif.port p).evqMem = (s.hif.port p).evqMem ∧
    (t.hif.port p).sqHead = (s.hif.port p).sqHead ∧ (t.hif.port p).sqTail = (s.hif.port p).sqTail ∧
    (t.hif.port p).evqTail = (s.hif.port p).evqTail ∧ (t.hif.port p).alloc = (s.hif.port p).alloc ∧
    ∀ a, (a < 64 * (s.hif.port p).cqTail.toNat ∨ 64 * (s.hif.port p).cqTail.toNat + 64 ≤ a) →
      Memory.read .queue (t.hif.port p).cqMem a = Memory.read .queue (s.hif.port p).cqMem a

/-- The command completes with status `st` and results `ws`, and does nothing else. -/
def Returns (op : Nat) (c : Instr) (p : Port) (tag : Tag) (x : Slot) (st : Nat) (ws : List W) (s : State) : Prop :=
  Admitted op p tag x s → CqRoom p s → Answers c s (fun t => CompletedWith p x st ws s t ∧ CompletionOnly p s t)

/-- A pick was delivered to the Selvedge's intake and nothing else of it changed (R354). -/
def Picked (src kind detail : Nat) (s t : State) : Prop :=
  t.selv = Selv.deliver { pick := mkPick src kind detail, carried := false, time := s.sys.devTime } s.selv

/-- A pick was delivered to the Selvedge's intake; with it at most the storm pick of EIC source `n`, before or after it (R354, R377). -/
def PickSent (n src kind detail : Nat) (s t : State) : Prop :=
  let a := Selv.deliver { pick := mkPick src kind detail, carried := false, time := s.sys.devTime }
  let b := Selv.deliver { pick := mkPick 0x01C 0x08 n, carried := false, time := s.sys.devTime }
  t.selv = a s.selv ∨ t.selv = a (b s.selv) ∨ t.selv = b (a s.selv)

/-- Nothing was sent to the Selvedge but, if it masked EIC source `n` for a storm, the pick of that (R377). -/
def NoPickBut (n : Nat) (s t : State) : Prop := t.selv = s.selv ∨ Picked 0x01C 0x08 n s t

/-- A host event is the newest of the raised ones (R379). -/
def Raised (code : Nat) (detail : W) (s t : State) : Prop :=
  t.hif.events = s.hif.events ++ [{ code := code, detail := detail, time := s.sys.devTime }]

/-- A pick is in the Selvedge's intake; said where the intake had room for every pick that the command may send (R354). -/
def Delivered (src kind detail : Nat) (s t : State) : Prop :=
  s.selv.intake.length < 12 → { pick := mkPick src kind detail, carried := false, time := s.sys.devTime } ∈ t.selv.intake

/-- A host event with the time of `s` is among the raised ones (R379). -/
def Posted (code : Nat) (detail : W) (s t : State) : Prop := { code := code, detail := detail, time := s.sys.devTime } ∈ t.hif.events

/-- An edge of EIC source `n` was latched: it is pending and its count has risen, up to 255 (R372). -/
def Latched (n : Nat) (s t : State) : Prop :=
  (t.eic.get n).pending = true ∧ (t.eic.get n).count = min 255 ((s.eic.get n).count + 1)

/-- What an edge at the event controller leaves alone: it may change the controller, the host event queues and raised events, the private
latches of waiting groups and the Selvedge's intake (R207, R372, R377, R379). -/
def EdgeFrame (s t : State) : Prop :=
  t = { s with eic := t.eic, hif := t.hif, pwr := t.pwr, selv := t.selv } ∧ t.hif.slots = s.hif.slots ∧
    t.pwr = { s.pwr with grp := t.pwr.grp } ∧
    ∀ p, (t.hif.port p).sqMem = (s.hif.port p).sqMem ∧ (t.hif.port p).cqMem = (s.hif.port p).cqMem ∧
      (t.hif.port p).avail = (s.hif.port p).avail

/-- What a protection or a move of channel `c` leaves alone: the other channels, the other rails, the monitors, the path, the charger and
the store. -/
def ChanFrame (c : Fin 12) (s t : State) : Prop :=
  (∀ d, d ≠ c → t.pwr.vr[d] = s.pwr.vr[d]) ∧ t.pwr.ldo = s.pwr.ldo ∧ t.pwr.en = s.pwr.en ∧ t.pwr.mon = s.pwr.mon ∧
    t.path = s.path ∧ t.chg = s.chg ∧ t.store = s.store

/-- No sequence of the group runs or waits, and a tick has nothing to do for it (R209). -/
abbrev GroupIdle (g : Fin 8) (s : State) : Prop :=
  s.pwr.grp[g].st ≠ .upRun ∧ s.pwr.grp[g].st ≠ .downRun ∧ s.pwr.grp[g].st ≠ .backoff ∧ s.pwr.grp[g].st ≠ .partialUp

/-- What a change of group `g` alone leaves alone: every rail, monitor and phase, and the other groups but for their private edge latches
(R207, R209). The host events and queues, the event controller and the Selvedge's intake may change with it. -/
def GroupFrame (g : Fin 8) (s t : State) : Prop :=
  t = { s with pwr := { s.pwr with grp := t.pwr.grp }, hif := t.hif, eic := t.eic, selv := t.selv } ∧
    ∀ h, h ≠ g → t.pwr.grp[h] = { s.pwr.grp[h] with evLatch := t.pwr.grp[h].evLatch }

/-- Only USB port `u` changed, and it is now `x`. -/
def PdOnly (u : Fin 2) (x : PdPort) (s t : State) : Prop :=
  pdPort u t = x ∧ (∀ v, v ≠ u → pdPort v t = pdPort v s) ∧ t = { s with pd := { s.pd with a := t.pd.a, b := t.pd.b } }

/-- The USB port other than `u`, the charger, the estimator and the store are as before. -/
def PdFrame (u : Fin 2) (s t : State) : Prop :=
  (∀ v, v ≠ u → pdPort v t = pdPort v s) ∧ t.pd = { s.pd with a := t.pd.a, b := t.pd.b } ∧ t.est = s.est ∧ t.store = s.store ∧
    t.pwr.ldo = s.pwr.ldo ∧ t.pwr.en = s.pwr.en

/-- The command of slot `x` is outstanding still: its handler has begun and it waits for its end (R92). -/
def RunsOn (p : Port) (tag : Tag) (x : Slot) (t : State) : Prop := findSlot p tag t = some { x with status := .running }

/-- No RAIL_OFF waits for the rail, its group (if any) is UP or PARTIAL, and neither a thermal latch nor the die's stop holds it (R222). -/
abbrev RailOnOpen (r : Rail) (s : State) : Prop :=
  (∀ w ∈ s.pwr.railWaits, w.rail = r → w.cmd = none) ∧
    (∀ g, railGroup r s = some g → s.pwr.grp[g].st = .up ∨ s.pwr.grp[g].st = .partialUp) ∧ thermHeld r s = false ∧ s.sys.regStopped = false

/-- A channel is used, not latched off, linked to no USB port, and VLINK and its members reach VIN_MIN_MV and MIN_PH (R222). -/
abbrev ChanOnOpen (c : Fin 12) (s : State) : Prop :=
  vrUsed c s = true ∧ s.pwr.vr[c].st ≠ .latchedOff ∧ linkedPort c s = none ∧ pn (Pid.VR_VIN_MIN_MV c.val) s ≤ s.path.vlink ∧
    pn (Pid.VR_MIN_PH c.val) s ≤ activeMembers c s + b01 s.pwr.vr[c].takeover

/-- The Heddle took a violation of processor `i` with a code and a pick detail: its pick and host event, its evidence, its strike, and the
step of the ladder (R392 to R395, R400). -/
def Violated (i : Fin 9) (code : Nat) (mask : BitVec 16) (s t : State) : Prop :=
  let step := ladderStep i s
  Delivered (0x1E0 + i.val) (0x10 + code) mask.toNat s t ∧ Posted 0xA001 (w32 (i.val + 16 * code + 256 * step)) s t ∧
    t.heddle.violations = satAdd max32 s.heddle.violations 1 ∧ t.heddle.w[i].strike = true ∧
    t.heddle.recent.getLast?.map (fun e => (e.viol, e.proc, e.ladder, e.count, e.mask, e.at_)) =
      some (code, i.val, step, countAfter step s, mask, s.sys.devTime) ∧
    (s.heddle.first.isSome = true → t.heddle.first = s.heddle.first) ∧ t.heddle.count = countAfter step s ∧
    (step = 2 → t.sys.resetBegun = some .heddle) ∧ t.heddle.safeHold = (s.heddle.safeHold || step == 3) ∧
    (step = 3 → t.heddle.safeN = true ∧ t.sys.mode = .recovery)

/-- The flash bytes outside `n` from `a` read as before. -/
def FlashKept (a n : Nat) (s t : State) : Prop :=
  ∀ b, (b < a ∨ a + n ≤ b) → Memory.read .flash t.store.fw.flash b = Memory.read .flash s.store.fw.flash b

/-! ### Invariants -/

/-- The memories of a port's queues are in canonical form. -/
def PortState.memOk (q : PortState) : Bool :=
  Memory.wf .queue q.sqMem && Memory.wf .queue q.cqMem && Memory.wf .queue q.evqMem

/-- Every byte memory of the block is in canonical form. -/
def memoriesOk (s : State) : Bool :=
  s.hif.spia.memOk && s.hif.spib.memOk && s.hif.i2c.memOk && s.hif.internal.memOk && Memory.wf .flash s.store.fw.flash

/-- The credits of every port and its slots in use make its allocation (R86). -/
def portCreditsOk (s : State) : Bool :=
  allPorts.all (fun p => decide ((s.hif.port p).avail + inUse p s = (s.hif.port p).alloc))

/-- The sparse maps of the block are in canonical form: keys strictly rising and no entry at its default. -/
def mapsOk (s : State) : Bool :=
  swf {} s.eic.src && swf 0 s.selv.status && swf 0 s.selv.carriedBits && swf 0 s.selv.refused && swf 0 s.store.otp.words &&
    swf 0 s.store.nvm.idPage && swf 0 s.sys.overrunCount

/-- The balance of a caddy is what its terms make it (R234). -/
def Caddy.balances (c : Caddy) : Bool := c.b == c.qIn - c.qOut - c.qSelf + c.qRebase

/-- The caddy balances, and so does that of every kettle set in NVM. -/
def caddiesBalance (s : State) : Bool := s.est.caddy.balances && s.store.nvm.kettle.all (fun x => x.2.est.caddy.balances)

/-- No OTP bit that is 1 in `s` is 0 in `t` (R416). -/
def otpKept (s t : State) : Prop := ∀ a, otpWord a s &&& ~~~(otpWord a t) = 0

end Sys2Proof.Machine
end

