-- ==== Sys2Proof/Certificates/Slice0/Obligations.lean ====
section
/-! DEFINITION. The statements for the provers. Each docstring says what the statement says, whether it formalises a rule of the manual
or is derived from it, and which rules it rests on. -/

open Sys2Proof Sys2Proof.Machine


/-- For every command c and state s whose queue has c at its front, step of s is exec of c on s with the rest of the queue. The queue is
  the model's own (log entry 31). [derived: the task's rule for a block; log entry 31] -/
def Obligations.StepRunsTheFrontCommand : Prop :=
  ∀ (c : Instr) (rest : List Instr) (s : State),
      step { s with pending := c :: rest } = exec c { s with pending := rest }

/-- With an empty queue a step answers the same state; the opcode table gives no row any bits, so no word decodes to a command and
  withFetchWord changes nothing (the model's choice of log entry 31 for the idle step). [derived: opcode_table.json; log entry 31] -/
def Obligations.EmptyQueueIdles : Prop :=
  (∀ (s : State),
      s.pending = [] →
      step s = .next s) ∧
  (∀ (s : State) (nbits w : Nat),
      decodeTableWord nbits w = none ∧ s.withFetchWord nbits w = s)

/-- No row of the opcode table faults or is refused: for every command and state exec answers a next state, and so does every step. A row
  whose condition does not hold changes nothing (log entry 9, the model's reading). [derived: opcode_table.json; log entry 9] -/
def Obligations.NoCommandStopsTheBlock : Prop :=
  (∀ (c : Instr) (s : State),
      ∃ t, exec c s = .next t) ∧
  (∀ (s : State),
      ∃ t, step s = .next t)

/-- In every state, the queue after a step is the queue before it without its front command: no effect of any command adds, drops or
  reorders a waiting command. [derived: the task's rule for a block; log entry 31] -/
def Obligations.StepTakesOneCommand : Prop :=
  ∀ (s t : State),
      step s = .next t →
      t.pending = s.pending.tail

/-- From every state whose queue memories and flash are in canonical form (addresses strictly rising, no entry equal to what an unlisted
  address reads as), a step answers a state whose memories are too. [derived: R54; R81; R424; log entry 7] -/
def Obligations.StepKeepsMemoriesCanonical : Prop :=
  ∀ (s t : State),
      memoriesOk s = true →
      step s = .next t →
      memoriesOk t = true

/-- From every state in which each port's credits and its slots in use make its allocation, a step answers a state in which they do:
  acceptance, completion, waiting completions, session resets, resets and a change of allocation all keep R86's equation. [derived: R86;
  R87; R97] -/
def Obligations.StepKeepsCredits : Prop :=
  ∀ (s t : State),
      portCreditsOk s = true →
      step s = .next t →
      portCreditsOk t = true

/-- Whatever command runs, no bit of any OTP word that is 1 before the step is 0 after it: programming only sets bits. [derived: R416] -/
def Obligations.StepKeepsOtpBits : Prop :=
  ∀ (s t : State),
      step s = .next t →
      otpKept s t

/-- After reset every byte memory is in canonical form, the credits of every port equal its allocation and nothing is in use, and the
  allocations of the four ports make 256. Where a clause needs a reading of the manual or a choice, it is the model's: log entries 1, 7.
  [derived: R86; R81; R424] -/
def Obligations.ResetHasTheInvariants : Prop :=
  memoriesOk State.reset = true ∧ portCreditsOk State.reset = true ∧ caddiesBalance State.reset = true ∧ creditsOk State.reset = true ∧
          State.reset.pending = []

/-- After reset, for every host port: HIF_STATUS, HIF_SESSION, SQ_TAIL, SQ_DOORBELL, CQ_HEAD, CQ_TAIL, EVQ_HEAD and EVQ_TAIL read 0,
  IRQ_MASK reads 0x25, RSTCAUSE reads the cause VIN with LAST 0, STICKY_SUMMARY, ID_HORTO, ID_PDFW and ID_CFG read 0, the calendar reads
  2000-01-01 00:00:00 with WDAY 6, and RTC_CAL and the alarms read 0; HIF_CREDITS reads the port default 128, 64 or 16 in ALLOC and AVAIL
  and 0 in INUSE. Where a clause needs a reading of the manual or a choice, it is the model's: log entry 8. [derived: R80; R434; chapter
  02 (RSTCAUSE)] -/
def Obligations.ResetRegisters : Prop :=
  (∀ (p : HPort) (a : Nat),
      a ∈ [0x04, 0x08, 0x10, 0x14, 0x18, 0x1C, 0x20, 0x24, 0x28, 0x0100, 0x0104, 0x0108, 0x010C, 0x011C, 0x0120, 0x0128, 0x012C, 0x014C,
          0x0150, 0x0154] →
      readWindow p a State.reset = 0) ∧
  (∀ (p : HPort),
      readWindow p 0x2C State.reset = 0x25 ∧ readWindow p 0x30 State.reset = 0x00000001 ∧ readWindow p 0x0110 State.reset = 1 ∧
          readWindow p 0x0114 State.reset = 6 ∧ readWindow p 0x0118 State.reset = 1) ∧
  (readWindow .spia 0x0C State.reset = 0x80008000 ∧ readWindow .spib 0x0C State.reset = 0x40004000 ∧
          readWindow .i2c 0x0C State.reset = 0x10001000)

/-- After reset the device is in START-UP and early service with EARLY_STAGE 0x01, every channel and LDO is OFF, every phase UNUSED with
  its output high-impedance, every enable output high-impedance, every group unused, the charger OFF, the link in START, sigma_C at 5.00
  %, the capture slots IDLE, both USB ports DISABLED, the Selvedge empty with no status bit, no EIC source pending, the Heddle without a
  strike, a count or an evidence record, no parameter changed from its default and the kettle reserve not ready. Where a clause needs a
  reading of the manual or a choice, it is the model's: log entry 1. [derived: R45; R115; R136; R171; R199; R209; R260; R325; R357; R363;
  R393; R412] -/
def Obligations.ResetOfTheBlocks : Prop :=
  (∀ (c : Fin 12) (k : Fin 24) (l : Fin 8) (e : Fin 16) (g : Fin 8),
      State.reset.pwr.vr[c].st = .off ∧ State.reset.pwr.ph[k].st = .unused ∧ State.reset.pwr.ph[k].level = .hiZ ∧
          State.reset.pwr.ldo[l].st = .off ∧ State.reset.pwr.en[e].st = .off ∧ State.reset.pwr.en[e].hiZ = true ∧
          State.reset.pwr.grp[g].st = .unused) ∧
  (State.reset.sys.mode = .startUp ∧ State.reset.sys.service = .early ∧ State.reset.sys.stage = 0x01 ∧ State.reset.sys.bootErr = 0 ∧
          State.reset.chg.st = .off ∧ State.reset.path.link = .start ∧ State.reset.est.sigC = 500 ∧ State.reset.pd.a.st = .disabled ∧
          State.reset.pd.b.st = .disabled ∧ State.reset.selv.intake = [] ∧ State.reset.selv.ring = [] ∧ State.reset.selv.status = [] ∧
          State.reset.eic.src = [] ∧ State.reset.heddle.count = 0 ∧ State.reset.heddle.safeHold = false ∧ State.reset.heddle.first = none ∧
          State.reset.heddle.violations = 0 ∧ State.reset.store.par.live = [] ∧ State.reset.store.res.ready = false) ∧
  (∀ (i : Fin 8) (w : Fin 9) (id k : Nat),
      State.reset.acq.slot[i].st = .idle ∧ State.reset.heddle.w[w].strike = false ∧ pvw id k State.reset = paramDefault id k)

/-- When a command of a host port ends and its completion queue has room, all 16 words of the completion stand at the old tail (opcode,
  class, status, tag, result count, LIMP, DEFERRED, elapsed time, device time, results), the tail moves by one, the slot is free and the
  credit back, and every other byte of the queues, every other port and everything outside the interface is as before. Where a clause
  needs a reading of the manual or a choice, it is the model's: log entry 34. [derived: R81; R83; R86] -/
def Obligations.CompletionIsPosted : Prop :=
  ∀ (p : Port) (tag : Tag) (x : Slot) (st : Nat) (ws : List W) (s : State),
      findSlot p tag s = some x →
      CqRoom p s →
      CompletedWith p x st ws s (complete p tag st ws s) ∧ CompletionOnly p s (complete p tag st ws s)

/-- When a command ends while its port's completion queue is full, no entry is written and no credit returned, HIF_STATUS.CQ_WAIT is set
  and the words stay in the slot; when an entry is free, CQ_WAIT_POST posts the oldest waiting completion of the port with bit 24 of word
  1 set, frees its slot and returns its credit; with the queue still full it changes nothing. [derived: R83; R86] -/
def Obligations.CompletionWaits : Prop :=
  (∀ (p : Port) (tag : Tag) (x : Slot) (st : Nat) (ws : List W) (s : State),
      findSlot p tag s = some x →
      p ≠ .internal →
      (s.hif.port p).cqFree = false →
      ((complete p tag st ws s).hif.port p).cqMem = (s.hif.port p).cqMem ∧
          ((complete p tag st ws s).hif.port p).cqTail = (s.hif.port p).cqTail ∧
          ((complete p tag st ws s).hif.port p).avail = (s.hif.port p).avail ∧ ((complete p tag st ws s).hif.port p).cqWait = true ∧
          (complete p tag st ws s).hif.slots = removeSlot p tag s.hif.slots ++ [{ x with
            status := .finished (completionWords x st ws s) }]) ∧
  (∀ (p : Port) (x : Slot) (ws : List W) (s : State),
      s.hif.slots.find? (fun y => y.port == p && y.status.isFinished) = some x →
      x.status = .finished ws →
      ws.length = 16 →
      (s.hif.port p).cqFree = true →
      Answers (.cqWaitPost p) s (fun t => (∀ k, k < 16 → cqWord p (s.hif.port p).cqTail k t = (if k = 1 then ws.getD 1 0 ||| 0x01000000 else
          ws.getD k 0)) ∧ (t.hif.port p).cqTail = (s.hif.port p).cqTail + 1 ∧ (t.hif.port p).avail = (s.hif.port p).avail + 1 ∧
          t.hif.slots = s.hif.slots.eraseP (fun y => y.port == p && y.status.isFinished) ∧ CompletionOnly p s t)) ∧
  (∀ (p : Port) (s : State),
      (s.hif.port p).cqFree = false →
      Answers (.cqWaitPost p) s (fun t => t = s))

/-- With the interface open: a write of CQ_HEAD or EVQ_HEAD from the old head up to the tail moves the head and does nothing else; one
  beyond the tail, or any during a session reset, only sets IDX_ERR. A write of SQ_TAIL strictly between HEAD and the old tail, or during
  a session reset, only sets IDX_ERR; any other one moves the tail. A device in DOZE wakes first. Where a clause needs a reading of the
  manual or a choice, it is the model's: log entry 24. [derived: R84; R64] -/
def Obligations.IndexWrites : Prop :=
  (∀ (p : HPort) (v : W) (s : State),
      let q := s.hif.port (hport p)
      let h : BitVec 6 := v.setWidth 6
      hifOpen s = true →
      q.sess ≠ .resetting →
      (h - q.cqHead).toNat ≤ (q.cqTail - q.cqHead).toNat →
      Answers (.cqHeadWrite p v) s (fun t => t.hif.port (hport p) = { q with cqHead := h } ∧ PortOnly (hport p) (dozeWake s) t)) ∧
  (∀ (p : HPort) (v : W) (s : State),
      let q := s.hif.port (hport p)
      hifOpen s = true →
      q.sess = .resetting ∨ (q.cqTail - q.cqHead).toNat < ((v.setWidth 6 : BitVec 6) - q.cqHead).toNat →
      Answers (.cqHeadWrite p v) s (fun t => t.hif.port (hport p) = { q with idxErr := true } ∧ PortOnly (hport p) (dozeWake s) t)) ∧
  (∀ (p : HPort) (v : W) (s : State),
      let q := s.hif.port (hport p)
      let h : BitVec 6 := v.setWidth 6
      hifOpen s = true →
      q.sess ≠ .resetting →
      (h - q.evqHead).toNat ≤ (q.evqTail - q.evqHead).toNat →
      Answers (.evqHeadWrite p v) s (fun t => t.hif.port (hport p) = { q with evqHead := h } ∧ PortOnly (hport p) (dozeWake s) t)) ∧
  (∀ (p : HPort) (v : W) (s : State),
      let q := s.hif.port (hport p)
      hifOpen s = true →
      q.sess = .resetting ∨ (q.evqTail - q.evqHead).toNat < ((v.setWidth 6 : BitVec 6) - q.evqHead).toNat →
      Answers (.evqHeadWrite p v) s (fun t => t.hif.port (hport p) = { q with idxErr := true } ∧ PortOnly (hport p) (dozeWake s) t)) ∧
  (∀ (p : HPort) (v : W) (s : State),
      let q := s.hif.port (hport p)
      let n : BitVec 6 := v.setWidth 6
      hifOpen s = true →
      q.sess ≠ .resetting →
      n = q.sqHead ∨ (q.sqTail - q.sqHead).toNat ≤ (n - q.sqHead).toNat →
      Answers (.sqTailWrite p v) s (fun t => t.hif.port (hport p) = { q with sqTail := n, sqPres := (t.hif.port (hport p)).sqPres } ∧
          PortOnly (hport p) (dozeWake s) t)) ∧
  (∀ (p : HPort) (v : W) (s : State),
      let q := s.hif.port (hport p)
      let n : BitVec 6 := v.setWidth 6
      hifOpen s = true →
      q.sess = .resetting ∨ (n ≠ q.sqHead ∧ (n - q.sqHead).toNat < (q.sqTail - q.sqHead).toNat) →
      Answers (.sqTailWrite p v) s (fun t => t.hif.port (hport p) = { q with idxErr := true } ∧ PortOnly (hport p) (dozeWake s) t))

/-- When a host port presents exactly one command of one entry (LEN up to 15, words not rewritten) and holds a credit, the doorbell moves
  HEAD past it. An admitted class-0 command takes a slot and a credit; an unknown opcode completes BAD_OPCODE, a wrong class BAD_OPCODE
  with word 0 = 1, a LEN outside the opcode's range BAD_LENGTH, and a tag already outstanding NOT_ADMITTED with word 0 = 3, each at once
  with the credit returned; without a credit HEAD stays and NOCREDIT is set; during a session reset the doorbell only sets IDX_ERR. Where
  a clause needs a reading of the manual or a choice, it is the model's: log entry 34. [derived: R84; R85; R86; R92; R463] -/
def Obligations.DoorbellTakesACommand : Prop :=
  (∀ (p : HPort) (x : Slot) (i : OpInfo) (s : State),
      hifOpen s = true →
      s.sys.power = .run →
      Presents (hport p) x s →
      s.sys.service = .full →
      s.sys.bootErr ≠ 2 ∧ s.sys.bootErr ≠ 3 →
      opInfo x.op = some i →
      x.cls = 0 ∧ classOf i x = 0 →
      i.lo ≤ x.payload.length ∧ x.payload.length ≤ i.hi →
      findSlot (hport p) x.tag s = none →
      s.sys.class0Starts < 2 →
      Answers (.sqDoorbell (hport p)) s (fun t => t.hif.slots = s.hif.slots ++ [{ x with status := .admitted }] ∧
          (t.hif.port (hport p)).avail = (s.hif.port (hport p)).avail - 1 ∧ (t.hif.port (hport p)).sqHead = (s.hif.port (hport p)).sqHead +
          1 ∧ t.sys = { s.sys with class0Starts := s.sys.class0Starts + 1 })) ∧
  (∀ (p : HPort) (x : Slot) (s : State),
      hifOpen s = true →
      s.sys.power = .run →
      Presents (hport p) x s →
      CqRoom (hport p) s →
      opInfo x.op = none →
      Answers (.sqDoorbell (hport p)) s (fun t => TurnedAway (hport p) x 0x11 0 s t)) ∧
  (∀ (p : HPort) (x : Slot) (i : OpInfo) (s : State),
      hifOpen s = true →
      s.sys.power = .run →
      Presents (hport p) x s →
      CqRoom (hport p) s →
      opInfo x.op = some i →
      opServed i s = true →
      x.cls ≠ classOf i x →
      Answers (.sqDoorbell (hport p)) s (fun t => TurnedAway (hport p) x 0x11 1 s t)) ∧
  (∀ (p : HPort) (x : Slot) (i : OpInfo) (s : State),
      hifOpen s = true →
      s.sys.power = .run →
      Presents (hport p) x s →
      CqRoom (hport p) s →
      opInfo x.op = some i →
      opServed i s = true →
      x.cls = classOf i x →
      x.payload.length < i.lo ∨ i.hi < x.payload.length →
      Answers (.sqDoorbell (hport p)) s (fun t => TurnedAway (hport p) x 0x12 0 s t)) ∧
  (∀ (p : HPort) (x : Slot) (i : OpInfo) (s : State),
      hifOpen s = true →
      s.sys.power = .run →
      Presents (hport p) x s →
      CqRoom (hport p) s →
      opInfo x.op = some i →
      opServed i s = true →
      x.cls = classOf i x →
      i.lo ≤ x.payload.length ∧ x.payload.length ≤ i.hi →
      (findSlot (hport p) x.tag s).isSome = true →
      Answers (.sqDoorbell (hport p)) s (fun t => TurnedAway (hport p) x 0x10 3 s t)) ∧
  (∀ (p : HPort) (s : State),
      let q := s.hif.port (hport p)
      hifOpen s = true →
      s.sys.power = .run →
      q.sess ≠ .resetting →
      q.sqTail ≠ q.sqHead →
      q.sqOld = [] →
      q.avail = 0 →
      bitsOf (q.sqWord (16 * q.sqHead.toNat)) 24 6 ≤ 15 →
      Answers (.sqDoorbell (hport p)) s (fun t => (t.hif.port (hport p)).noCredit = true ∧ (t.hif.port (hport p)).sqHead = q.sqHead ∧
          t.hif.slots = s.hif.slots ∧ (t.hif.port (hport p)).avail = 0 ∧ (t.hif.port (hport p)).cqTail = q.cqTail)) ∧
  (∀ (p : HPort) (s : State),
      hifOpen s = true →
      (s.hif.port (hport p)).sess = .resetting →
      Answers (.sqDoorbell (hport p)) s (fun t => t.hif.port (hport p) = { s.hif.port (hport p) with idxErr := true } ∧
          PortOnly (hport p) (dozeWake s) t))

/-- Writing the key 0x5E55 outside a session reset leaves the port READY under the next number with all its indices but CQ_TAIL at 0, its
  queues' heads cleared, none of its commands in a slot and AVAIL at ALLOC; with none outstanding the only completion is the
  system-generated snapshot at entry 0, and with 1 to 48 outstanding entry 0 is the batch with status ABORTED_SESSION and their count as
  its tag and entry 1 the snapshot; the other ports keep their commands, credits and submission and completion queues. Any other value is
  ignored. Where a clause needs a reading of the manual or a choice, it is the model's: log entry 34. [derived: R80; R97; R98] -/
def Obligations.SessionReset : Prop :=
  (∀ (p : HPort) (s : State),
      hifOpen s = true →
      (s.hif.port (hport p)).sess ≠ .resetting →
      (s.hif.slots.filter (fun x => x.port == hport p)).length ≤ 48 →
      Answers (.sessionReset p 0x5E55) s (fun t => let q := t.hif.port (hport p); q.sess = .ready ∧ q.busy = false ∧
          q.snum = nextSnum (s.hif.port (hport p)).snum ∧ q.sqHead = 0 ∧ q.sqTail = 0 ∧ q.cqHead = 0 ∧ q.evqHead = 0 ∧ q.evqTail = 0 ∧
          q.sqMem = [] ∧ q.evqMem = [] ∧ q.irqMask = 0x25 ∧ q.avail = (s.hif.port (hport p)).alloc ∧
          t.hif.slots = s.hif.slots.filter (fun x => x.port != hport p))) ∧
  (∀ (p : HPort) (s : State),
      hifOpen s = true →
      (s.hif.port (hport p)).sess ≠ .resetting →
      s.hif.slots.filter (fun x => x.port == hport p) = [] →
      s.sys.service ≠ .early →
      Answers (.sessionReset p 0x5E55) s (fun t => (t.hif.port (hport p)).cqTail = 1 ∧ cqWord (hport p) 0 0 t = 0x00200000 ∧
          (cqWord (hport p) 0 1 t).getLsbD 27 = true)) ∧
  (∀ (p : HPort) (s : State),
      let mine := s.hif.slots.filter (fun x => x.port == hport p)
      hifOpen s = true →
      (s.hif.port (hport p)).sess ≠ .resetting →
      0 < mine.length ∧ mine.length ≤ 48 →
      Answers (.sessionReset p 0x5E55) s (fun t => (t.hif.port (hport p)).cqTail = 2 ∧ cqWord (hport p) 0 0 t = w32 (0x2000 + mine.length) ∧
          (cqWord (hport p) 0 1 t).getLsbD 27 = true ∧ (cqWord (hport p) 0 4 t).extractLsb' 0 8 = (mine.map (fun x => x.tag)).getD 0 0)) ∧
  (∀ (p : HPort) (q : Port) (s : State),
      hifOpen s = true →
      q ≠ hport p →
      Answers (.sessionReset p 0x5E55) s (fun t => let a := s.hif.port q; let b := t.hif.port q; b.sess = a.sess ∧ b.snum = a.snum ∧
          b.alloc = a.alloc ∧ b.avail = a.avail ∧ b.sqMem = a.sqMem ∧ b.cqMem = a.cqMem ∧ b.sqHead = a.sqHead ∧ b.sqTail = a.sqTail ∧
          b.cqHead = a.cqHead ∧ b.cqTail = a.cqTail)) ∧
  (∀ (p : HPort) (key : BitVec 16) (s : State),
      key ≠ 0x5E55 ∨ (s.hif.port (hport p)).sess = .resetting →
      hifOpen s = true →
      Answers (.sessionReset p key) s (fun t => t = dozeWake s))

/-- With the interface open: a SPI write with a bad command byte, length or byte count sets FRM_ERR, one with a bad CRC sets CRC_ERR and
  counts in CRC_COUNT up to 255, one at a bad address sets ADDR_ERR; the bytes that R72 gives for a write of 1 to 64 words are taken as
  the write of those words at that address; a read with LEN 0 or above 64 sets FRM_ERR; a read with a bad CRC or a misaligned address gives the inverse of
  the CRC of its header and zero data as trailer and sets CRC_ERR (counted) or ADDR_ERR; a discarded I2C write sets ADDR_ERR, FRM_ERR or
  PEC_ERR and ends the transfer; a timeout ends the transfer with nothing written. No queue, index or other register changes. Where a
  clause needs a reading of the manual or a choice, it is the model's: log entries 34, 35. [derived: R74; R76; R77; R78; R80] -/
def Obligations.FailedTransactions : Prop :=
  (∀ (p : SpiPort) (e : SpiWriteError) (s : State),
      let q := s.hif.port (sport p)
      hifOpen s = true →
      Answers (.spiWriteDiscard p e) s (fun t => t.hif.port (sport p) = (match e with
        | .badCrc => { q with crcErr := true, crcCount := min 255 (q.crcCount + 1) }
        | .badAddr => { q with addrErr := true }
        | .badCommand => { q with frmErr := true }
        | .badLen => { q with frmErr := true }
        | .badCount => { q with frmErr := true }) ∧ PortOnly (sport p) (dozeWake s) t)) ∧
  (∀ (p : SpiPort) (e : SpiReadError) (addr : BitVec 16) (len : BitVec 8) (s : State),
      let q := s.hif.port (sport p)
      let trailer := ~~~(crc16 ([0x03#8, addr.extractLsb' 8 8, addr.extractLsb' 0 8, len] ++ List.replicate (4 * len.toNat) 0#8))
      hifOpen s = true →
      1 ≤ len.toNat ∧ len.toNat ≤ 64 →
      e = .badCrc ∨ addr.toNat % 4 ≠ 0 →
      Answers (.spiReadCheckFail p e addr len) s (fun t => t.hif.port (sport p) = (match e with
        | .badCrc => { q with badTrailer := some trailer, crcErr := true, crcCount := min 255 (q.crcCount + 1) }
        | .badAddr => { q with badTrailer := some trailer, addrErr := true }) ∧ PortOnly (sport p) (dozeWake s) t)) ∧
  (∀ (p : SpiPort) (e : SpiReadError) (addr : BitVec 16) (len : BitVec 8) (s : State),
      hifOpen s = true →
      len = 0 ∨ 64 < len.toNat →
      Answers (.spiReadCheckFail p e addr len) s (fun t => t.hif.port (sport p) = { s.hif.port (sport p) with frmErr := true } ∧
          PortOnly (sport p) (dozeWake s) t)) ∧
  (∀ (p : SpiPort) (addr : BitVec 16) (ws : List W),
      1 ≤ ws.length ∧ ws.length ≤ 64 →
      spiRow p (spiWriteBytes addr ws) = some (.windowRegisterWrite (match p with
        | .spia => .spia
        | .spib => .spib) addr ws)) ∧
  (∀ (e : I2cWriteError) (s : State),
      let q := s.hif.i2c
      hifOpen s = true →
      Answers (.i2cWriteDiscard e) s (fun t => t.hif.i2c = (match e with
        | .align => { q with addrErr := true }
        | .region => { q with addrErr := true }
        | .length => { q with frmErr := true }
        | .pec => { q with pecErr := true }) ∧ t.hif.i2cBusy = false ∧
          PortOnly .i2c { dozeWake s with sys := { (dozeWake s).sys with free := s.sys.free + 1 } } t)) ∧
  (∀ (s : State),
      hifOpen s = true →
      Answers .smbusTimeout s (fun t => t = { dozeWake s with hif := { s.hif with i2cBusy := false } }))

/-- An I2C START begins a transfer and puts the live HIF.I2C_PEC in force on the bus; an Alert Response read while HIRQC_N is asserted
  is answered with the target's address 0x5A + 2 x ADDR1 + ADDR0 and releases it, and nothing else changes; while it is not asserted the read changes nothing. Where a clause needs a reading of the manual
  or a choice, it is the model's: log entry 35. [derived: R95; R106] -/
def Obligations.I2cBusEvents : Prop :=
  (∀ (s : State),
      hifOpen s = true →
      Answers .i2cStart s (fun t => t = { dozeWake s with hif := { s.hif with i2cBusy := true, pecOn := pb Pid.HIF_I2C_PEC s } })) ∧
  (∀ (s : State),
      hifOpen s = true →
      hirq .i2c (dozeWake s) = true →
      Answers .alertResponseRead s (fun t => hirq .i2c t = false ∧ t = { dozeWake s with
          hif := { s.hif with alertReleased := true, alertAnswer := some (0x5A#7 + s.hif.straps.setWidth 7) } })) ∧
  (∀ (s : State),
      hifOpen s = true →
      hirq .i2c (dozeWake s) = false →
      Answers .alertResponseRead s (fun t => t = dozeWake s))

/-- A one-word write at IRQ_MASK sets its six bits; at HIF_STATUS it clears exactly the flags written 1, with CRC_COUNT and DROPPED
  returning to 0 with CRC_ERR and EVQ_DROP; at RSTCAUSE it clears the cause bits written 1, for all ports; in the submission queue it
  changes that word and no other byte; at a read-only register, other than in a session reset, nothing. A burst that leaves a writable
  region or starts off a multiple of 4 sets ADDR_ERR, and one above 64 words FRM_ERR, with nothing written. Where a clause needs a
  reading of the manual or a choice, it is the model's: log entry 35. [derived: R10; R12; R73; R74; R77; R80; R84] -/
def Obligations.WindowWrites : Prop :=
  (∀ (p : HPort) (v : W) (s : State),
      hifOpen s = true →
      Answers (.windowRegisterWrite p 0x002C [v]) s (fun t => t.hif.port (hport p) = { s.hif.port (hport p) with
            irqMask := v.setWidth 6 } ∧  PortOnly (hport p) (dozeWake s) t)) ∧
  (∀ (p : HPort) (v : W) (s : State),
      let q := s.hif.port (hport p)
      hifOpen s = true →
      Answers (.windowRegisterWrite p 0x0004 [v]) s (fun t => t.hif.port (hport p) = { q with
            pecErr := q.pecErr && !v.getLsbD 0, crcErr := q.crcErr && !v.getLsbD 1, frmErr := q.frmErr && !v.getLsbD 2,
            addrErr := q.addrErr && !v.getLsbD 3, idxErr := q.idxErr && !v.getLsbD 4, noCredit := q.noCredit && !v.getLsbD 5,
            evqDrop := q.evqDrop && !v.getLsbD 6, cqWait := q.cqWait && !v.getLsbD 7, crcCount := if v.getLsbD 1 then 0 else q.crcCount,
            dropped := if v.getLsbD 6 then 0 else q.dropped } ∧  PortOnly (hport p) (dozeWake s) t)) ∧
  (∀ (p : HPort) (v : W) (s : State),
      hifOpen s = true →
      Answers (.windowRegisterWrite p 0x0030 [v]) s (fun t => t.sys.rstBits = s.sys.rstBits &&& ~~~(v.setWidth 16) ∧ (∀ q,
          t.hif.port q = s.hif.port q) ∧ t.hif.slots = s.hif.slots ∧
          t = { dozeWake s with hif := t.hif, sys := { (dozeWake s).sys with rstBits := t.sys.rstBits } })) ∧
  (∀ (p : HPort) (i : Nat) (v : W) (s : State),
      let q := s.hif.port (hport p)
      hifOpen s = true →
      i < 1024 →
      Memory.wf .queue q.sqMem = true →
      Answers (.windowRegisterWrite p (BitVec.ofNat 16 (0x1000 + 4 * i)) [v]) s (fun t => readWindow p (0x1000 + 4 * i) t = v ∧
          PortOnly (hport p) (dozeWake s) t ∧
          t.hif.port (hport p) = { q with sqMem := (t.hif.port (hport p)).sqMem, sqOld := (t.hif.port (hport p)).sqOld } ∧ ∀ a, (a < 4 * i ∨
          4 * i + 4 ≤ a) → Memory.read .queue (t.hif.port (hport p)).sqMem a = Memory.read .queue q.sqMem a)) ∧
  (∀ (p : HPort) (a : BitVec 16) (v : W) (s : State),
      hifOpen s = true →
      a = 0x0000 ∨ a = 0x000C ∨ a = 0x001C ∨ a = 0x0024 ∨ a = 0x0028 →
      Answers (.windowRegisterWrite p a [v]) s (fun t => (∀ q, t.hif.port q = s.hif.port q) ∧ PortOnly (hport p) (dozeWake s) t)) ∧
  (∀ (p : HPort) (a : BitVec 16) (ws : List W) (s : State),
      let q := s.hif.port (hport p)
      hifOpen s = true →
      1 ≤ ws.length ∧ ws.length ≤ 64 →
      a.toNat % 4 ≠ 0 ∨ (0x0140 ≤ a.toNat ∧ a.toNat < 0x0180) ∨ (0x0200 ≤ a.toNat ∧ a.toNat < 0x1000) ∨ 0x2000 ≤ a.toNat ∨
          (a.toNat < 0x0034 ∧ 0x0034 < a.toNat + 4 * ws.length) ∨ (0x1000 ≤ a.toNat ∧ a.toNat < 0x2000 ∧ 0x2000 < a.toNat + 4 * ws.length) →
      Answers (.windowRegisterWrite p a ws) s (fun t => t.hif.port (hport p) = { q with addrErr := true } ∧
          PortOnly (hport p) (dozeWake s) t)) ∧
  (∀ (p : HPort) (a : BitVec 16) (ws : List W) (s : State),
      let q := s.hif.port (hport p)
      hifOpen s = true →
      64 < ws.length →
      Answers (.windowRegisterWrite p a ws) s (fun t => t.hif.port (hport p) = { q with frmErr := true } ∧
          PortOnly (hport p) (dozeWake s) t))

/-- While the image's allocations wait, and no port's INUSE is above its own, every port takes its allocation at once with AVAIL = ALLOC
  - INUSE, the internal port 48, and no slot, session or queue changes; while some port does not fit, or none waits, nothing changes.
  Where a clause needs a reading of the manual or a choice, it is the model's: log entry 36. [derived: R87] -/
def Obligations.CreditReallocation : Prop :=
  (∀ (s : State),
      s.hif.allocPending = true →
      inUse .spia s ≤ pn Pid.HIF_CRED_SPIA s →
      inUse .spib s ≤ pn Pid.HIF_CRED_SPIB s →
      inUse .i2c s ≤ pn Pid.HIF_CRED_I2C s →
      inUse .internal s ≤ 48 →
      Answers .creditReallocation s (fun t => t.hif.allocPending = false ∧
          t.hif.spia = { s.hif.spia with alloc := pn Pid.HIF_CRED_SPIA s, avail := pn Pid.HIF_CRED_SPIA s - inUse .spia s } ∧
          t.hif.spib = { s.hif.spib with alloc := pn Pid.HIF_CRED_SPIB s, avail := pn Pid.HIF_CRED_SPIB s - inUse .spib s } ∧
          t.hif.i2c = { s.hif.i2c with alloc := pn Pid.HIF_CRED_I2C s, avail := pn Pid.HIF_CRED_I2C s - inUse .i2c s } ∧
          t.hif.internal = { s.hif.internal with alloc := 48, avail := 48 - inUse .internal s } ∧ t.hif.slots = s.hif.slots ∧
          t = { s with hif := t.hif })) ∧
  (∀ (s : State),
      s.hif.allocPending = false ∨ pn Pid.HIF_CRED_SPIA s < inUse .spia s →
      Answers .creditReallocation s (fun t => t = s))

/-- In NORMAL, with the credits in order, SESSION_OPEN leaves the session OPEN with SNUM one further (255 wraps to 1) and completes with
  SNUM, MODE and SERVICE, the credits, and the bounds 40, 1000, 25000 and 2000000 us; nothing else changes but its completion. SNAPSHOT
  in full service completes DONE with VLINK, VBAT, battery current, reported SoC, floor, STICKY_SUMMARY and the slots in use at their
  words; in early service it completes DONE_WITH_NOTE with the early words. Where a clause needs a reading of the manual or a choice, it
  is the model's: log entries 3, 34. [derived: R50; R80; R98] -/
def Obligations.SessionOpenAndSnapshot : Prop :=
  (∀ (p : Port) (tag : Tag) (x : Slot) (s : State),
      let q := s.hif.port p
      Admitted 0x001 p tag x s →
      CqRoom p s →
      q.avail + inUse p s = q.alloc →
      s.sys.mode = .normal →
      s.sys.service = .full →
      Answers (.sessionOpen p tag) s (fun t => CompletedWith p x 0x00 [w32 ((nextSnum q.snum).toNat + 256 + 1024), w32 (q.alloc +
          256 * q.avail + 65536 * inUse p s), 40, 1000, 25000, 2000000] s t ∧ (t.hif.port p).sess = .opened ∧
          (t.hif.port p).snum = (if q.snum = 255 then 1 else q.snum + 1) ∧ CompletionOnly p s t)) ∧
  (∀ (p : Port) (tag : Tag) (x : Slot) (s : State),
      s.sys.service = .full →
      Admitted 0x002 p tag x s →
      CqRoom p s →
      Answers (.snapshot p tag) s (fun t => CompletedWith p x 0x00 (snapshotWords p s) s t ∧ CompletionOnly p s t ∧
          cqWord p (s.hif.port p).cqTail 5 t = w32 s.path.vlink ∧ cqWord p (s.hif.port p).cqTail 6 t = w32 s.path.vbat ∧
          cqWord p (s.hif.port p).cqTail 7 t = wInt s.path.ibat ∧ cqWord p (s.hif.port p).cqTail 8 t = w32 (s.est.soc * 65536) ∧
          cqWord p (s.hif.port p).cqTail 9 t = w32 s.est.floorS ∧ cqWord p (s.hif.port p).cqTail 13 t = stickySummary s ∧
          cqWord p (s.hif.port p).cqTail 14 t = w32 (inUse .spia s + 256 * inUse .spib s + 65536 * inUse .i2c s +
          16777216 * inUse .internal s))) ∧
  (∀ (p : Port) (tag : Tag) (x : Slot) (s : State),
      s.sys.service = .early →
      Admitted 0x002 p tag x s →
      CqRoom p s →
      Answers (.snapshot p tag) s (fun t => CompletedWith p x 0x01 [s.sys.earlyPwr, earlySup s, monOk s, earlyStage s, rstCause s,
          wLo s.sys.devTime, wHi s.sys.devTime] s t ∧ CompletionOnly p s t))

/-- With Horto running, POSTED_EVENT takes the oldest raised event. A host port whose EVT.CAT bit of the event's category is set takes it
  at its event queue tail (SEQ, code, detail and the time it was raised), or, when its queue is full, counts a drop up to 255 and sets
  EVQ_DROP; either way its SEQ advances. A port whose bit is clear keeps its queue, and no submission or completion queue, slot or credit
  changes. Where a clause needs a reading of the manual or a choice, it is the model's: log entry 13. [derived: R82; R379] -/
def Obligations.EventsArePosted : Prop :=
  (∀ (p : HPort) (e : RaisedEvent) (l : List RaisedEvent) (s : State),
      let q := s.hif.port (hport p)
      s.hif.events = e :: l →
      s.sys.inReset = false →
      s.sys.hortoRuns = true →
      Memory.wf .queue q.evqMem = true →
      (evtCat (hport p) s).testBit ((e.code / 4096) % 16) = true →
      q.evqTail + 1 ≠ q.evqHead →
      Answers .postedEvent s (fun t => let r := t.hif.port (hport p); t.hif.events = l ∧ r.evqTail = q.evqTail + 1 ∧ r.evSeq = q.evSeq + 1 ∧
          r.dropped = q.dropped ∧ Memory.readW .queue r.evqMem (16 * q.evqTail.toNat) = w32 (q.evSeq.toNat * 65536 + e.code % 65536) ∧
          Memory.readW .queue r.evqMem (16 * q.evqTail.toNat + 4) = e.detail ∧ Memory.readW .queue r.evqMem (16 * q.evqTail.toNat +
          8) = wLo e.time ∧ Memory.readW .queue r.evqMem (16 * q.evqTail.toNat + 12) = wHi e.time ∧ (∀ a, (a < 16 * q.evqTail.toNat ∨
          16 * q.evqTail.toNat + 16 ≤ a) → Memory.read .queue r.evqMem a = Memory.read .queue q.evqMem a) ∧ r.sqMem = q.sqMem ∧
          r.cqMem = q.cqMem ∧ r.avail = q.avail ∧ t.hif.slots = s.hif.slots)) ∧
  (∀ (p : HPort) (e : RaisedEvent) (l : List RaisedEvent) (s : State),
      let q := s.hif.port (hport p)
      s.hif.events = e :: l →
      s.sys.inReset = false →
      s.sys.hortoRuns = true →
      (evtCat (hport p) s).testBit ((e.code / 4096) % 16) = true →
      q.evqTail + 1 = q.evqHead →
      Answers .postedEvent s (fun t => t.hif.events = l ∧
          t.hif.port (hport p) = { q with evSeq := q.evSeq + 1, dropped := min 255 (q.dropped + 1), evqDrop := true })) ∧
  (∀ (p : HPort) (e : RaisedEvent) (l : List RaisedEvent) (s : State),
      s.hif.events = e :: l →
      s.sys.inReset = false →
      s.sys.hortoRuns = true →
      (evtCat (hport p) s).testBit ((e.code / 4096) % 16) = false →
      Answers .postedEvent s (fun t => t.hif.events = l ∧ t.hif.port (hport p) = s.hif.port (hport p)))

/-- A PARAM_GET of known one-word parameters, up to 12, returns their present values, and of a table its words from the offset, 12 at
  most; of an unknown ID it completes BAD_PARAM_ID with index 0, and a table beside others, an offset beyond the table or on a parameter
  that is none fails at index 0. A PARAM_SET completes with the status of the first check that fails and its index, with nothing written,
  and raises SEQ_CONFIG where the range alone refuses a monitor's rail or threshold; a set that newly breaks a rule is OUT_OF_RANGE with
  index 0; one entry, or two, that pass every check and break no rule are DONE with their values live, and nothing else changes where the
  parameter has no effect at once. A new set point of a channel that runs slews its reference there. PARAM_COMMIT with nothing changed
  returns 0; with changes it writes the next copy, holding the values now in force, and returns their number. Where a clause needs a reading
  of the manual or a choice, it is the model's: log entries 9, 28. [derived: R101; R102; R104; R105; R170; R231; R465] -/
def Obligations.ParameterCommands : Prop :=
  (∀ (p : Port) (tag : Tag) (x : Slot) (id : Nat) (r : PInfo) (s : State),
      Admitted 0x101 p tag x s →
      CqRoom p s →
      x.payload = [w32 id] →
      id < 65536 →
      paramInfo id = some r →
      r.ty ≠ .tbl ∧ r.words = 1 ∧ r.cls ≠ .ro →
      Answers (.paramGet p tag) s (fun t => CompletedWith p x 0x00 [wInt (pv id s)] s t ∧ CompletionOnly p s t)) ∧
  (∀ (p : Port) (tag : Tag) (x : Slot) (id : Nat) (s : State),
      Admitted 0x101 p tag x s →
      CqRoom p s →
      x.payload = [w32 id] →
      id < 65536 →
      paramInfo id = none →
      Answers (.paramGet p tag) s (fun t => CompletedWith p x 0x13 [0] s t ∧ CompletionOnly p s t)) ∧
  (∀ (p : Port) (tag : Tag) (x : Slot) (e : SetEntry) (st : Nat) (s : State),
      Admitted 0x102 p tag x s →
      CqRoom p s →
      setEntries x = [e] →
      e.check s = some st →
      st ≠ 0x14 ∨ e.breaksSeq s = false →
      Answers (.paramSet p tag) s (fun t => CompletedWith p x st [0] s t ∧ CompletionOnly p s t)) ∧
  (∀ (p : Port) (tag : Tag) (x : Slot) (e : SetEntry) (r : PInfo) (v : W) (s : State),
      Admitted 0x102 p tag x s →
      CqRoom p s →
      setEntries x = [e] →
      e.check s = none →
      e.info = some r →
      e.vals = [v] →
      e.id < 0x1000 ∨ 0x9000 ≤ e.id ∨ (0x2000 ≤ e.id ∧ e.id < 0x3000 ∧ e.id ≠ Pid.CHG_EN) ∨
          (0x3000 ≤ e.id ∧ e.id < 0x3C00 ∧ e.id % 256 ≠ 0x01 ∧ e.id % 256 ≠ 0x2A) ∨ (0x3C00 ≤ e.id ∧ e.id < 0x4100) ∨
          (0x4300 ≤ e.id ∧ e.id < Pid.EST_FT_EN) ∨ (Pid.EST_DT_TIME < e.id ∧ e.id < 0x6000) →
      newlyBroken (rulesFor [e.id] s) (rulesFor [e.id] (setPv e.id e.off (cleanWord e.id e.off (r.value v)) s)) = false →
      Answers (.paramSet p tag) s (fun t => CompletedWith p x 0x00 [] s t ∧ pvw e.id e.off t = cleanWord e.id e.off (r.value v) ∧ (∀ id i,
          pkey id i ≠ pkey e.id e.off → pvw id i t = pvw id i s) ∧ CompletionOnly p (setPv e.id e.off (cleanWord e.id e.off (r.value v)) s) t)) ∧
  (∀ (p : Port) (tag : Tag) (x : Slot) (bad : Option (BitVec 8)) (s : State),
      Admitted 0x103 p tag x s →
      CqRoom p s →
      paramsChanged s = 0 →
      Answers (.paramCommit p tag bad) s (fun t => CompletedWith p x 0x00 [0] s t ∧ CompletionOnly p s t)) ∧
  (∀ (p : Port) (tag : Tag) (x : Slot) (s : State),
      Admitted 0x103 p tag x s →
      CqRoom p s →
      paramsChanged s ≠ 0 →
      Answers (.paramCommit p tag none) s (fun t => CompletedWith p x 0x00 [w32 (paramsChanged s)] s t ∧
          t.store.nvm.params.head?.map (·.2) = some (paramsNow s) ∧
          t = { s with hif := t.hif, store := { s.store with nvm := { s.store.nvm with params := t.store.nvm.params } } })) ∧
  (∀ (p : Port) (tag : Tag) (x : Slot) (e : SetEntry) (s : State),
      Admitted 0x102 p tag x s →
      CqRoom p s →
      setEntries x = [e] →
      e.check s = some 0x14 ∧ e.breaksSeq s = true →
      s.sys.inReset = false →
      Answers (.paramSet p tag) s (fun t => CompletedWith p x 0x14 [0] s t ∧ Picked 0x128 0x1C 0 s t ∧
          CompletionOnly p { s with selv := t.selv } t)) ∧
  (∀ (p : Port) (tag : Tag) (x : Slot) (e f : SetEntry) (st : Nat) (s : State),
      Admitted 0x102 p tag x s →
      CqRoom p s →
      setEntries x = [e, f] →
      e.check s = none ∧ f.check s = some st →
      st ≠ 0x14 ∨ f.breaksSeq s = false →
      Answers (.paramSet p tag) s (fun t => CompletedWith p x st [1] s t ∧ CompletionOnly p s t)) ∧
  (∀ (p : Port) (tag : Tag) (x : Slot) (e f : SetEntry) (r q : PInfo) (v w : W) (s : State),
      let u := setPv e.id e.off (cleanWord e.id e.off (r.value v)) s
      let u2 := setPv f.id f.off (cleanWord f.id f.off (q.value w)) u
      Admitted 0x102 p tag x s →
      CqRoom p s →
      setEntries x = [e, f] →
      e.check s = none ∧ f.check s = none →
      e.info = some r ∧ f.info = some q →
      e.vals = [v] ∧ f.vals = [w] →
      (e.id < 0x1000 ∨ 0x9000 ≤ e.id) ∧ (f.id < 0x1000 ∨ 0x9000 ≤ f.id) →
      newlyBroken (rulesFor [e.id, f.id] s) (rulesFor [e.id, f.id] u2) = false →
      Answers (.paramSet p tag) s (fun t => CompletedWith p x 0x00 [] s t ∧ CompletionOnly p u2 t)) ∧
  (∀ (p : Port) (tag : Tag) (x : Slot) (e : SetEntry) (r : PInfo) (v : W) (s : State),
      Admitted 0x102 p tag x s →
      CqRoom p s →
      setEntries x = [e] →
      e.check s = none →
      e.info = some r →
      e.vals = [v] →
      e.id < 0x4000 ∨ 0x5000 ≤ e.id →
      newlyBroken (rulesFor [e.id] s) (rulesFor [e.id] (setPv e.id e.off (cleanWord e.id e.off (r.value v)) s)) = true →
      Answers (.paramSet p tag) s (fun t => CompletedWith p x 0x14 [0] s t ∧ CompletionOnly p s t)) ∧
  (∀ (c : Fin 12) (p : Port) (tag : Tag) (x : Slot) (e : SetEntry) (r : PInfo) (v : W) (s : State),
      let u := setPv e.id e.off (cleanWord e.id e.off (r.value v)) s
      let y := s.pwr.vr[c]
      Admitted 0x102 p tag x s →
      CqRoom p s →
      setEntries x = [e] →
      e.check s = none →
      e.info = some r →
      e.vals = [v] →
      e.id = Pid.VR_VOUT_MV c.val →
      newlyBroken (rulesFor [e.id] s) (rulesFor [e.id] u) = false →
      y.st = .regulate ∨ y.st = .degraded →
      Answers (.paramSet p tag) s (fun t => CompletedWith p x 0x00 [] s t ∧ pvw e.id 0 t = r.value v ∧
          t.pwr.vr[c].setMv = targetMv c u ∧ t.pwr.vr[c].refMv = refNow c s ∧ t.pwr.vr[c].slewing = decide (refNow c s ≠ targetMv c u) ∧
          (∀ d, d ≠ c → t.pwr.vr[d] = s.pwr.vr[d]) ∧ CompletionOnly p { u with pwr := t.pwr } t)) ∧
  (∀ (p : Port) (tag : Tag) (x : Slot) (s : State),
      Admitted 0x101 p tag x s →
      CqRoom p s →
      x.payload ≠ [] ∧ x.payload.length ≤ 12 →
      x.payload.all (fun w => (paramInfo (bitsOf w 0 16)).any (fun r => decide (r.ty ≠ .tbl ∧ r.words = 1 ∧ bitsOf w 16 16 = 0))) = true →
      Answers (.paramGet p tag) s (fun t =>
          CompletedWith p x 0x00 (x.payload.map (fun w =>
            (paramInfo (bitsOf w 0 16)).elim 0 (fun r => wInt (readPv r (bitsOf w 0 16) 0 s)))) s t ∧ CompletionOnly p s t)) ∧
  (∀ (p : Port) (tag : Tag) (x : Slot) (h : W) (r : PInfo) (s : State),
      let o := bitsOf h 16 16
      Admitted 0x101 p tag x s →
      CqRoom p s →
      x.payload = [h] →
      paramInfo (bitsOf h 0 16) = some r →
      r.ty = .tbl ∧ o < r.words →
      Answers (.paramGet p tag) s (fun t =>
          CompletedWith p x 0x00 ((List.range (min 12 (r.words - o))).map (fun i => wInt (readPv r (bitsOf h 0 16) (o + i) s))) s t ∧
          CompletionOnly p s t)) ∧
  (∀ (p : Port) (tag : Tag) (x : Slot) (h : W) (l : List W) (r : PInfo) (s : State),
      Admitted 0x101 p tag x s →
      CqRoom p s →
      x.payload = h :: l →
      paramInfo (bitsOf h 0 16) = some r →
      (r.ty = .tbl ∧ l ≠ []) ∨ (r.ty = .tbl ∧ r.words ≤ bitsOf h 16 16) ∨ (r.ty ≠ .tbl ∧ bitsOf h 16 16 ≠ 0) →
      Answers (.paramGet p tag) s (fun t =>
          CompletedWith p x (if r.ty = .tbl ∧ l ≠ [] then 0x12 else 0x14) [0] s t ∧ CompletionOnly p s t))

/-- An admitted TEST_MODE with word 1 [0] = 1 and the confirm word, in NORMAL, outside Safe Hold and limp service and with no test
  running, makes the mode TEST, posts MODE_CHANGE from 1 to 2 and completes DONE with the mode in force; another confirm word completes
  OUT_OF_RANGE and another mode or Safe Hold WRONG_STATE (result word 0 is the model's choice), with nothing changed. A leave with no test
  running and no command deferred makes the mode NORMAL, withdraws the injections and, unless SEQ.MARGIN_ALLOW is 1, returns every margin to
  0 %; with the margins allowed or at 0 % it changes nothing else but its completion DONE; outside TEST it completes WRONG_STATE. Where a
  clause needs a reading of the manual or a choice, it is the model's: log entries 9, 49. [derived: R34; R35; log entry 9] -/
def Obligations.TestModeCommand : Prop :=
  (∀ (p : Port) (tag : Tag) (x : Slot) (s : State),
      Admitted 0x011 p tag x s →
      CqRoom p s →
      (x.word 1).getLsbD 0 = true →
      x.word 2 = 0x54450000 →
      s.sys.mode = .normal ∧ s.sys.service = .full →
      s.heddle.safeHold = false ∧ s.est.test = none →
      s.sys.inReset = false →
      Answers (.testModeEnter p tag) s (fun t => CompletedWith p x 0x00 [2] s t ∧ Raised 0x0001 0x12 s t ∧
          t = { s with hif := t.hif, sys := { s.sys with mode := .test } } ∧ CompletionOnly p (setMode .test s) t)) ∧
  (∀ (p : Port) (tag : Tag) (x : Slot) (s : State),
      Admitted 0x011 p tag x s →
      CqRoom p s →
      (x.word 1).getLsbD 0 = true →
      x.word 2 ≠ 0x54450000 →
      Answers (.testModeEnter p tag) s (fun t => CompletedWith p x 0x14 [1] s t ∧ CompletionOnly p s t)) ∧
  (∀ (p : Port) (tag : Tag) (x : Slot) (s : State),
      Admitted 0x011 p tag x s →
      CqRoom p s →
      (x.word 1).getLsbD 0 = true →
      x.word 2 = 0x54450000 →
      s.sys.mode ≠ .normal ∨ s.heddle.safeHold = true ∨ s.est.test.isSome = true ∨ s.sys.service = .limp →
      Answers (.testModeEnter p tag) s (fun t => CompletedWith p x 0x17 [0] s t ∧ CompletionOnly p s t)) ∧
  (∀ (p : Port) (tag : Tag) (x : Slot) (s : State),
      Admitted 0x011 p tag x s →
      CqRoom p s →
      (x.word 1).getLsbD 0 = false →
      s.sys.mode = .test →
      s.est.test = none ∧ deferredSlots s = [] →
      pb Pid.SEQ_MARGIN_ALLOW s = true ∨ (∀ c : Fin 12, s.pwr.vr[c].margin = 0) →
      s.sys.inReset = false →
      Answers (.testModeLeave p tag) s (fun t => CompletedWith p x 0x00 [1] s t ∧ Raised 0x0001 0x21 s t ∧
          t = { s with hif := t.hif, sys := { s.sys with mode := .normal }, selv := { s.selv with injections := [] } })) ∧
  (∀ (p : Port) (tag : Tag) (x : Slot) (s : State),
      Admitted 0x011 p tag x s →
      CqRoom p s →
      (x.word 1).getLsbD 0 = false →
      s.sys.mode ≠ .test →
      Answers (.testModeLeave p tag) s (fun t => CompletedWith p x 0x17 [0] s t ∧ CompletionOnly p s t)) ∧
  (∀ (p : Port) (tag : Tag) (x : Slot) (s : State),
      Admitted 0x011 p tag x s →
      (x.word 1).getLsbD 0 = false →
      s.sys.mode = .test →
      s.est.test = none ∧ deferredSlots s = [] →
      pb Pid.SEQ_MARGIN_ALLOW s = false →
      Answers (.testModeLeave p tag) s (fun t => t.sys.mode = .normal ∧ t.selv.injections = [] ∧ ∀ c : Fin 12, t.pwr.vr[c].margin = 0))

/-- POR_RELEASE with every supply good ends POR, latches the straps, starts the Power Frame and records the POR's cause; a supply too low
  changes nothing. The OTP check loads the shadows; a mismatching region keeps the digital domain in reset with that region in the
  pattern; an invalid life-cycle pattern sends OTP_LC_INVALID. SYS lock begins the recall (busy 3.2 ms); STAGE becomes 2 when both are
  done. Early service opens the host interfaces, and posts the chip-reset notice on a port that owes one. ACQ lock starts the rings;
  CLOCK_DEGRADED stays when the crystal has failed. RESET_N held low at POR keeps the reset until it rises. The pattern on GPIO3 toggles
  in the digest hold. Where a clause needs a reading of the manual or a choice, it is the model's: log entries 8, 33, 49. [derived: R44;
  R45; R47; R50; R51; R58; R59; R96; R409; R419; R420] -/
def Obligations.StartUpStages : Prop :=
  (∀ (low : Bool) (straps : BitVec 2) (v : Supplies) (s : State),
      let y := s.sys
      y.porActive = true →
      5600 ≤ v.vin ∧ 4400 ≤ v.vcc5 ∧ 740 ≤ v.vddc →
      Answers (.porRelease low straps v) s (fun t => t = { s with
            sys := { y with porActive := false, inReset := low, resetHeld := low, sup := v, frameRun := true, rstLast := BitVec.ofNat 4 y.porCause, rstBits := y.rstBits ||| (if y.porCause = 0 then 0x0001 else
            if y.porCause = 1 then 0x0002 else if y.porCause = 2 then 0x0004 else if y.porCause = 4 then 0x0080 else
            if y.porCause = 12 then 0x8000 else 0) }, hif := { s.hif with straps := straps },
            store := { s.store with rtc := { s.store.rtc with vddio33 := decide (2500 < v.vddio), onBkup := false } } })) ∧
  (∀ (low : Bool) (straps : BitVec 2) (v : Supplies) (s : State),
      s.sys.porActive = true →
      v.vin < 5600 ∨ v.vcc5 < 4400 ∨ v.vddc < 740 →
      Answers (.porRelease low straps v) s (fun t => t = s)) ∧
  (∀ (s : State),
      let s1 := s.onOtp (fun o => { o with shadow := o.words })
      starting s = true →
      s.sys.boot.otpDone = false →
      badRegion s = none →
      lcValid (otpShadow 0x1A0 s1) = true →
      thermoGap (thermoBits 0x1A1 8 (fun a => otpShadow a s1)) = false ∧ thermoGap (thermoBits 0x1A9 6 (fun a => otpShadow a s1)) = false →
      Answers .otpDigestCheck s (fun t => t.store.otp.shadow = s.store.otp.words ∧ t.sys.boot.otpDone = true ∧
          t.sys.stage = (if s.sys.boot.sysLocked = true ∧ s.sys.stage = 0x01 then 0x02 else s.sys.stage) ∧
          t = { s1 with sys := { s.sys with boot := { s.sys.boot with otpDone := true }, stage := t.sys.stage } })) ∧
  (∀ (r : Nat) (s : State),
      starting s = true →
      s.sys.boot.otpDone = false →
      badRegion s = some r →
      Answers .otpDigestCheck s (fun t => t.sys.digestHold = some r ∧ t.sys.inReset = true ∧ hifOpen t = false ∧ t = { s with
            sys := { s.sys with digestHold := some r, inReset := true },
            store := { s.store with otp := { s.store.otp with shadow := s.store.otp.words } } })) ∧
  (∀ (s : State),
      let s1 := s.onOtp (fun o => { o with shadow := o.words })
      starting s = true →
      s.sys.boot.otpDone = false →
      badRegion s = none →
      lcValid (otpShadow 0x1A0 s1) = false →
      thermoGap (thermoBits 0x1A1 8 (fun a => otpShadow a s1)) = false ∧ thermoGap (thermoBits 0x1A9 6 (fun a => otpShadow a s1)) = false →
      Answers .otpDigestCheck s (fun t => Picked 0x208 0x21 0 s t ∧ t.sys.boot.otpDone = true ∧ lcNow t = .decommissioned)) ∧
  (∀ (r : Nat) (s : State),
      s.sys.digestHold = some r →
      Answers .digestPatternToggle s (fun t => t = { s with
            sys := { s.sys with digestPattern := true, digestToggle := (if s.sys.digestPattern = true then !s.sys.digestToggle else
            s.sys.digestToggle) } })) ∧
  (∀ (s : State),
      starting s = true →
      s.sys.boot.sysLocked = false →
      Answers .sysPllLock s (fun t => t.sys.boot.sysLocked = true ∧ t.sys.nvmBusy = s.sys.devTime + 3200 ∧
          t.sys.stage = (if s.sys.boot.otpDone = true ∧ s.sys.stage = 0x01 then 0x02 else s.sys.stage) ∧ t = { s with
            sys := { s.sys with boot := { s.sys.boot with sysLocked := true }, nvmBusy := s.sys.devTime + 3200, stage := t.sys.stage } })) ∧
  (∀ (s : State),
      starting s = true →
      s.sys.boot.sysLocked = true ∧ s.sys.inReset = false →
      Answers .acqPllLock s (fun t => t = { s with
            acq := { s.acq with degraded := s.sys.xtalFailed, rings := true },
            sys := { s.sys with boot := { s.sys.boot with acqLocked := true } } })) ∧
  (∀ (s : State),
      starting s = true →
      s.sys.boot.earlyOpen = false ∧ s.sys.boot.otpDone = true ∧ s.sys.boot.sysLocked = true →
      s.selv.frameFlags = [] →
      s.hif.spia.noticeDue = false ∧ s.hif.spib.noticeDue = false ∧ s.hif.i2c.noticeDue = false →
      Answers .earlyServiceOpen s (fun t => hifOpen t = true ∧ t.sys.inReset = false ∧
          t = { s with sys := { s.sys with inReset := false, boot := { s.sys.boot with earlyOpen := true } }, heddle := t.heddle } ∧
          t.heddle = { s.heddle with w := t.heddle.w })) ∧
  (∀ (p : HPort) (s : State),
      let q := s.hif.port (hport p)
      starting s = true →
      s.sys.boot.earlyOpen = false ∧ s.sys.boot.otpDone = true ∧ s.sys.boot.sysLocked = true →
      q.noticeDue = true →
      q.cqFree = true →
      Memory.wf .queue q.cqMem = true →
      Answers .earlyServiceOpen s (fun t => cqWord (hport p) q.cqTail 0 t = 0x00002100 ∧ cqWord (hport p) q.cqTail 4 t = rstCause s ∧
          cqWord (hport p) q.cqTail 5 t = wLo s.sys.resetTime ∧ cqWord (hport p) q.cqTail 6 t = wHi s.sys.resetTime ∧
          (t.hif.port (hport p)).cqTail = q.cqTail + 1 ∧ (t.hif.port (hport p)).noticeDue = false ∧ (t.hif.port (hport p)).avail = q.avail)) ∧
  (∀ (s : State),
      s.sys.resetHeld = true →
      Answers .resetNReleaseHeld s (fun t => t = { s with sys := { s.sys with resetHeld := false, inReset := false } })) ∧
  (∀ (s : State),
      Answers .xtal32Confirm s (fun t => t = { s with store := { s.store with rtc := { s.store.rtc with rc := false, rcPpm := 0 } } }))

/-- A recall with no bad page serves the newest learned tables and, at a start after POR, gives the caddy and the counters of the newest
  complete kettle set back; with no complete parameter copy BOOT_ERR reads 4; a bad identification page is flagged with NVM_ID_BAD.
  Secure boot boots the first bank whose Horto image verifies, with 100 ms boot windows; the second one with BOOT_ERR 1 or 5 and
  FW_VERIFY; with neither, BOOT_ERR is 2 and Horto does not run. A bad configuration image gives BOOT_ERR 3; a valid one is taken with
  its serial, and every EN and GPIO output leaves high impedance. Full service makes the mode NORMAL, but in Safe Hold mode and service
  stay. Auto-start begins with the first auto group of the order. Where a clause needs a reading of the manual or a choice, it is the
  model's: log entries 14, 19, 37, 46, 48. [derived: R15; R36; R45; R46; R238; R391; R404; R409; R413; R426; R428; R429] -/
def Obligations.SecureBootToFullService : Prop :=
  (∀ (s : State),
      s.sys.boot.sysLocked = true ∧ s.sys.boot.recallDone = false ∧ s.sys.boot.autoDue = false →
      s.sys.porActive = false ∧ s.sys.resetHeld = false ∧ s.sys.digestHold = none →
      Answers (.nvmRecall []) s (fun t => t.sys.boot.recallDone = true ∧ t.store = s.store ∧ t.chg = s.chg ∧ t.path = s.path ∧
          t.sys.bootErr = (if s.store.nvm.params = [] ∧ s.sys.bootErr = 0 then 4 else if newestKettle s = none ∧
          s.store.nvm.faultSets ≠ [] ∧ s.sys.bootErr = 0 then 4 else s.sys.bootErr) ∧
          t.est.ocv.served = (s.store.nvm.learned.head?.map (·.2)).bind (·.ocv) ∧
          t.est.cap.served = (s.store.nvm.learned.head?.map (·.2)).bind (·.cap) ∧
          t.est.rs.served = (s.store.nvm.learned.head?.map (·.2)).bind (·.rs) ∧ t.est.caddy = s.est.caddy)) ∧
  (∀ (k : KettleSet) (s : State),
      s.sys.boot.sysLocked = true ∧ s.sys.boot.recallDone = false ∧ s.sys.boot.autoDue = true ∧ s.sys.boot.startEntryDue = true →
      s.sys.porActive = false ∧ s.sys.resetHeld = false ∧ s.sys.digestHold = none →
      newestKettle s = some k →
      Answers (.nvmRecall []) s (fun t => t.sys.boot.recallDone = true ∧ t.est.caddy = k.est.caddy ∧ t.est.socQ = k.est.socQ ∧
          t.path.transfers = max (storedCount 0x1031 s) k.transfers ∧ t.chg.cycles = max (storedCount 0x2044 s) k.chg.cycles ∧
          t.chg.tmrTrk = k.chg.tmrTrk ∧ t.chg.tmrPre = k.chg.tmrPre ∧ t.chg.tmrCc = k.chg.tmrCc ∧ t.chg.st = (if k.chg.tmoPhase ≠ 0 then
          .suspended else .off) ∧ t.sys.boot.staleRun = decide (k.run < s.store.nvm.run))) ∧
  (∀ (page : Nat) (s : State),
      s.sys.boot.sysLocked = true ∧ s.sys.boot.recallDone = false ∧ s.sys.boot.autoDue = false ∧ s.sys.boot.startEntryDue = false →
      s.sys.porActive = false ∧ s.sys.resetHeld = false ∧ s.sys.digestHold = none →
      page < 256 ∧ areaPage page s = 0 →
      Answers (.nvmRecall [page]) s (fun t => t.store.nvm.idBad = true ∧ Picked 0x200 0x14 page s t)) ∧
  (∀ (f : BootFacts) (s : State),
      let a := activeBank s
      s.sys.boot.earlyOpen = true ∧ s.sys.inReset = false ∧ s.sys.boot.bootDone = false ∧ s.sys.bootErr ≠ 2 →
      lcNow s ≠ .decommissioned →
      s.sys.rstLast ≠ 5 →
      s.heddle.safeHold = false ∧ s.sys.pfHeld = false ∧ s.sys.boot.cfgLoaded = false →
      imgOk (bankOf f a).horto s = true ∧ hortoCounter s ≤ (bankOf f a).horto.rollback →
      Answers (.secureBoot f) s (fun t => t.sys.boot.bootDone = true ∧ t.sys.hortoRuns = true ∧ t.sys.stage = 0x03 ∧
          t.sys.hortoVer = (bankOf f a).horto.version ∧ t.store.fw.bankB = a ∧ t.sys.bootErr = s.sys.bootErr ∧ ∀ i : Fin 9,
          t.heddle.w[i].boot = some (s.sys.devTime, 100))) ∧
  (∀ (f : BootFacts) (s : State),
      let a := activeBank s
      s.sys.boot.earlyOpen = true ∧ s.sys.inReset = false ∧ s.sys.boot.bootDone = false ∧ s.sys.bootErr ≠ 2 →
      lcNow s ≠ .decommissioned →
      s.sys.rstLast ≠ 5 →
      s.heddle.safeHold = false →
      bootable f a s = false ∧ bootable f (!a) s = true →
      Answers (.secureBoot f) s (fun t => t.sys.bootErr = (if a = true then 5 else 1) ∧ t.sys.boot.bootDone = true ∧ t.store.fw.bankB = !a ∧
          Delivered 0x210 0x28 0 s t)) ∧
  (∀ (f : BootFacts) (s : State),
      let a := activeBank s
      s.sys.boot.earlyOpen = true ∧ s.sys.inReset = false ∧ s.sys.boot.bootDone = false ∧ s.sys.bootErr ≠ 2 →
      lcNow s ≠ .decommissioned →
      s.sys.rstLast ≠ 5 →
      bootable f true s = false ∧ bootable f false s = false →
      Answers (.secureBoot f) s (fun t => t.sys.bootErr = 2 ∧ t.sys.boot.bootDone = false ∧ t.sys.hortoRuns = s.sys.hortoRuns ∧
          t.sys.mode = s.sys.mode ∧ Picked 0x210 0x28 0 s t ∧ Raised 0xB001 2 s t ∧ t.pwr = s.pwr)) ∧
  (∀ (serial : W) (img : List (Nat × List W)) (s : State),
      s.sys.boot.bootDone = true ∧ s.sys.boot.cfgLoaded = false ∧ s.sys.inReset = false ∧ s.sys.bootErr = 0 →
      imageOk img s = false →
      Answers (.configLoad serial img) s (fun t => t.sys.bootErr = 3 ∧ t.sys.boot.cfgLoaded = false ∧ Picked 0x210 0x28 0 s t ∧
          Raised 0xB001 3 s t ∧ t.store = s.store ∧ t.pwr = s.pwr)) ∧
  (∀ (serial : W) (img : List (Nat × List W)) (s : State),
      s.sys.boot.bootDone = true ∧ s.sys.boot.cfgLoaded = false ∧ s.sys.inReset = false ∧ s.sys.bootErr = 0 →
      imageOk img s = true →
      Answers (.configLoad serial img) s (fun t => t.sys.boot.cfgLoaded = true ∧ t.sys.cfgSerial = serial ∧ t.sys.bootErr = 0 ∧
          t.store.par.img = imageKeys img ∧ (∀ e : Fin 16, t.pwr.en[e].hiZ = false) ∧ ∀ n : Fin 16, t.gpio[n].hiZ = false)) ∧
  (∀ (s : State),
      serviceReady s = true →
      s.sys.boot.full = false →
      s.heddle.safeHold = false ∧ s.sys.service = .early ∧ s.sys.mode = .startUp →
      Answers .fullService s (fun t => t.sys.mode = .normal ∧ t.sys.service = .full ∧ t.sys.stage = 0x04 ∧ t.sys.boot.full = true)) ∧
  (∀ (s : State),
      serviceReady s = true →
      s.heddle.safeHold = true →
      Answers .fullService s (fun t => t.sys.mode = s.sys.mode ∧ t.sys.service = s.sys.service)) ∧
  (∀ (g : Fin 8) (l : List (Fin 8)) (s : State),
      s.sys.boot.autoDue = true ∧ s.sys.boot.firstRound = true ∧ s.sys.boot.full = true →
      (seqOrder s).filter (fun k => groupAuto k s) = g :: l →
      s.pwr.grp[g].st = .down →
      s.sys.inReset = false →
      Answers .autoStart s (fun t => t.sys.boot.autoDue = false ∧ t.pwr.autoQueue = g :: l ∧ t.pwr.grp[g].st = .upRun ∧
          t.pwr.grp[g].attempts = 1 ∧ t.pwr.vr = s.pwr.vr ∧ t.pwr.ldo = s.pwr.ldo ∧ t.pwr.en = s.pwr.en)) ∧
  (∀ (s : State),
      s.sys.boot.autoDue = true ∧ s.sys.boot.firstRound = true ∧ s.sys.boot.full = true →
      (seqOrder s).filter (fun k => groupAuto k s) = [] →
      Answers .autoStart s (fun t => t = { s with sys := { s.sys with boot := { s.sys.boot with autoDue := false } } }))

/-- A loss of SYS takes a chip reset with CLKMON in RSTCAUSE; a loss of ACQ degrades its results and sends CLKMON_ACQ, and a loss of
  FRAME turns to the backup oscillator and sends CLKMON_FRAME; the 32 kHz crystal's failure keeps AON on its RC and sends XTAL32_FAIL.
  CDC_OVERRUN of a crossing that carries events sets its flag, counts up to 255 on the crossings with a counter, and sends its pick. DOZE is entered only when
  every condition of R65 holds and no group is busy (R208), and ends at any wake. The early converter gives its four saturating codes each millisecond. A beat ends
  the last beat's suspension and class-0 count; an overrunning task is suspended with DRAFT_OVERRUN. The audit sends CONSERVATION for
  each broken invariant and repairs nothing. Where a clause needs a reading of the manual or a choice, it is the model's: log entries 2,
  24, 49. [derived: R30; R33; R39; R51; R59; R62; R64; R65] -/
def Obligations.ClocksCrossingsAndBeat : Prop :=
  (∀ (xf : Bool) (s : State),
      s.sys.porActive = false ∧ s.sys.power = .run ∧ s.sys.planned.sys = false ∧ s.sys.digestHold = none →
      s.sys.rstnLong = false →
      Answers (.clkmonSysFail xf) s (fun t => t.sys.inReset = true ∧ t.sys.sysFail = true ∧ t.sys.rstLast = 8 ∧
          t.sys.rstBits = s.sys.rstBits ||| 0x2000 ∧ t.sys.xtalFailed = (s.sys.xtalFailed || xf) ∧ t.pwr.vr = s.pwr.vr ∧
          t.pwr.en = s.pwr.en ∧ t.pwr.ldo = s.pwr.ldo ∧ ∃ f ∈ t.selv.frameFlags, f.pick.src = 0x040 ∧ f.pick.kind = 0x10)) ∧
  (∀ (s : State),
      s.sys.boot.acqLocked = true ∧ s.sys.inReset = false ∧ s.sys.planned.acq = false ∧
          (∀ j : Fin 8, s.acq.slot[j].st ≠ .running) →
      swf {} s.eic.src = true →
      Answers .clkmonAcqFail s (fun t => t.sys = { s.sys with acqFail := true } ∧ t.acq = { s.acq with
            degraded := true, restart := s.acq.restart || s.acq.running } ∧
          PickSent 220 0x040 0x11 0 s t ∧ Latched 220 s t ∧ EdgeFrame { s with sys := t.sys, acq := t.acq } t)) ∧
  (∀ (s : State),
      s.sys.boot.acqLocked = true ∧ s.sys.inReset = false ∧ s.sys.planned.acq = false →
      Answers .clkmonAcqFail s (fun t => t.sys.acqFail = true ∧ t.acq.degraded = true ∧
          t.acq.restart = (s.acq.restart || s.acq.running) ∧ (t.eic.get 220).pending = true ∧
          (∀ j : Fin 8, s.acq.slot[j].st ≠ .running → t.acq.slot[j].st = s.acq.slot[j].st) ∧ t.path.link = s.path.link ∧
          t.pwr.vr = s.pwr.vr)) ∧
  (∀ (s : State),
      s.sys.frameRun = true ∧ s.sys.frameBackup = false ∧ s.sys.inReset = false →
      swf {} s.eic.src = true →
      Answers .frameClockLoss s (fun t => t.sys = { s.sys with frameBackup := true, frameFail := true } ∧ PickSent 220 0x040 0x12 0 s t ∧
          Latched 220 s t ∧ EdgeFrame { s with sys := t.sys } t)) ∧
  (∀ (s : State),
      s.sys.inReset = false →
      swf {} s.eic.src = true →
      Answers .xtal32Fail s (fun t => t.store = { s.store with rtc := { s.store.rtc with rc := true } } ∧ PickSent 222 0x040 0x14 0 s t ∧
          Latched 222 s t ∧ EdgeFrame { s with store := t.store } t)) ∧
  (∀ (x : BitVec 5) (s : State),
      let n := x.toNat
      n ∈ [0x02, 0x04, 0x05, 0x07, 0x08, 0x0C, 0x0E, 0x10] →
      s.sys.inReset = false ∧ s.sys.porActive = false →
      swf {} s.eic.src = true ∧ swf 0 s.sys.overrunCount = true →
      Answers (.cdcOverrun x) s (fun t => t.sys.overrun = s.sys.overrun ||| (1#20 <<< n) ∧ sget 0 t.sys.overrunCount n = (if n = 2 ∨ n = 5 ∨
          n = 8 ∨ n = 12 then min 255 (sget 0 s.sys.overrunCount n + 1) else sget 0 s.sys.overrunCount n) ∧ (∀ k, k ≠ n →
          sget 0 t.sys.overrunCount k = sget 0 s.sys.overrunCount k) ∧ PickSent 223 0x041 0x06 n s t ∧ Latched 223 s t ∧
          EdgeFrame { s with sys := { s.sys with overrun := t.sys.overrun, overrunCount := t.sys.overrunCount } } t)) ∧
  (∀ (x : BitVec 5) (s : State),
      x.toNat ∉ [0x02, 0x04, 0x05, 0x07, 0x08, 0x0C, 0x0E, 0x10] →
      Answers (.cdcOverrun x) s (fun t => t = s)) ∧
  (∀ (n : Nat) (s : State),
      pb Pid.SYS_DOZE_EN s = true ∧ pn Pid.SYS_DOZE_MIN_US s ≤ n →
      s.hif.slots.all (fun x => x.status.isFinished) = true ∧ (∀ i : Fin 8, s.acq.slot[i].st ≠ .armed ∧ s.acq.slot[i].st ≠ .running) ∧ seqBusy s = false →
      s.chg.pwm = false ∧ s.pd.a.pos = 0 ∧ s.pd.b.pos = 0 ∧ s.sys.mode = .normal →
      cmdRuns s = true ∧ s.sys.power = .run ∧ s.sys.sleepReq = none →
      Answers (.dozeEntry n) s (fun t => t = { s with
            sys := { s.sys with power := .doze, planned := { s.sys.planned with sys := true, acq := !s.acq.running } },
            acq := { s.acq with rings := false } })) ∧
  (∀ (n : Nat) (s : State),
      pb Pid.SYS_DOZE_EN s = false ∨ n < pn Pid.SYS_DOZE_MIN_US s ∨ s.chg.pwm = true ∨ s.pd.a.pos ≠ 0 ∨ s.pd.b.pos ≠ 0 ∨
          s.sys.mode ≠ .normal ∨ seqBusy s = true →
      Answers (.dozeEntry n) s (fun t => t = s)) ∧
  (∀ (s : State),
      s.sys.power = .doze →
      Answers .dozeWake s (fun t => t = { s with
            sys := { s.sys with power := .run, planned := {} }, acq := { s.acq with rings := s.sys.boot.acqLocked } })) ∧
  (∀ (vin vlink vbat : Nat) (die : Int) (s : State),
      s.sys.porActive = false ∧ s.sys.power ≠ .ship →
      Answers (.earlySample vin vlink vbat die) s (fun t => t.sys.earlyPwr = w32 (min 255 (vin / 400) + 256 * min 255 (vlink / 400) +
          65536 * min 255 (vbat / 400) + 16777216 * (max 0 (min 255 (die + 64))).toNat) ∧ t.sys.devTime % 1000 = 0 ∧
          s.sys.devTime ≤ t.sys.devTime ∧
          t = { s with sys := { s.sys with devTime := t.sys.devTime, ticks := t.sys.ticks, earlyPwr := t.sys.earlyPwr } })) ∧
  (∀ (s : State),
      s.sys.porActive = false ∧ s.sys.inReset = false ∧ s.sys.power = .run →
      s.est.test = none ∧ s.est.cutDown = none →
      Answers (.draftBeat none) s (fun t => t.sys.devTime % 100 = 0 ∧ s.sys.devTime ≤ t.sys.devTime ∧ t.sys.class0Starts = 0 ∧
          t.sys.suspended = [] ∧ t = { s with
            sys := { s.sys with devTime := t.sys.devTime, ticks := t.sys.ticks, reserved := t.sys.reserved, class0Starts := 0, suspended := [] } })) ∧
  (∀ (n : BitVec 16) (s : State),
      s.sys.porActive = false ∧ s.sys.inReset = false ∧ s.sys.power = .run →
      s.est.test = none ∧ s.est.cutDown = none →
      cmdRuns s = true →
      Answers (.draftBeat (some n)) s (fun t => t.sys.suspended = [n] ∧
          t.selv = Selv.deliver { pick := mkPick 0x01E 0x0A n.toNat, carried := false, time := t.sys.devTime } s.selv ∧
          t.sys.devTime % 100 = 0 ∧ t = { s with sys := t.sys, selv := t.selv })) ∧
  (∀ (s : State),
      procsRun s = true ∧ s.sys.dbgHalt.getLsbD 8 = false →
      creditsOk s = true ∧ caddyOk s = true ∧ picksOk s = true →
      Answers .conservationAudit s (fun t => t = { s with sys := { s.sys with auditClean := true } })) ∧
  (∀ (s : State),
      procsRun s = true ∧ s.sys.dbgHalt.getLsbD 8 = false →
      creditsOk s = false ∧ caddyOk s = true ∧ picksOk s = true →
      Answers .conservationAudit s (fun t => Picked 0x01F 0x07 1 s t ∧
          t = { s with sys := { s.sys with auditClean := false }, selv := t.selv })) ∧
  (∀ (s : State),
      procsRun s = true ∧ s.sys.dbgHalt.getLsbD 8 = false →
      creditsOk s = true ∧ caddyOk s = false ∧ picksOk s = true →
      Answers .conservationAudit s (fun t => Picked 0x01F 0x07 2 s t ∧
          t = { s with sys := { s.sys with auditClean := false }, selv := t.selv }))

/-- A supply below its brown-out level asserts POR, which gives every block its reset value, and keeps the OTP, the flash, the calendar
  and the queue of waiting commands, with its cause in LAST at release. AON loses its calendar with its supply. RESET_N short, and a chip
  reset that has begun, put the digital domain in reset, note the cause and count one chip reset, and leave every regulator channel, LDO,
  enable output, monitor, the charge accumulator, the evidence records, the OTP and the calendar as they were, with the host queues empty
  and a notice owed. A block reset of a host port with no command outstanding clears its own interface state only; one of a Shuttle, of the
  charger, of the acquisition or of the PD core restarts that block with what it held lost, under a new boot window where one is watched,
  and sets RSTCAUSE's bit; the long form of RESET_N with a rail up begins the power-down; a CMD restart enters RECOVERY and limp service
  under a new boot window. Where a clause needs a reading of the manual or a choice, it is the model's: log entries 8, 34, 38, 49. [derived:
  R19; R20; R22; R44; R52; R53; R54; R55; R56; R57; R348; R475] -/
def Obligations.ResetsAndWhatTheyKeep : Prop :=
  (∀ (why : PorCause) (s : State),
      s.sys.porActive = false ∧ brownOut why = true →
      Answers (.porAssert why) s (fun t => t.sys.porActive = true ∧ t.sys.inReset = true ∧ t.sys.rstBits = 0 ∧ t.sys.devTime = 0 ∧
          t.sys.porCause = (match why with
        | .vin _ => 0
        | .vcc5 _ => 1
        | .vddc _ => 2) ∧ t.pwr = State.reset.pwr ∧ t.chg = State.reset.chg ∧ t.est = State.reset.est ∧ t.acq = State.reset.acq ∧
          t.pd = State.reset.pd ∧ t.selv = State.reset.selv ∧ t.eic = State.reset.eic ∧ t.heddle = State.reset.heddle ∧
          t.hif = State.reset.hif ∧ t.store.par = {} ∧ t.store.otp.words = s.store.otp.words ∧ t.store.fw.flash = s.store.fw.flash ∧
          t.store.rtc.cal = s.store.rtc.cal ∧ t.pending = s.pending)) ∧
  (∀ (s : State),
      Answers .aonSupplyLoss s (fun t => t = { s with store := { s.store with rtc := {} } })) ∧
  (∀ (s : State),
      let t0 := s.sys
      t0.porActive = false ∧ t0.resetHeld = false ∧ t0.power = .run ∧ t0.digestHold = none ∧ t0.rstnLong = false →
      t0.saving = false ∧ s.est.test = none →
      Answers .resetNShort s (fun t => t.sys.inReset = true ∧ t.sys.rstLast = 3 ∧ t.sys.rstBits = t0.rstBits ||| 0x0040 ∧
          t.sys.chipCount = min 255 (t0.chipCount + 1) ∧ t.sys.devTime = t0.devTime ∧ t.sys.resetTime = t0.devTime ∧
          t.sys.mode = .recovery ∧ t.pwr.vr = s.pwr.vr ∧ t.pwr.ldo = s.pwr.ldo ∧ t.pwr.ph = s.pwr.ph ∧ t.pwr.en = s.pwr.en ∧
          t.pwr.mon = s.pwr.mon ∧ t.store.otp = s.store.otp ∧ t.store.nvm = s.store.nvm ∧ t.store.rtc.cal = s.store.rtc.cal)) ∧
  (∀ (c : ResetCause) (s : State),
      s.sys.resetBegun = some c →
      c = .heddle ∨ c = .selvedge ∨ c = .safLockstep ∨ c = .fwActivate ∨ c = .safeExit →
      s.sys.rstnLong = false ∧ s.sys.saving = false ∧ s.est.test = none →
      Answers (.chipReset c) s (fun t => t.sys.inReset = true ∧ t.sys.resetBegun = none ∧ (c = .heddle → t.sys.rstLast = 0x5 ∧
          t.sys.rstBits = s.sys.rstBits ||| 0x0400) ∧ (c = .selvedge → t.sys.rstLast = 0x6 ∧ t.sys.rstBits = s.sys.rstBits ||| 0x0800) ∧
          (c = .safLockstep → t.sys.rstLast = 0x7 ∧ t.sys.rstBits = s.sys.rstBits ||| 0x1000) ∧ (c = .fwActivate → t.sys.rstLast = 0x9 ∧
          t.sys.rstBits = s.sys.rstBits ||| 0x0200) ∧ (c = .safeExit → t.sys.rstLast = 0xA ∧ t.sys.rstBits = s.sys.rstBits ||| 0x0100) ∧
          t.pwr.vr = s.pwr.vr ∧ t.pwr.ldo = s.pwr.ldo ∧ t.pwr.en = s.pwr.en ∧ t.pwr.mon = s.pwr.mon ∧ t.est.led = s.est.led ∧
          t.est.caddy = s.est.caddy ∧ t.heddle.first = s.heddle.first ∧ t.heddle.recent = s.heddle.recent ∧
          t.heddle.count = s.heddle.count ∧ t.heddle.safeHold = s.heddle.safeHold ∧ t.hif.slots = [] ∧
          t.hif.spia = { alloc := 128, avail := 128, noticeDue := true } ∧ t.hif.spib = { alloc := 64, avail := 64, noticeDue := true } ∧
          t.hif.i2c = { alloc := 16, avail := 16, noticeDue := true } ∧ t.eic = State.reset.eic ∧ t.store.nvm = s.store.nvm)) ∧
  (∀ (p : Port) (s : State),
      let q := s.hif.port p
      p = .spia ∨ p = .spib →
      s.sys.inReset = false ∧ s.sys.porActive = false →
      s.hif.slots.filter (fun x => x.port == p) = [] →
      Answers (.blockReset (if p = .spia then .spia else .spib)) s (fun t => t.hif.port p = { q with
            cqWait := false, evqDrop := false, dropped := 0, noCredit := false, idxErr := false, addrErr := false, frmErr := false,
            crcErr := false, pecErr := false, crcCount := 0, irqMask := 0x25, badTrailer := none } ∧  (∀ r, r ≠ p →
          t.hif.port r = s.hif.port r) ∧ t.sys = { s.sys with rstBits := s.sys.rstBits ||| 0x0010 } ∧ t.est = s.est ∧ t.chg = s.chg ∧
          t.acq = s.acq ∧ t.selv = s.selv)) ∧
  (∀ (b : Block) (s : State),
      s.sys.inReset = true ∨ s.sys.porActive = true →
      Answers (.blockReset b) s (fun t => t = s)) ∧
  (∀ (s : State),
      procsRun s = true →
      s.heddle.safeHold = false ∧ s.est.test = none →
      s.sys.mode = .normal ∧ s.sys.service = .full →
      Answers .cmdRestart s (fun t => t.sys.mode = .recovery ∧ t.sys.service = .limp ∧ t.sys.stage = 0x05 ∧ t.sys.cmdDown = true ∧
          t.sys.rstBits = s.sys.rstBits ||| 0x0020 ∧ t.heddle.w[0].boot = some (s.sys.devTime, bootMs s) ∧ (∀ i : Fin 9, i ≠ 0 →
          t.heddle.w[i] = s.heddle.w[i]) ∧ Picked 0x001 0x11 0 { s with selv := { s.selv with injections := [] } } t ∧ t.pwr.vr = s.pwr.vr ∧
          t.pwr.ldo = s.pwr.ldo ∧ t.pwr.en = s.pwr.en ∧ t.eic = s.eic)) ∧
  (∀ (s : State),
      s.sys.rstnLong = true ∧ s.sys.porActive = false →
      Answers .rstnPdMaxExpiry s (fun t => t.sys.porActive = true ∧ t.sys.porCause = 4 ∧ t.pwr = State.reset.pwr ∧
          t.store.otp.words = s.store.otp.words)) ∧
  (∀ (s : State),
      s.sys.porActive = false ∧ s.sys.resetHeld = false ∧ s.sys.power = .run ∧ s.sys.rstnLong = false →
      procsRun s = false →
      (∀ c : Fin 12, s.pwr.vr[c].st = .off) ∧ (∀ l : Fin 8, s.pwr.ldo[l].st = .off) ∧ (∀ e : Fin 16, s.pwr.en[e].st = .off) →
      s.sys.dieStopping = false →
      Answers .resetNLong s (fun t => t.sys.porActive = true ∧ t.sys.porCause = 4 ∧ t.store.otp.words = s.store.otp.words)) ∧
  (∀ (s : State),
      s.sys.inReset = false ∧ s.sys.porActive = false →
      s.hif.slots.filter (fun x => x.port == .i2c) = [] →
      Answers (.blockReset .i2c) s (fun t => t.hif.i2c = { s.hif.i2c with
            cqWait := false, evqDrop := false, dropped := 0, noCredit := false, idxErr := false, addrErr := false, frmErr := false,
            crcErr := false, pecErr := false, crcCount := 0, irqMask := 0x25, badTrailer := none } ∧ t.hif.spia = s.hif.spia ∧
          t.hif.spib = s.hif.spib ∧ t.hif.i2cPtr = 0 ∧ t.hif.i2cBusy = false ∧ t.hif.alertReleased = false ∧ t.hif.pecOn = false ∧
          t.sys = { s.sys with rstBits := s.sys.rstBits ||| 0x0010 } ∧ t.est = s.est ∧ t.chg = s.chg ∧ t.acq = s.acq ∧ t.selv = s.selv)) ∧
  (∀ (i : Fin 6) (s : State),
      let n := procCode (.sh i)
      s.sys.inReset = false ∧ s.sys.porActive = false →
      i = 2 ∨ i = 3 ∨ i = 4 ∨ i = 5 →
      procsRun s = true ∧ s.sys.bootErr ≠ 2 →
      Answers (.blockReset (.shuttle i)) s (fun t => t.heddle.w[n].boot = some (s.sys.devTime, bootMs s) ∧
          t.heddle.w[n].reg = none ∧ t.heddle.w[n].armed = false ∧ (∀ m, m ≠ n → t.heddle.w[m] = s.heddle.w[m]) ∧
          t = { s with
            sys := { s.sys with rstBits := s.sys.rstBits ||| 0x0010 }, heddle := { s.heddle with w := t.heddle.w }, est := t.est,
            acq := t.acq } ∧ (i = 5 → t.est = s.est ∧ t.acq = { s.acq with steep := none, corrFails := 0 }) ∧
          (i = 4 → t.acq = s.acq ∧ t.est.stepHeld = false ∧ t.est.ocv.steep = none ∧ t.est.cap.steep = none ∧ t.est.rs.steep = none) ∧
          (i = 2 ∨ i = 3 → t.est = s.est ∧ t.acq = s.acq))) ∧
  (∀ (b : Block) (s : State),
      s.sys.inReset = false ∧ s.sys.porActive = false →
      b = .charger ∨ b = .shuttle 0 ∨ b = .shuttle 1 →
      s.sys.boot.cfgLoaded = false →
      Answers (.blockReset b) s (fun t => t.chg.pwm = false ∧ t.chg.chargeMa = 0 ∧ t.chg.st = s.chg.st ∧ t.pwr = s.pwr ∧
          t.sys.rstBits = s.sys.rstBits ||| 0x0010)) ∧
  (∀ (b : Block) (s : State),
      s.sys.inReset = false ∧ s.sys.porActive = false →
      b = .charger ∨ b = .shuttle 1 →
      chgRuns s = true ∧ s.sys.boot.cfgLoaded = true →
      s.chg.absDet = 0 ∧ s.chg.kill = false ∧ s.est.probe = none →
      s.chg.st ≠ .off ∧ s.chg.st ≠ .suspended ∧ s.chg.st ≠ .batteryAbsent →
      disDemand s = false ∧ waitBits s ≠ 0 →
      Answers (.blockReset b) s (fun t => t.chg.st = .wait ∧ t.chg.pwm = false ∧ t.chg.chargeMa = 0 ∧
          t.sys.rstBits = s.sys.rstBits ||| 0x0010)) ∧
  (∀ (s : State),
      s.sys.inReset = false ∧ s.sys.porActive = false →
      (∀ k : Fin 8, s.acq.slot[k].st = .idle) ∧ s.hif.slots.all (fun x => decide (x.op ≠ 0x605)) = true →
      Answers (.blockReset .acq) s (fun t => t.acq.running = false ∧ t.acq.roundValid = false ∧ t.acq.table = [] ∧
          t.acq.rings = s.sys.boot.acqLocked ∧ t.acq.rseq = s.acq.rseq ∧ t.acq.ref = s.acq.ref ∧ t.acq.slot = s.acq.slot ∧
          t.sys.rstBits = s.sys.rstBits ||| 0x0010 ∧ t.hif = s.hif)) ∧
  (∀ (s : State),
      s.sys.inReset = false ∧ s.sys.porActive = false →
      s.pd.a.st ≠ .attachedSnk ∧ s.pd.b.st ≠ .attachedSnk →
      Answers (.blockReset .pdCore) s (fun t => t.pd.coreRuns = false ∧ t.pd.heddleReset = false ∧
          t.pd.a = { vbus := s.pd.a.vbus, lowSince := s.pd.a.lowSince, throttled := s.pd.a.throttled } ∧
          t.pd.b = { vbus := s.pd.b.vbus, lowSince := s.pd.b.lowSince, throttled := s.pd.b.throttled } ∧
          t.sys.rstBits = s.sys.rstBits ||| 0x0010 ∧
          (s.pd.a.svc = false ∧ s.pd.b.svc = false → t.hif = s.hif))) ∧
  (∀ (s : State),
      s.sys.porActive = false ∧ s.sys.resetHeld = false ∧ s.sys.power = .run ∧ s.sys.rstnLong = false →
      procsRun s = true ∧ allRailsOff s = false →
      (∀ g : Fin 8, s.pwr.grp[g].st = .unused) →
      Answers .resetNLong s (fun t => t.sys.rstnLong = true ∧ t.sys.porActive = false))

/-- EMERGENCY_OFF, outside DECOMMISSIONED, the long form of RESET_N and a die shutdown, disables every channel, LDO and enable output, and
  with no group in use completes DONE. SAFE_EXIT outside Safe Hold completes WRONG_STATE and changes nothing; in Safe Hold it posts DONE,
  clears the flag, the strikes and the count, keeps the evidence, and begins a chip reset with the cause SAFE_EXIT, whose notice reports it.
  Where a clause needs a reading of the manual or a choice, it is the model's: log entries 9, 38. [derived: R50; R100; R401] -/
def Obligations.EmergencyAndSafeExit : Prop :=
  (∀ (p : Port) (tag : Tag) (x : Slot) (s : State),
      Admitted 0x003 p tag x s →
      CqRoom p s →
      lcNow s ≠ .decommissioned →
      (∀ g : Fin 8, s.pwr.grp[g].st = .unused) →
      s.sys.rstnLong = false ∧ s.sys.dieStopping = false →
      Answers (.emergencyOff p tag) s (fun t => Completed p x 0x00 s t ∧ (∀ r ∈ allRails, railEnabled r t = false))) ∧
  (∀ (p : Port) (tag : Tag) (x : Slot) (s : State),
      Admitted 0x004 p tag x s →
      CqRoom p s →
      s.heddle.safeHold = false →
      Answers (.safeExit p tag) s (fun t => CompletedWith p x 0x17 [0] s t ∧ CompletionOnly p s t)) ∧
  (∀ (p : Port) (tag : Tag) (x : Slot) (s : State),
      Admitted 0x004 p tag x s →
      CqRoom p s →
      s.heddle.safeHold = true →
      s.sys.inReset = false ∧ s.sys.porActive = false ∧ s.sys.resetBegun = none →
      Answers (.safeExit p tag) s (fun t => CompletedWith p x 0x00 [] s t ∧ t.sys = { s.sys with resetBegun := some .safeExit } ∧
          t.heddle.safeHold = false ∧ t.heddle.count = 0 ∧ (∀ i : Fin 9, t.heddle.w[i].strike = false) ∧ t.heddle.first = s.heddle.first ∧
          t.heddle.recent = s.heddle.recent ∧ t.heddle.violations = s.heddle.violations ∧ t.selv = s.selv ∧ t.pwr = s.pwr)) ∧
  (∀ (p : Port) (tag : Tag) (x : Slot) (s : State),
      Admitted 0x003 p tag x s →
      lcNow s ≠ .decommissioned →
      s.sys.rstnLong = false ∧ s.sys.dieStopping = false →
      Answers (.emergencyOff p tag) s (fun t => ∀ r ∈ allRails, railEnabled r t = false))

/-- While SH0 runs the link, a DC input that comes within VMIN + HYST and VMAX - HYST is in window and begins qualification, its SRCID to
  be read; nearer to a limit it stays out. A confirmed exit below VMIN is a bounce, and takes a standby source out, and the only carrying
  source with a transfer counted; a bounce above SRC.BOUNCE_MAX quarantines it, with its host event; quarantine's end clears the history and
  qualification begins. Two equal SRCID codes give the class and its limit, unequal ones an unknown source. A source that qualifies in
  BATTERY at or below VBAT + margin stays STANDBY there; above it the return ramp begins at 10 %. A DC input above VMAX, or above 75.0 V
  before the image is loaded, has its gate off, and must qualify again. Where a clause needs a reading of the manual or a choice, it is the
  model's: log entry 18. [derived: R109; R110; R111; R117; R119; R120; R123] -/
def Obligations.SourceQualification : Prop :=
  (∀ (d : Fin 2) (mv : Nat) (s : State),
      let i := dcSrc d
      let x := srcAt i s
      frameOn s = true ∧ linkRuns s = true →
      s.path.porSet = false ∧ s.path.link ≠ .start ∧ s.est.test = none →
      x.inWin = false ∧ x.st = .absent →
      pn (Pid.SRC_DC_VMIN_MV d.val) s + pn (Pid.SRC_DC_HYST_MV d.val) s ≤ mv ∧ mv +
          pn (Pid.SRC_DC_HYST_MV d.val) s ≤ pn (Pid.SRC_DC_VMAX_MV d.val) s →
      swf {} s.eic.src = true →
      Answers (.srcWindowEntry i mv) s (fun t => srcAt i t = { x with
            mv := mv, inWin := true, st := .qualifying, idPending := true, qualFrom := some s.sys.devTime, gate := false, limitPct := 100,
            limiting := false, released := false, replaced := false } ∧  (∀ j, j ≠ i →
          srcAt j t = srcAt j s) ∧ t.path.link = s.path.link ∧ t.path.transfers = s.path.transfers ∧ Latched (126 + i.val) s t ∧
          EdgeFrame { s with path := t.path } t)) ∧
  (∀ (d : Fin 2) (mv : Nat) (s : State),
      let i := dcSrc d
      s.path.porSet = false →
      mv < pn (Pid.SRC_DC_VMIN_MV d.val) s + pn (Pid.SRC_DC_HYST_MV d.val) s →
      Answers (.srcWindowEntry i mv) s (fun t => srcAt i t = { srcAt i s with mv := mv } ∧ (∀ j, j ≠ i → srcAt j t = srcAt j s) ∧
          t.path.link = s.path.link ∧ t = { s with path := t.path })) ∧
  (∀ (d : Fin 2) (mv : Nat) (s : State),
      let i := dcSrc d
      let x := srcAt i s
      let l := recentUs 60000000 s.sys.devTime x.exits ++ [s.sys.devTime]
      frameOn s = true ∧ linkRuns s = true →
      s.path.porSet = false ∧ s.path.link = .source →
      x.inWin = true ∧ x.st = .standby →
      mv < pn (Pid.SRC_DC_VMIN_MV d.val) s →
      l.length ≤ pn Pid.SRC_BOUNCE_MAX s →
      Answers (.srcWindowExit i mv) s (fun t => (srcAt i t).st = .absent ∧ (srcAt i t).inWin = false ∧ (srcAt i t).gate = false ∧
          (srcAt i t).exits = l ∧ (srcAt i t).mv = mv ∧ (∀ j, j ≠ i → srcAt j t = srcAt j s) ∧ t.path.link = .source ∧
          t.path.transfers = s.path.transfers ∧ EdgeFrame { s with path := t.path } t)) ∧
  (∀ (d : Fin 2) (mv : Nat) (s : State),
      let i := dcSrc d
      let x := srcAt i s
      let l := recentUs 60000000 s.sys.devTime x.exits ++ [s.sys.devTime]
      frameOn s = true ∧ linkRuns s = true →
      s.path.porSet = false ∧ s.path.link = .source →
      x.inWin = true ∧ x.st = .standby →
      mv < pn (Pid.SRC_DC_VMIN_MV d.val) s →
      pn Pid.SRC_BOUNCE_MAX s < l.length →
      Answers (.srcWindowExit i mv) s (fun t => (srcAt i t).st = .quarantined ∧ (srcAt i t).inWin = false ∧ (srcAt i t).exits = l ∧
          t.hif.events.getLast? = some { code := 0x1003, detail := w32 (d.val + 256 * (l.length % 256)), time := s.sys.devTime } ∧
          t.path.link = .source)) ∧
  (∀ (i : Fin 4) (s : State),
      linkRuns s = true →
      (srcAt i s).st = .quarantined →
      Answers (.srcQuarantineEnd i) s (fun t => (srcAt i t).st = .qualifying ∧ (srcAt i t).exits = [] ∧
          (srcAt i t).qualFrom = (if (srcAt i s).inWin = true ∧ s.est.test = none then some s.sys.devTime else none) ∧ (∀ j, j ≠ i →
          srcAt j t = srcAt j s) ∧ t = { s with path := t.path } ∧ t.path.link = s.path.link)) ∧
  (∀ (d : Fin 2) (c1 c2 : BitVec 8) (s : State),
      let i := dcSrc d
      let a := srcidCode c1
      let b := srcidCode c2
      let k := if a = b then a else 0xFF
      (srcAt i s).idPending = true ∧ shRuns 0 s = true →
      a ≠ 0 ∧ b ≠ 0 →
      Answers (.srcidRead d c1 c2) s (fun t => srcAt i t = { srcAt i s with
            cls := k, idPending := false,
            limMa := if pn (Pid.SRC_DC_ILIM_MA d.val) s ≠ 0 then pn (Pid.SRC_DC_ILIM_MA d.val) s else if k = 0xFF then pn Pid.SRC_ILIM_UNKNOWN_MA s else classMa k } ∧
          (∀ j, j ≠ i → srcAt j t = srcAt j s) ∧ t = { s with path := t.path } ∧ t.path.link = s.path.link)) ∧
  (∀ (d : Fin 2) (c : BitVec 8) (s : State),
      let i := dcSrc d
      (srcAt i s).idPending = true ∧ shRuns 0 s = true →
      8 * c.toNat < 100 →
      Answers (.srcidRead d c c) s (fun t => (srcAt i t).cls = 0 ∧ Picked (0x141 + d.val) 0x10 0 s t ∧ (∀ j, j ≠ i → srcAt j t = srcAt j s))) ∧
  (∀ (i : Fin 4) (s : State),
      let x := srcAt i s
      linkRuns s = true ∧ s.est.test = none →
      x.st = .qualifying ∧ x.inWin = true ∧ x.qualFrom ≠ none →
      s.path.link = .battery →
      x.mv ≤ s.path.vbat + pn Pid.SRC_RETURN_MARGIN_MV s →
      (∀ j, j ≠ i → (srcAt j s).inWin = false) →
      Answers (.srcQualified i) s (fun t => (srcAt i t).st = .standby ∧ t.path.link = .battery ∧ (srcAt i t).gate = x.gate ∧ (∀ j, j ≠ i →
          srcAt j t = srcAt j s) ∧ t = { s with path := t.path })) ∧
  (∀ (i : Fin 4) (s : State),
      let x := srcAt i s
      linkRuns s = true ∧ s.est.test = none →
      x.st = .qualifying ∧ x.inWin = true ∧ x.qualFrom ≠ none →
      s.path.link = .battery →
      s.path.vbat + pn Pid.SRC_RETURN_MARGIN_MV s < x.mv →
      i ∈ srcOrder s →
      (∀ j, j ≠ i → (srcAt j s).inWin = false) →
      Answers (.srcQualified i) s (fun t => t.path.link = .return ∧ (srcAt i t).st = .ramping ∧ (srcAt i t).gate = true ∧
          (srcAt i t).limitPct = 10 ∧ t.path.gdbat = false ∧ t.path.transfers = s.path.transfers ∧ ∀ j, j ≠ i → srcAt j t = srcAt j s)) ∧
  (∀ (d : Fin 2) (mv : Nat) (s : State),
      let i := dcSrc d
      frameOn s = true →
      (if s.path.porSet then 75000 else pn (Pid.SRC_DC_VMAX_MV d.val) s) < mv →
      Answers (.inputOvp d mv) s (fun t => (srcAt i t).gate = false ∧ (srcAt i t).ovp = true ∧ (srcAt i t).mv = mv ∧
          ((srcAt i s).st = .standby → linkRuns s = true → s.path.link ≠ .return → (srcAt i t).st = .qualifying))) ∧
  (∀ (d : Fin 2) (mv : Nat) (s : State),
      let i := dcSrc d
      mv ≤ (if s.path.porSet then 75000 else pn (Pid.SRC_DC_VMAX_MV d.val) s) →
      Answers (.inputOvp d mv) s (fun t => srcAt i t = { srcAt i s with mv := mv } ∧ (∀ j, j ≠ i → srcAt j t = srcAt j s) ∧
          t = { s with path := t.path })) ∧
  (∀ (d : Fin 2) (mv : Nat) (s : State),
      let i := dcSrc d
      let x := srcAt i s
      let l := recentUs 60000000 s.sys.devTime x.exits ++ [s.sys.devTime]
      frameOn s = true ∧ linkRuns s = true →
      s.path.porSet = false ∧ s.path.link = .source →
      x.inWin = true ∧ x.replaced = false ∧ (x.st = .enabled ∨ x.st = .ramping) →
      mv < pn (Pid.SRC_DC_VMIN_MV d.val) s →
      l.length ≤ pn Pid.SRC_BOUNCE_MAX s →
      (∀ j, j ≠ i → (srcAt j s).st = .absent ∨ (srcAt j s).st = .disabled ∨ (srcAt j s).st = .quarantined ∨ (srcAt j s).st = .qualifying) →
      Answers (.srcWindowExit i mv) s (fun t => (srcAt i t).st = .absent ∧ (srcAt i t).inWin = false ∧ (srcAt i t).gate = false ∧
          (srcAt i t).exits = l ∧ (∀ j, j ≠ i → srcAt j t = srcAt j s) ∧ t.path.link = .source ∧
          t.path.transfers = min 4294967295 (s.path.transfers + 1)))

/-- In SOURCE the highest-priority standby source in window takes over from one that leaves, with its gate on and one transfer counted,
  unless GDBAT conducts outside supplement mode; in HANDOVER and BATTERY a trip turns GDBAT on and moves nothing else. When VLINK falls 20
  mV or more below VBAT, GDBAT conducts and the link goes to HANDOVER with one transfer counted, or on to BATTERY when no carrying source is
  in window; in START it only turns GDBAT on, and in RETURN with the ramping source out of its window it leaves the link in BATTERY;
  otherwise only the measured voltages change. HANDOVER ends in BATTERY at SRC.HO_MAX_MS with every path off. A ramp step raises the limit
  by 1 %; at 100 % a return with no demand left to the battery ends in SOURCE, GDBAT held blocking, one with a demand left goes on, and a
  joining source is ENABLED. Where a clause needs a reading of the manual or a choice, it is the model's: log entries 2, 11, 18. [derived:
  R113; R114; R116; R117; R121; R127] -/
def Obligations.HandoverAndReturn : Prop :=
  (∀ (i j : Fin 4) (s : State),
      frameOn s = true ∧ linkRuns s = true →
      s.path.link = .source ∧ s.path.gdbat = false →
      (srcAt i s).st = .enabled ∧ (srcAt i s).replaced = false →
      (srcOrder s).find? (fun k => (srcAt k s).st == .standby && (srcAt k s).inWin && !(srcAt k s).gate) = some j →
      Answers (.standbyTakeover i) s (fun t => (srcAt j t).st = .enabled ∧ (srcAt j t).gate = true ∧ (srcAt j t).limitPct = 100 ∧
          (srcAt i t).gate = (srcAt i s).gate ∧ (srcAt i t).replaced = true ∧ t.path.link = .source ∧
          t.path.transfers = min 4294967295 (s.path.transfers + 1) ∧ ∀ k, k ≠ i → k ≠ j → srcAt k t = srcAt k s)) ∧
  (∀ (i : Fin 4) (s : State),
      s.path.link ≠ .source ∨ s.path.gdbat = true ∧ s.path.supplement = false ∨ (srcAt i s).st = .standby →
      Answers (.standbyTakeover i) s (fun t => t = s)) ∧
  (∀ (vlink vbat : Nat) (s : State),
      frameOn s = true ∧ linkRuns s = true →
      s.path.link = .source →
      vlink + 20 ≤ vbat ∨ vlink < pn Pid.SRC_VLINK_UV_MV s →
      (∃ i, ((srcAt i s).st = .enabled ∨ (srcAt i s).st = .ramping) ∧ (srcAt i s).inWin = true) →
      swf {} s.eic.src = true →
      Answers (.handoverTrip vlink vbat) s (fun t => t.path.link = .handover ∧ t.path.gdbat = true ∧ t.path.vlink = vlink ∧
          t.path.vbat = vbat ∧ t.path.transfers = min 4294967295 (s.path.transfers + 1) ∧ (∀ k, srcAt k t = srcAt k s) ∧
          (t.eic.get 124).pending = true)) ∧
  (∀ (vlink vbat : Nat) (s : State),
      frameOn s = true ∧ linkRuns s = true →
      s.path.link = .source →
      vlink + 20 ≤ vbat ∨ vlink < pn Pid.SRC_VLINK_UV_MV s →
      (∀ i, (srcAt i s).inWin = false) →
      Answers (.handoverTrip vlink vbat) s (fun t => t.path.link = .battery ∧ t.path.gdbat = true ∧ ∀ k, (srcAt k t).gate = false)) ∧
  (∀ (vlink vbat : Nat) (s : State),
      frameOn s = true →
      s.path.link = .handover ∨ s.path.link = .battery →
      vlink + 20 ≤ vbat ∨ vlink < pn Pid.SRC_VLINK_UV_MV s →
      Answers (.handoverTrip vlink vbat) s (fun t => t.path = { s.path with vlink := vlink, vbat := vbat, gdbat := true })) ∧
  (∀ (vlink vbat : Nat) (s : State),
      vbat < vlink + 20 ∧ pn Pid.SRC_VLINK_UV_MV s ≤ vlink →
      Answers (.handoverTrip vlink vbat) s (fun t => t = { s with path := { s.path with vlink := vlink, vbat := vbat } })) ∧
  (∀ (s : State),
      linkRuns s = true ∧ s.path.link = .handover →
      Answers .hoMaxExpiry s (fun t => t.path.link = .battery ∧ t.path.transfers = min 4294967295 (s.path.transfers + 1) ∧ ∀ k,
          (srcAt k t).gate = false ∧ ((srcAt k s).inWin = false → (srcAt k t).st = .absent ∨ (srcAt k t).st = (srcAt k s).st) ∧
          ((srcAt k s).inWin = true → (srcAt k s).st = .enabled → (srcAt k t).st = .qualifying))) ∧
  (∀ (s : State),
      s.path.link ≠ .handover →
      Answers .hoMaxExpiry s (fun t => t = s)) ∧
  (∀ (i : Fin 4) (ma : Nat) (s : State),
      linkRuns s = true ∧ (srcAt i s).st = .ramping →
      (srcAt i s).limitPct < 99 →
      Answers (.rampStep i ma) s (fun t => srcAt i t = { srcAt i s with limitPct := (srcAt i s).limitPct + 1 } ∧ (∀ k, k ≠ i →
          srcAt k t = srcAt k s) ∧ t.path.link = s.path.link ∧ t.path.transfers = s.path.transfers)) ∧
  (∀ (i : Fin 4) (ma : Nat) (s : State),
      linkRuns s = true ∧ (srcAt i s).st = .ramping →
      (srcAt i s).limitPct = 99 →
      s.path.link = .return →
      ma ≤ orLimit (onSrc i (fun x => { x with limitPct := 100 }) s) →
      Answers (.rampStep i ma) s (fun t => t.path.link = .source ∧ t.path.gdbat = false ∧ (srcAt i t).limitPct = 100)) ∧
  (∀ (i : Fin 4) (ma : Nat) (s : State),
      linkRuns s = true ∧ (srcAt i s).st = .ramping →
      (srcAt i s).limitPct = 99 →
      s.path.link = .source →
      Answers (.rampStep i ma) s (fun t => srcAt i t = { srcAt i s with limitPct := 100, st := .enabled } ∧ t.path.link = .source ∧ ∀ k,
          k ≠ i → srcAt k t = srcAt k s)) ∧
  (∀ (i : Fin 4) (ma : Nat) (s : State),
      linkRuns s = true ∧ (srcAt i s).st = .ramping →
      (srcAt i s).limitPct = 99 →
      s.path.link = .return →
      orLimit (onSrc i (fun x => { x with limitPct := 100 }) s) < ma →
      Answers (.rampStep i ma) s (fun t => srcAt i t = { srcAt i s with limitPct := 100 } ∧ t.path.link = .return ∧
          t.path.transfers = s.path.transfers ∧ ∀ k, k ≠ i → srcAt k t = srcAt k s)) ∧
  (∀ (vlink vbat : Nat) (s : State),
      frameOn s = true →
      s.path.link = .start →
      vlink + 20 ≤ vbat ∨ vlink < pn Pid.SRC_VLINK_UV_MV s →
      Answers (.handoverTrip vlink vbat) s (fun t => t.path.gdbat = true ∧ t.path.link = .start ∧ t.path.vlink = vlink ∧
          t.path.vbat = vbat ∧ t.path.transfers = s.path.transfers ∧ ∀ k, srcAt k t = srcAt k s)) ∧
  (∀ (i : Fin 4) (vlink vbat : Nat) (s : State),
      frameOn s = true ∧ linkRuns s = true →
      s.path.link = .return →
      vlink + 20 ≤ vbat ∨ vlink < pn Pid.SRC_VLINK_UV_MV s →
      (srcAt i s).st = .ramping ∧ (srcAt i s).inWin = false ∧ (∀ k, k ≠ i → (srcAt k s).st ≠ .ramping ∧ (srcAt k s).st ≠ .enabled) →
      Answers (.handoverTrip vlink vbat) s (fun t => t.path.gdbat = true ∧ (srcAt i t).gate = false ∧ (srcAt i t).st = .absent ∧
          t.path.link = .battery))

/-- The gate of a DC input in the OR (in its window before the image is loaded), of an attached sink port's path in the OR and of the
  battery path goes on at a forward drop of 20 mV or more and off at -5 mV or less; between them nothing changes. An excess demand first
  reduces the charge current; what is left starts supplement mode, within the converter's discharge limit, and the charger discharges;
  lasting longer it is a SOURCE_OVERLOAD with its event; its end holds GDBAT blocking again. A DC input whose current, computed from the
  drop over its declared path resistance, is above its limit + 10 % is limited, with SRC_LIMITING, and a USB sink path without a pick; in
  forward regulation the current is a lower bound and limits nothing; at expiry RELEASE drives its gate fully on, and OPEN takes it out of
  the OR as a bounce, each with SRC_LIMIT_EXPIRED. Where a clause needs a reading of the manual or a choice, it is the model's: log entries
  17, 18. [derived: R107; R108; R112; R116; R122; R124] -/
def Obligations.DiodesAndInputLimits : Prop :=
  (∀ (d : Fin 2) (drop : Int) (s : State),
      let x := srcAt (dcSrc d) s
      frameOn s = true ∧ 20 ≤ drop →
      x.ovp = false ∧ ((s.path.link = .start ∧ x.inWin = true) ∨
          (s.path.link ≠ .start ∧ s.path.link ≠ .battery ∧ (x.st = .enabled ∨ x.st = .ramping))) →
      Answers (.idealDiodeTurnOn (if d = 0 then .dca else .dcb) drop) s (fun t => t =
          onSrc (dcSrc d) (fun y => { y with gate := true }) s)) ∧
  (∀ (drop : Int) (s : State),
      frameOn s = true ∧ 20 ≤ drop →
      s.path.link = .battery ∧ s.path.gdbat = false ∧ s.sys.inReset = false →
      swf {} s.eic.src = true →
      Answers (.idealDiodeTurnOn .bat drop) s (fun t => t.path = { s.path with gdbat := true } ∧ Latched 130 s t ∧
          EdgeFrame { s with path := t.path } t)) ∧
  (∀ (g : Gate) (drop : Int) (s : State),
      drop < 20 →
      Answers (.idealDiodeTurnOn g drop) s (fun t => t = s)) ∧
  (∀ (d : Fin 2) (drop : Int) (s : State),
      frameOn s = true ∧ drop ≤ -5 →
      Answers (.idealDiodeReverseOff (if d = 0 then .dca else .dcb) drop) s (fun t => t =
          onSrc (dcSrc d) (fun y => { y with gate := false }) s)) ∧
  (∀ (g : Gate) (drop : Int) (s : State),
      -5 < drop →
      Answers (.idealDiodeReverseOff g drop) s (fun t => t = s)) ∧
  (∀ (e : Nat) (s : State),
      linkRuns s = true ∧ s.path.link = .source ∧ orMembers s ≠ [] →
      disAllowed s = true ∧ s.chg.st = .cc →
      s.chg.chargeMa < e →
      0 < pn Pid.CHG_I_DIS_MAX_MA s →
      Answers (.supplementStart e) s (fun t => t.path.supplement = true ∧
          t.path.suppMa = min (e - s.chg.chargeMa) (pn Pid.CHG_I_DIS_MAX_MA s) ∧ t.chg.st = .discharge ∧ t.chg.chargeMa = 0 ∧
          t.path.link = .source ∧ ∀ k, srcAt k t = srcAt k s)) ∧
  (∀ (e : Nat) (s : State),
      linkRuns s = true ∧ s.path.link = .source ∧ orMembers s ≠ [] →
      e ≤ s.chg.chargeMa →
      Answers (.supplementStart e) s (fun t => t = { s with chg := { s.chg with chargeMa := s.chg.chargeMa - e } })) ∧
  (∀ (s : State),
      s.path.supplement = true ∧ s.path.overload = false ∧ s.sys.inReset = false →
      Answers .sourceOverload s (fun t => Picked 0x140 0x12 0 s t ∧ Raised 0x1002 0 s t ∧
          t = { s with path := { s.path with overload := true }, selv := t.selv, hif := { s.hif with events := t.hif.events } })) ∧
  (∀ (s : State),
      s.path.supplement = false ∨ s.path.overload = true →
      Answers .sourceOverload s (fun t => t = s)) ∧
  (∀ (s : State),
      linkRuns s = true ∧ s.path.link = .source →
      s.path.supplement = true →
      Answers .supplementEnd s (fun t => t.path.supplement = false ∧ t.path.suppMa = 0 ∧ t.path.overload = false ∧ t.path.gdbat = false ∧
          t.path.link = .source ∧ (∀ k, (srcAt k t).limiting = false ∧ (srcAt k t).st = (srcAt k s).st ∧
          (srcAt k t).gate = (srcAt k s).gate))) ∧
  (∀ (d : Fin 2) (uv ma : Nat) (s : State),
      let i := dcSrc d
      frameOn s = true ∧ s.path.porSet = false ∧ s.sys.inReset = false →
      (srcAt i s).gate = true ∧ (srcAt i s).limiting = false ∧ (srcAt i s).released = false →
      dropMa i uv s = some ma ∧ 15000 < uv →
      110 * limNow i s < 100 * ma →
      swf {} s.eic.src = true →
      Answers (.srcLimiting i (.drop uv)) s (fun t => srcAt i t = { srcAt i s with limiting := true, iMa := ma, iLow := false } ∧
          (∀ k, k ≠ i → srcAt k t = srcAt k s) ∧ PickSent (133 + d.val) (0x141 + d.val) 0x13 0 s t ∧ Latched (133 + d.val) s t ∧ EdgeFrame { s with path := t.path } t)) ∧
  (∀ (d : Fin 2) (uv ma : Nat) (s : State),
      let i := dcSrc d
      frameOn s = true →
      dropMa i uv s = some ma →
      100 * ma ≤ 110 * limNow i s ∨ uv ≤ 15000 →
      Answers (.srcLimiting i (.drop uv)) s (fun t => srcAt i t = { srcAt i s with iMa := ma, iLow := decide (uv ≤ 15000) } ∧
          (∀ k, k ≠ i → srcAt k t = srcAt k s) ∧ t = { s with path := t.path } ∧ t.path.link = s.path.link)) ∧
  (∀ (u : Fin 2) (ma : Nat) (s : State),
      let i := usbSrc u
      frameOn s = true ∧ s.path.porSet = false →
      (srcAt i s).gate = true ∧ (srcAt i s).limiting = false ∧ (srcAt i s).released = false →
      110 * limNow i s < 100 * ma →
      Answers (.srcLimiting i (.sense ma)) s (fun t => srcAt i t = { srcAt i s with limiting := true, iMa := ma, iLow := false } ∧
          (∀ k, k ≠ i → srcAt k t = srcAt k s) ∧ t = { s with path := t.path } ∧ t.path.link = s.path.link)) ∧
  (∀ (d : Fin 2) (s : State),
      let i := dcSrc d
      frameOn s = true ∧ s.sys.inReset = false →
      (srcAt i s).limiting = true →
      pn Pid.SRC_LIN_EXPIRE s = 0 →
      swf {} s.eic.src = true →
      Answers (.srcLimitExpired d) s (fun t => srcAt i t = { srcAt i s with limiting := false, released := true } ∧ (∀ k, k ≠ i →
          srcAt k t = srcAt k s) ∧ PickSent (133 + d.val) (0x141 + d.val) 0x14 0 s t ∧ Latched (133 + d.val) s t ∧
          EdgeFrame { s with path := t.path } t)) ∧
  (∀ (d : Fin 2) (s : State),
      let i := dcSrc d
      let l := recentUs 60000000 s.sys.devTime (srcAt i s).exits ++ [s.sys.devTime]
      frameOn s = true ∧ linkRuns s = true ∧ s.path.link = .source →
      (srcAt i s).limiting = true ∧ (srcAt i s).st = .enabled →
      pn Pid.SRC_LIN_EXPIRE s = 1 →
      l.length ≤ pn Pid.SRC_BOUNCE_MAX s →
      Answers (.srcLimitExpired d) s (fun t => (srcAt i t).gate = false ∧ (srcAt i t).st = .qualifying ∧ (srcAt i t).exits = l ∧
          (srcAt i t).limiting = false ∧ t.path.link = .source)) ∧
  (∀ (u : Fin 2) (drop : Int) (s : State),
      let x := srcAt (usbSrc u) s
      let y := if u = 0 then s.pd.a else s.pd.b
      frameOn s = true ∧ 20 ≤ drop →
      (x.st = .enabled ∨ x.st = .ramping) ∧ s.path.link ≠ .battery →
      y.st = .attachedSnk ∧ y.source = false ∧ y.swap = none ∧ y.hrSrc = false ∧ y.held = false ∧ y.gsrc = false →
      Answers (.idealDiodeTurnOn (.snk u) drop) s (fun t => t = onSrc (usbSrc u) (fun z => { z with gate := true }) s)) ∧
  (∀ (u : Fin 2) (drop : Int) (s : State),
      frameOn s = true ∧ drop ≤ -5 →
      Answers (.idealDiodeReverseOff (.snk u) drop) s (fun t => t = onSrc (usbSrc u) (fun z => { z with gate := false }) s)) ∧
  (∀ (drop : Int) (s : State),
      frameOn s = true ∧ drop ≤ -5 →
      s.path.gdbat = true ∧ s.sys.inReset = false →
      swf {} s.eic.src = true →
      Answers (.idealDiodeReverseOff .bat drop) s (fun t => t.path = { s.path with gdbat := false } ∧ Latched 130 s t ∧
          EdgeFrame { s with path := t.path } t))

/-- CHG_START from OFF clears the latches and enters WAIT with DONE and the state's code; while SUSPENDED or with CHG.EN 0 it completes
  WRONG_STATE (result word 0 is the model's choice). CHG_STOP enters OFF. The start check takes the first row of its table that matches
  VBAT, and with a new cycle counts it and clears the timers; a continued cycle keeps them. At a tick 10 good samples of VBAT move
  TRICKLE to PRECHARGE, 10 low ones move PRECHARGE back with CHG_VDROP; the state's timer gains 2, or 1 while an input limit binds, to
  which the current falls. An expired timer enters SUSPENDED with CHARGE_TIMEOUT and its phase. CV ends in DONE or FLOAT at 600 ticks
  below the termination level. DONE below V_RECHG begins a new start check. Where a clause needs a reading of the manual or a choice, it
  is the model's: log entries 9, 17. [derived: R136; R137; R138; R139; R140; R144; R145; R146; R147; R153; log entry 9] -/
def Obligations.ChargerCommandsAndCycle : Prop :=
  (∀ (p : Port) (tag : Tag) (x : Slot) (s : State),
      Admitted 0x201 p tag x s →
      CqRoom p s →
      s.chg.st = .off ∧ pb Pid.CHG_EN s = true ∧ s.heddle.safeHold = false →
      disDemand s = false ∧ s.chg.kill = false →
      Answers (.chgStart p tag) s (fun t => CompletedWith p x 0x00 [1] s t ∧ t.chg.st = .wait ∧ t.chg.started = true ∧
          t.chg.absLatch = false ∧ t.chg.ovTimes = [] ∧ t.chg.offFlag = false ∧ t.chg.force = (s.chg.force || (x.word 1).getLsbD 0) ∧
          t.path = s.path ∧ t.pwr = s.pwr ∧ t.store = s.store)) ∧
  (∀ (p : Port) (tag : Tag) (x : Slot) (s : State),
      Admitted 0x201 p tag x s →
      CqRoom p s →
      s.chg.st = .suspended ∨ pb Pid.CHG_EN s = false ∨ (s.heddle.safeHold = true ∧ pn Pid.CHG_SAFEHOLD s = 1) →
      Answers (.chgStart p tag) s (fun t => CompletedWith p x 0x17 [0] s t ∧ CompletionOnly p s t)) ∧
  (∀ (p : Port) (tag : Tag) (x : Slot) (s : State),
      Admitted 0x202 p tag x s →
      CqRoom p s →
      Answers (.chgStop p tag) s (fun t => CompletedWith p x 0x00 [] s t ∧ t.chg.st = .off ∧ t.chg.offFlag = true ∧ t.chg.checkDue = false ∧
          t.chg.chargeMa = 0 ∧ t.path = s.path ∧ t.pwr.vr = s.pwr.vr ∧ t.store = s.store)) ∧
  (∀ (v : Nat) (s : State),
      let n := cells s
      chgRuns s = true ∧ s.chg.checkDue = true →
      vrla s = false →
      s.chg.newCycle = true ∧ s.chg.force = false →
      Answers (.chgStartCheck v) s (fun t => t.chg.st = (if v < vTrk s * n then .trickle else if v < vPre s * n then .precharge else
          if v < vRechg s * n then .cc else .done) ∧ t.chg.tmrTrk = 0 ∧ t.chg.tmrPre = 0 ∧ t.chg.tmrCc = 0 ∧
          t.chg.cycles = min 4294967295 (s.chg.cycles + 1) ∧ t.chg.newCycle = false ∧ t.chg.checkDue = false ∧
          t.path = { s.path with vbat := v })) ∧
  (∀ (v : Nat) (s : State),
      let n := cells s
      chgRuns s = true ∧ s.chg.checkDue = true →
      vrla s = true ∧ s.heddle.safeHold = false →
      s.chg.newCycle = false ∧ s.chg.force = false ∧ s.chg.cycle = some .cc ∧ netDischarged s = false →
      Answers (.chgStartCheck v) s (fun t => t.chg.st = (if v < vTrk s * n then .trickle else if v < vPre s * n then .precharge else
          if v < vCv s * n then .cc else .float) ∧ t.chg.tmrTrk = s.chg.tmrTrk ∧ t.chg.tmrPre = s.chg.tmrPre ∧ t.chg.tmrCc = s.chg.tmrCc ∧
          t.chg.cycles = s.chg.cycles ∧ t.chg.checkDue = false)) ∧
  (∀ (o : ChgObs) (s : State),
      chgRuns s = true ∧ s.chg.checkDue = false ∧ s.chg.st = .trickle →
      waitBits s = 0 ∧ disDemand s = false →
      s.chg.upTicks = 9 ∧ vTrk s * cells s ≤ o.vMin →
      o.inputMa = none ∧ s.chg.throtPct = 100 ∧ pn Pid.CHG_VLINK_MIN_MV s < o.vlink →
      Answers (.chgTick o) s (fun t => t.chg.st = .precharge ∧ t.chg.tmrTrk = s.chg.tmrTrk + 2 ∧ t.chg.tmrPre = s.chg.tmrPre ∧
          t.chg.tmrCc = s.chg.tmrCc ∧ t.chg.cycles = s.chg.cycles ∧ t.path = { s.path with vlink := o.vlink })) ∧
  (∀ (o : ChgObs) (s : State),
      chgRuns s = true ∧ s.chg.checkDue = false ∧ s.chg.st = .precharge →
      waitBits s = 0 ∧ disDemand s = false →
      s.chg.downTicks = 9 ∧ s.chg.upTicks < 9 ∧ o.vMax < (vTrk s - vHyst s) * cells s ∧ o.vMin ≤ o.vMax ∧ vTrk s ≤ vPre s →
      Answers (.chgTick o) s (fun t => t.chg.st = .trickle ∧ Picked 0x148 0x1B 0 s t ∧ t.chg.tmrTrk = s.chg.tmrTrk ∧
          t.chg.cycles = s.chg.cycles)) ∧
  (∀ (o : ChgObs) (m : Nat) (s : State),
      chgRuns s = true ∧ s.chg.checkDue = false ∧ s.chg.st = .cc →
      waitBits s = 0 ∧ disDemand s = false →
      s.chg.ccSet = pn Pid.CHG_I_CC_MA s ∧ s.chg.ccSet ≤ o.loopMa →
      (vPre s - vHyst s) * cells s ≤ o.vMax →
      o.inputMa = some m ∧ m < s.chg.ccSet ∧ s.chg.throtPct = 100 ∧ pn Pid.CHG_VLINK_MIN_MV s < o.vlink →
      s.chg.kill = false →
      Answers (.chgTick o) s (fun t => t.chg.st = .cc ∧ t.chg.chargeMa = m ∧ t.chg.tmrCc = s.chg.tmrCc + 1 ∧ t.chg.tmrTrk = s.chg.tmrTrk ∧
          t.chg.expiry = decide (20 * pn Pid.CHG_TMR_CCCV_S s ≤ s.chg.tmrCc + 1))) ∧
  (∀ (s : State),
      s.chg.expiry = true ∧ s.sys.inReset = false →
      s.chg.st = .trickle ∨ s.chg.st = .precharge ∨ s.chg.st = .cc →
      Answers .chargeTimeout s (fun t => t.chg.st = .suspended ∧ t.chg.tmoPhase = (if s.chg.st = .trickle then 1 else
          if s.chg.st = .precharge then 2 else 3) ∧ Picked 0x148 0x18 t.chg.tmoPhase s t ∧
          t.hif.events.getLast? = some { code := 0x2002, detail := 0, time := s.sys.devTime } ∧ t.chg.tmrCc = s.chg.tmrCc ∧ t.path = s.path)) ∧
  (∀ (s : State),
      s.chg.expiry = false →
      Answers .chargeTimeout s (fun t => t = s)) ∧
  (∀ (s : State),
      s.chg.st = .cv ∧ 600 ≤ s.chg.termCount →
      Answers .chgTermination s (fun t => t.chg.st = (if vrla s = true then .float else .done) ∧ t.chg.cycle = none ∧ t.path = s.path ∧
          t.chg.tmrCc = s.chg.tmrCc)) ∧
  (∀ (s : State),
      s.chg.termCount < 600 →
      Answers .chgTermination s (fun t => t = s)) ∧
  (∀ (v : Nat) (s : State),
      chgRuns s = true ∧ s.chg.st = .done ∧ vrla s = false →
      v < vRechg s * cells s →
      Answers (.doneRecharge v) s (fun t => t.chg.checkDue = true ∧ t.chg.newCycle = true ∧ t.chg.st = .done ∧
          t.path = { s.path with vbat := v } ∧ t = { s with path := t.path, chg := t.chg })) ∧
  (∀ (v : Nat) (s : State),
      vRechg s * cells s ≤ v →
      Answers (.doneRecharge v) s (fun t => t = { s with path := { s.path with vbat := v } }))

/-- BATPRES at its absent level, or VBAT at V_OV, stops the converter and enters BATTERY_ABSENT with its pick and detector, the timers
  and the link staying; without BATPRES, or below V_OV, nothing of the charger changes. The CHG.ABS_RETRY_MAX-th OV absence latches it. A
  battery present again with no latch and no demand goes to WAIT with BAT_PRESENT; an absence of 5 s or more clears the timers and asks
  for a new cycle, a shorter one keeps them. 600 s without an OV absence clears its count. FLOAT at the rebulk level begins a start
  check; the float level moves by at most 1 mV per cell. The converter's mode follows VLINK / VBAT at 1.15, 0.87, and back at 1.12 and
  0.90. Where a clause needs a reading of the manual or a choice, it is the model's: log entries 9, 17. [derived: R131; R141; R142; R149;
  R150; log entry 9] -/
def Obligations.ChargerAbsenceAndFloat : Prop :=
  (∀ (s : State),
      pn Pid.CHG_BATPRES s ≠ 0xFF →
      chgRuns s = true ∧ s.chg.st = .cc →
      swf {} s.eic.src = true →
      Answers .batpresAbsent s (fun t => t.chg.st = .batteryAbsent ∧ t.chg.kill = true ∧ t.chg.pwm = false ∧ PickSent 136 0x148 0x19 1 s t ∧
          t.hif.events.getLast? = some { code := 0x2003, detail := 0, time := s.sys.devTime } ∧ Latched 136 s t ∧
          t.chg.tmrCc = s.chg.tmrCc ∧ t.chg.cycle = s.chg.cycle ∧ t.path = { s.path with suppMa := 0 })) ∧
  (∀ (s : State),
      pn Pid.CHG_BATPRES s = 0xFF →
      Answers .batpresAbsent s (fun t => t = s)) ∧
  (∀ (v : Nat) (s : State),
      let l := recentUs 600000000 s.sys.devTime s.chg.ovTimes ++ [s.sys.devTime]
      vOv s * cells s ≤ v →
      chgRuns s = true ∧ s.chg.st = .cc →
      swf {} s.eic.src = true →
      Answers (.batteryOvTrip v) s (fun t => t.chg.st = .batteryAbsent ∧ t.chg.kill = true ∧ t.chg.pwm = false ∧
          PickSent 135 0x148 0x19 2 s t ∧ Latched 135 s t ∧ t.chg.ovTimes = l ∧
          t.chg.absLatch = (s.chg.absLatch || decide (pn Pid.CHG_ABS_RETRY_MAX s ≤ l.length)) ∧ t.path.link = s.path.link ∧
          t.path.gdbat = s.path.gdbat ∧ t.path.vbat = v)) ∧
  (∀ (v : Nat) (s : State),
      v < vOv s * cells s →
      Answers (.batteryOvTrip v) s (fun t => t = { s with path := { s.path with vbat := v } })) ∧
  (∀ (v sec : Nat) (s : State),
      chgRuns s = true ∧ s.chg.st = .batteryAbsent ∧ s.chg.absLatch = false →
      vPresent s * cells s ≤ v ∧ v < (vOv s - vHyst s) * cells s →
      s.chg.tmoPhase = 0 ∧ s.chg.offFlag = false ∧ disDemand s = false →
      Answers (.batteryPresent v sec) s (fun t => t.chg.st = .wait ∧ t.chg.kill = false ∧ Picked 0x148 0x1A 0 s t ∧
          { code := 0x2004, detail := 0, time := s.sys.devTime } ∈ t.hif.events ∧ t.chg.tmrCc = (if 5 ≤ sec then 0 else s.chg.tmrCc) ∧
          t.chg.tmrPre = (if 5 ≤ sec then 0 else s.chg.tmrPre) ∧ t.chg.tmrTrk = (if 5 ≤ sec then 0 else s.chg.tmrTrk) ∧
          t.chg.newCycle = (s.chg.newCycle || decide (5 ≤ sec)) ∧ t.path = { s.path with vbat := v })) ∧
  (∀ (v sec : Nat) (s : State),
      (s.chg.st ≠ .batteryAbsent ∧ s.chg.kill = false) ∨ (s.chg.st = .batteryAbsent ∧ s.chg.absLatch = true) ∨ v < vPresent s * cells s →
      Answers (.batteryPresent v sec) s (fun t => t = { s with path := { s.path with vbat := v } })) ∧
  (∀ (v sec : Nat) (s : State),
      chgRuns s = true ∧ s.chg.st = .off ∧ s.chg.kill = true ∧ s.chg.pwm = false ∧ disDemand s = false ∧ s.est.probe = none →
      vPresent s * cells s ≤ v ∧ v < (vOv s - vHyst s) * cells s →
      Answers (.batteryPresent v sec) s (fun t => t.chg.kill = false ∧ t.chg.st = .off ∧ t.chg.pwm = false ∧
          t.path = { s.path with vbat := v } ∧ t = { s with path := t.path, chg := t.chg })) ∧
  (∀ (s : State),
      Answers .ovAbsenceExpiry s (fun t => t = { s with chg := { s.chg with ovTimes := [] } })) ∧
  (∀ (i : Int) (s : State),
      chgRuns s = true ∧ s.chg.st = .float ∧ s.heddle.safeHold = false →
      (if pn Pid.CHG_I_REBULK_MA s = 0 then (rdivN (pn Pid.CHG_CAP_MAH s) 10 : Int) else (pn Pid.CHG_I_REBULK_MA s : Int)) ≤ i →
      Answers (.floatRebulk i) s (fun t => t.chg.checkDue = true ∧ t.chg.newCycle = true ∧ t.chg.st = .float ∧ t = { s with chg := t.chg })) ∧
  (∀ (s : State),
      let v := floatLevel (batTemp s) s
      vrla s = true →
      s.chg.st = .float →
      Answers .floatRecompute s (fun t => t = { s with chg := { s.chg with floatMv := t.chg.floatMv } } ∧ t.chg.floatMv ≤ s.chg.floatMv +
          cells s ∧ s.chg.floatMv ≤ t.chg.floatMv + cells s ∧ (s.chg.floatMv ≤ v → v ≤ s.chg.floatMv + cells s → t.chg.floatMv = v) ∧
          (s.chg.floatMv + cells s < v → t.chg.floatMv = s.chg.floatMv + cells s))) ∧
  (∀ (vl vb : Nat) (s : State),
      let m := s.chg.mode
      Answers (.converterModeChange vl vb) s (fun t => t = { s with
            path := { s.path with vlink := vl, vbat := vb }, chg := { s.chg with mode := t.chg.mode } } ∧  (115 * vb ≤ 100 * vl →
          t.chg.mode = .buck) ∧ (100 * vl < 115 * vb → 100 * vl ≤ 87 * vb → t.chg.mode = .boost) ∧ (87 * vb < 100 * vl →
          100 * vl < 115 * vb → t.chg.mode = (if m = .buck ∧ 112 * vb ≤ 100 * vl then .buck else if m = .boost ∧ 100 * vl ≤ 90 * vb then
          .boost else .buckBoost))))

/-- A comparator trip goes to the next ready member in rotation, with the on-time of R162 from the present set point, VLINK and trim, and
  is held when none is ready; while VIN_LOW holds it switches nothing. An on-time ends with PH low and the minimum off-time running; a held
  trip goes to the member that becomes ready. A member above its valley limit sets CURRENT_LIMIT and starts no on-time; a peak over-current
  truncates the on-time and sets CURRENT_LIMIT; a negative current below the limit, 0 in soft start, puts the phase at high impedance for
  the rest of the off-time. CURRENT_LIMIT clears with no member held or truncated; RAIL_OVERLOAD only reports. Trims move against their
  deviation from the members' mean and stay within 12 % (the step is a free value, log entry 3). Where a clause needs a reading of the
  manual or a choice, it is the model's: log entries 3, 4, 16, 58. [derived: R162; R163; R164; R165; R173; R176; R178; log entry 3] -/
def Obligations.DispatcherAndCurrentLimits : Prop :=
  (∀ (c : Fin 12) (i : Nat) (k : Fin 24) (before after : List (Nat × Fin 24)) (mv vlink : Nat) (s : State),
      let x := s.pwr.vr[c]
      let n := onTaps (pn (Pid.VR_FSW_KHZ c.val) s) (refNow c s) vlink s.pwr.ph[k].trim
      x.st = .regulate ∧ x.vinLow = false ∧ s.sys.regStopped = false →
      x.uvOn = false ∨ x.curLimit = false →
      rotationFrom c s = before ++ (i, k) :: after →
      (∀ j ∈ before, s.pwr.ph[j.2].onTaps ≠ none ∨ s.pwr.ph[j.2].minOff = true) →
      (∀ j ∈ rotation c s, s.pwr.ph[j].imon ≤ (pn (Pid.VR_IVAL_MA c.val) s : Int) ∧ s.pwr.ph[j].peak = false) →
      s.pwr.ph[k].onTaps = none ∧ s.pwr.ph[k].minOff = false →
      Answers (.comparatorTrip c [] mv vlink) s (fun t => t.pwr.ph[k].onTaps = some n ∧ t.pwr.ph[k].level = .high ∧ (x.injRef ≠ 0 →
          t.pwr.ph[k].ramp = 1000 * x.injGain * ((vlink - refNow c s) * n) / x.injRef) ∧ t.pwr.vr[c].rot = some i ∧
          t.pwr.vr[c].heldTrip = false ∧ t.pwr.vr[c].curLimit = x.curLimit ∧ t.pwr.vr[c].st = .regulate ∧ t.pwr.vr[c].outMv = mv ∧ (∀ j,
          j ≠ k → t.pwr.ph[j].onTaps = s.pwr.ph[j].onTaps ∧ t.pwr.ph[j].level = s.pwr.ph[j].level) ∧
          ChanFrame c { s with path := { s.path with vlink := vlink } } t)) ∧
  (∀ (c : Fin 12) (mv vlink : Nat) (s : State),
      let x := s.pwr.vr[c]
      x.st = .regulate ∧ x.vinLow = false ∧ x.uvOn = false ∧ s.sys.regStopped = false →
      (∀ j ∈ rotation c s, s.pwr.ph[j].onTaps ≠ none) →
      Answers (.comparatorTrip c [] mv vlink) s (fun t => t.pwr.vr[c].heldTrip = true ∧ t.pwr.vr[c].st = .regulate ∧ (∀ j : Fin 24,
          t.pwr.ph[j].onTaps = s.pwr.ph[j].onTaps ∧ t.pwr.ph[j].level = s.pwr.ph[j].level) ∧
          ChanFrame c { s with path := { s.path with vlink := vlink } } t)) ∧
  (∀ (c : Fin 12) (im : List (Fin 24 × Int)) (mv vlink : Nat) (s : State),
      s.pwr.vr[c].vinLow = true →
      Answers (.comparatorTrip c im mv vlink) s (fun t => t.pwr.ph = s.pwr.ph ∧ t.pwr.vr[c] = { s.pwr.vr[c] with outMv := mv } ∧
          ChanFrame c { s with path := { s.path with vlink := vlink } } t)) ∧
  (∀ (k : Fin 24) (n : Nat) (s : State),
      s.pwr.ph[k].onTaps = some n →
      Answers (.onTimeEnd k) s (fun t => t.pwr.ph[k] = { s.pwr.ph[k] with onTaps := none, level := .low, minOff := true } ∧ (∀ j, j ≠ k →
          t.pwr.ph[j] = s.pwr.ph[j]) ∧ t = { s with pwr := { s.pwr with ph := t.pwr.ph } })) ∧
  (∀ (k : Fin 24) (s : State),
      s.pwr.ph[k].onTaps = none →
      Answers (.onTimeEnd k) s (fun t => t = s)) ∧
  (∀ (c : Fin 12) (k : Fin 24) (s : State),
      let x := s.pwr.vr[c]
      chanOf k s = some c ∧ k ∈ rotation c s →
      x.heldTrip = true ∧ x.st = .regulate ∧ x.vinLow = false ∧ s.sys.regStopped = false →
      s.pwr.ph[k].onTaps = none →
      Answers (.memberReady k) s (fun t => t.pwr.ph[k].onTaps = some (onTaps (pn (Pid.VR_FSW_KHZ c.val) s) (refNow c s) s.path.vlink s.pwr.ph[k].trim) ∧
          t.pwr.ph[k].level = .high ∧ t.pwr.ph[k].minOff = false ∧ t.pwr.vr[c].heldTrip = false ∧
          (∃ j ∈ rotationPos c s, j.2 = k ∧ t.pwr.vr[c].rot = some j.1) ∧ (∀ j, j ≠ k → t.pwr.ph[j] = s.pwr.ph[j]) ∧ ChanFrame c s t)) ∧
  (∀ (c : Fin 12) (k : Fin 24) (s : State),
      chanOf k s = some c ∧ s.pwr.vr[c].heldTrip = false →
      Answers (.memberReady k) s (fun t => t.pwr.ph[k] = { s.pwr.ph[k] with minOff := false, valley := false } ∧ (∀ j, j ≠ k →
          t.pwr.ph[j] = s.pwr.ph[j]) ∧ t = { s with pwr := { s.pwr with ph := t.pwr.ph } })) ∧
  (∀ (c : Fin 12) (k : Fin 24) (n : Nat) (ma : Int) (s : State),
      chanOf k s = some c ∧ s.pwr.ph[k].onTaps = some n →
      s.pwr.vr[c].uvOn = false ∨ s.pwr.vr[c].vinLow = true →
      (pn (Pid.VR_IPK_MA c.val) s : Int) ≤ ma →
      Answers (.peakOverCurrent k ma) s (fun t => t.pwr.ph[k] = { s.pwr.ph[k] with
            imon := ma, onTaps := none, level := .low, minOff := true, peak := true } ∧  t.pwr.vr[c].curLimit = true ∧
          t.pwr.vr[c].st = s.pwr.vr[c].st ∧ (∀ j, j ≠ k → t.pwr.ph[j] = s.pwr.ph[j]) ∧ ChanFrame c s t)) ∧
  (∀ (c : Fin 12) (k : Fin 24) (ma : Int) (s : State),
      chanOf k s = some c →
      ma < (pn (Pid.VR_IPK_MA c.val) s : Int) ∨ s.pwr.ph[k].onTaps = none →
      Answers (.peakOverCurrent k ma) s (fun t => t = s)) ∧
  (∀ (c : Fin 12) (k : Fin 24) (ma : Int) (s : State),
      chanOf k s = some c ∧ s.pwr.ph[k].onTaps = none ∧ s.pwr.ph[k].level = .low →
      ma ≤ -(if s.pwr.vr[c].st = .softstart then 0 else (pn (Pid.VR_INEG_MA c.val) s : Int)) →
      Answers (.negativeCurrent k ma) s (fun t => t.pwr.ph[k] = { s.pwr.ph[k] with imon := ma, level := .hiZ } ∧ (∀ j, j ≠ k →
          t.pwr.ph[j] = s.pwr.ph[j]) ∧ t = { s with pwr := { s.pwr with ph := t.pwr.ph } })) ∧
  (∀ (c : Fin 12) (s : State),
      (∀ k ∈ rotation c s, s.pwr.ph[k].valley = false ∧ s.pwr.ph[k].peak = false) →
      Answers (.currentLimitClear c) s (fun t => t.pwr.vr[c] = { s.pwr.vr[c] with curLimit := false } ∧ t.pwr.ph = s.pwr.ph ∧
          ChanFrame c s t)) ∧
  (∀ (c : Fin 12) (k : Fin 24) (s : State),
      k ∈ rotation c s ∧ s.pwr.ph[k].valley = true →
      Answers (.currentLimitClear c) s (fun t => t = s)) ∧
  (∀ (c : Fin 12) (s : State),
      s.pwr.vr[c].curLimit = true ∧ s.sys.inReset = false →
      Answers (.railOverload c) s (fun t => Picked (0x080 + c.val) 0x16 s.pwr.vr[c].st.code s t ∧ t = { s with selv := t.selv })) ∧
  (∀ (c : Fin 12) (l : List (Fin 24 × Int)) (s : State),
      let mean := rdiv ((l.map (fun e => e.2)).sum) l.length
      servedNow c s = true ∧ s.pwr.vr[c].st = .regulate →
      l ≠ [] ∧ (l.map (fun e => e.1)).Nodup →
      (∀ e ∈ l, e.1 ∈ rotation c s ∧ -1200 ≤ s.pwr.ph[e.1].trim ∧ s.pwr.ph[e.1].trim ≤ 1200) →
      Answers (.sharingUpdate c l) s (fun t => (∀ e ∈ l, -1200 ≤ t.pwr.ph[e.1].trim ∧ t.pwr.ph[e.1].trim ≤ 1200 ∧
          (mean < e.2 → t.pwr.ph[e.1].trim ≤ s.pwr.ph[e.1].trim) ∧ (e.2 < mean → s.pwr.ph[e.1].trim ≤ t.pwr.ph[e.1].trim) ∧
          (e.2 = mean → t.pwr.ph[e.1].trim = s.pwr.ph[e.1].trim) ∧ t.pwr.ph[e.1].imon = e.2) ∧
          t.pwr.vr[c].trimAt = s.sys.devTime ∧ (∀ i, i ∉ l.map (fun e => e.1) → t.pwr.ph[i] = s.pwr.ph[i]) ∧ ChanFrame c s t)) ∧
  (∀ (c : Fin 12) (k : Fin 24) (ma : Int) (mv vlink : Nat) (s : State),
      let x := s.pwr.vr[c]
      x.st = .regulate ∧ x.vinLow = false ∧ x.uvOn = false ∧ s.sys.regStopped = false →
      k ∈ rotation c s →
      (pn (Pid.VR_IVAL_MA c.val) s : Int) < ma →
      Answers (.comparatorTrip c [(k, ma)] mv vlink) s (fun t => t.pwr.vr[c].curLimit = true ∧ t.pwr.ph[k].imon = ma ∧
          t.pwr.ph[k].valley = true ∧ t.pwr.ph[k].onTaps = s.pwr.ph[k].onTaps ∧ t.pwr.vr[c].st = .regulate ∧
          ChanFrame c { s with path := { s.path with vlink := vlink } } t))

/-- In REGULATE, outside every group: an output at set point x (1 + OV_PCT) raises RAIL_OV and latches the channel off with cause 1, or
  enters HICCUP, as OV_ACT says; one below set point x (1 - UV_PCT) raises RAIL_UV and, by UV_ACT, only reports, enters HICCUP or latches
  with cause 2, and with CURRENT_LIMIT set enters HICCUP as a short; it clears 2 % higher. 8 trips in a short enter HICCUP, counted up to
  255; its off time ends in a soft start, or latches with cause 3 above HICCUP_MAX; 10 x TSS up clears the count. VLINK below VIN_MIN sets
  VIN_LOW with the state kept and the phases off, and 1 V above it begins a pre-biased soft start, or goes on with an active discharge. A
  sense difference above 150 mV moves REGULATE to DEGRADED with SENSE_OPEN. Where a clause needs a reading of the manual or a choice, it is
  the model's: log entries 16, 51, 56, 58. [derived: R171; R176; R178; R179; R180; R181; R182; R189] -/
def Obligations.ChannelProtection : Prop :=
  (∀ (c : Fin 12) (a : OvTrip) (s : State),
      let x := s.pwr.vr[c]
      let mv := if x.senseOpen = true ∨ pn (Pid.VR_SNS_MODE c.val) s = 1 then a.near else max a.remote a.near
      x.st = .regulate ∧ x.ovOn = false ∧ s.sys.regStopped = false ∧ s.sys.inReset = false →
      a.co ≠ .disable →
      winTop c s * (100 + pn (Pid.VR_OV_PCT c.val) s) ≤ mv * 100 →
      railGroup (.vr c) s = none →
      Answers (.railOv c a) s (fun t => Delivered (0x080 + c.val) 0x12 3 s t ∧ Posted 0x3005 0 s t ∧ t.pwr.vr[c].pg = false ∧
          (pn (Pid.VR_OV_ACT c.val) s = 0 → t.pwr.vr[c].st = .latchedOff ∧ t.pwr.vr[c].latchCause = 1 ∧ Delivered (0x080 +
          c.val) 0x15 0x13 s t) ∧ (pn (Pid.VR_OV_ACT c.val) s ≠ 0 → t.pwr.vr[c].st = .hiccup ∧ Delivered (0x080 + c.val) 0x14 3 s t) ∧
          (∀ k ∈ vrPhases c s, t.pwr.ph[k].level = .hiZ) ∧ ChanFrame c s t)) ∧
  (∀ (c : Fin 12) (a : OvTrip) (s : State),
      s.pwr.vr[c].st = .off ∨ (s.pwr.vr[c].st = .latchedOff ∧ a.co ≠ .trip) ∨ s.pwr.vr[c].ovOn = true →
      Answers (.railOv c a) s (fun t => t = s)) ∧
  (∀ (c : Fin 12) (a : UvTrip) (s : State),
      let x := s.pwr.vr[c]
      x.st = .regulate ∧ x.uvOn = false ∧ (x.curLimit = false ∨ x.vinLow = true) ∧ s.sys.regStopped = false ∧ s.sys.inReset = false →
      x.vinLow = true ∨ a.mv * 100 < winBottom c s * (100 - pn (Pid.VR_UV_PCT c.val) s) →
      a.co ≠ .disable ∧ railGroup (.vr c) s = none →
      Answers (.railUv c a) s (fun t => Delivered (0x080 + c.val) 0x13 3 s t ∧ Posted 0x3005 0 s t ∧ t.pwr.vr[c].outMv = a.mv ∧
          (pn (Pid.VR_UV_ACT c.val) s = 0 → t.pwr.vr[c].st = .regulate ∧ t.pwr.vr[c].uvOn = true ∧ t.pwr.ph = s.pwr.ph) ∧
          (pn (Pid.VR_UV_ACT c.val) s = 1 → t.pwr.vr[c].st = .hiccup ∧ Delivered (0x080 + c.val) 0x14 3 s t) ∧
          (pn (Pid.VR_UV_ACT c.val) s = 2 → t.pwr.vr[c].st = .latchedOff ∧ t.pwr.vr[c].latchCause = 2) ∧ ChanFrame c s t)) ∧
  (∀ (c : Fin 12) (a : UvTrip) (s : State),
      let x := s.pwr.vr[c]
      x.st = .regulate ∧ x.curLimit = true ∧ x.vinLow = false ∧ s.sys.regStopped = false ∧ s.sys.inReset = false →
      a.mv * 100 < winBottom c s * (100 - pn (Pid.VR_UV_PCT c.val) s) →
      a.co ≠ .disable ∧ railGroup (.vr c) s = none →
      Answers (.railUv c a) s (fun t => t.pwr.vr[c].st = .hiccup ∧ t.pwr.vr[c].hiccups = min 255 (x.hiccups + 1) ∧ Delivered (0x080 +
          c.val) 0x14 3 s t ∧ ChanFrame c s t)) ∧
  (∀ (c : Fin 12) (mv : Nat) (s : State),
      let x := s.pwr.vr[c]
      x.uvOn = true →
      winBottom c s * (102 - pn (Pid.VR_UV_PCT c.val) s) ≤ mv * 100 →
      Answers (.railUvClear c mv) s (fun t => t.pwr.vr[c] = { x with uvOn := false, outMv := mv } ∧ t.pwr.ph = s.pwr.ph ∧ ChanFrame c s t)) ∧
  (∀ (c : Fin 12) (mv : Nat) (s : State),
      s.pwr.vr[c].uvOn = false →
      Answers (.railUvClear c mv) s (fun t => t = s)) ∧
  (∀ (a : ShortTrip) (s : State),
      let c := a.c
      let x := s.pwr.vr[c]
      (x.st = .softstart ∨ x.st = .regulate ∨ x.st = .degraded) ∧ 8 ≤ x.shortTrips →
      x.vinLow = false ∧ s.sys.inReset = false →
      a.co ≠ .disable ∧ railGroup (.vr c) s = none →
      Answers (.shortDetect a) s (fun t => t.pwr.vr[c].st = .hiccup ∧ t.pwr.vr[c].hiccups = min 255 (x.hiccups + 1) ∧
          t.pwr.vr[c].pg = false ∧ Delivered (0x080 + c.val) 0x14 x.st.code s t ∧ (∀ k ∈ vrPhases c s, t.pwr.ph[k].level = .hiZ) ∧
          ChanFrame c s t)) ∧
  (∀ (a : ShortTrip) (s : State),
      let x := s.pwr.vr[a.c]
      (x.st = .softstart ∨ x.st = .regulate ∨ x.st = .degraded) ∧ 8 ≤ x.shortTrips →
      a.co = .disable ∧ s.sys.inReset = false →
      Answers (.shortDetect a) s (fun t => Delivered (0x080 + a.c.val) 0x14 x.st.code s t ∧ Posted 0x3005 0 s t ∧ t.pwr.vr = s.pwr.vr ∧
          t.pwr.ph = s.pwr.ph ∧ ChanFrame a.c s t)) ∧
  (∀ (a : ShortTrip) (s : State),
      s.pwr.vr[a.c].shortTrips < 8 ∧ s.pwr.vr[a.c].st ≠ .discharge →
      Answers (.shortDetect a) s (fun t => t = s)) ∧
  (∀ (c : Fin 12) (s : State),
      let m := pn (Pid.VR_HICCUP_MAX c.val) s
      s.pwr.vr[c].st = .hiccup →
      m = 0 ∨ s.pwr.vr[c].hiccups ≤ m →
      Answers (.hiccupOffExpiry c) s (fun t => t.pwr.vr[c].st = .softstart ∧ t.pwr.vr[c].hiccups = s.pwr.vr[c].hiccups ∧
          t.pwr.vr[c].setMv = targetMv c s ∧ (pb (Pid.VR_PREBIAS c.val) s = false → t.pwr.vr[c].refMv = 0) ∧ ChanFrame c s t)) ∧
  (∀ (c : Fin 12) (s : State),
      let m := pn (Pid.VR_HICCUP_MAX c.val) s
      s.pwr.vr[c].st = .hiccup →
      m ≠ 0 ∧ m < s.pwr.vr[c].hiccups →
      s.sys.inReset = false ∧ railGroup (.vr c) s = none →
      Answers (.hiccupOffExpiry c) s (fun t => t.pwr.vr[c].st = .latchedOff ∧ t.pwr.vr[c].latchCause = 3 ∧ Delivered (0x080 +
          c.val) 0x15 0x35 s t ∧ ChanFrame c s t)) ∧
  (∀ (c : Fin 12) (s : State),
      s.pwr.vr[c].st = .regulate ∨ s.pwr.vr[c].st = .degraded →
      Answers (.hiccupCountReset c) s (fun t => t.pwr.vr[c] = { s.pwr.vr[c] with hiccups := 0 } ∧ t.pwr.ph = s.pwr.ph ∧
          t = { s with pwr := { s.pwr with vr := t.pwr.vr } } ∧ ChanFrame c s t)) ∧
  (∀ (c : Fin 12) (v : Nat) (s : State),
      let x := s.pwr.vr[c]
      (x.st = .softstart ∨ x.st = .regulate ∨ x.st = .degraded ∨ (x.st = .discharge ∧ pn (Pid.VR_DISCH c.val) s = 1)) ∧
          x.vinLow = false ∧ s.sys.regStopped = false ∧ s.sys.inReset = false →
      v < pn (Pid.VR_VIN_MIN_MV c.val) s →
      Answers (.vinLow c v) s (fun t => t.pwr.vr[c].vinLow = true ∧ t.pwr.vr[c].st = x.st ∧ t.pwr.vr[c].hiccups = x.hiccups ∧ PickSent (64 +
          c.val) (0x080 + c.val) 0x17 x.st.code s t ∧ (∀ k ∈ vrPhases c s, t.pwr.ph[k].level = .hiZ) ∧
          ChanFrame c { s with path := { s.path with vlink := v } } t)) ∧
  (∀ (c : Fin 12) (v : Nat) (s : State),
      let x := s.pwr.vr[c]
      (x.st = .softstart ∨ x.st = .regulate ∨ x.st = .degraded) ∧ x.vinLow = true →
      pn (Pid.VR_VIN_MIN_MV c.val) s + 1000 ≤ v →
      Answers (.vinRecovery c v) s (fun t => t.pwr.vr[c].vinLow = false ∧ t.pwr.vr[c].st = .softstart ∧
          t.pwr.vr[c].refMv = min x.outMv (targetMv c s) ∧ t.pwr.vr[c].setMv = targetMv c s ∧
          ChanFrame c { s with path := { s.path with vlink := v } } t)) ∧
  (∀ (c : Fin 12) (v : Nat) (s : State),
      let x := s.pwr.vr[c]
      x.st = .discharge ∧ x.vinLow = true →
      pn (Pid.VR_VIN_MIN_MV c.val) s + 1000 ≤ v →
      Answers (.vinRecovery c v) s (fun t => t.pwr.vr[c] = { x with vinLow := false } ∧ ((pn (Pid.VR_DISCH c.val) s = 1 ∧
          x.disSusp = false → ∀ k ∈ rotation c s, t.pwr.ph[k].level = .low) ∧ ∀ k, k ∉ rotation c s → t.pwr.ph[k] = s.pwr.ph[k]) ∧
          ChanFrame c { s with path := { s.path with vlink := v } } t)) ∧
  (∀ (c : Fin 12) (v : Nat) (s : State),
      s.pwr.vr[c].vinLow = false ∨ v < pn (Pid.VR_VIN_MIN_MV c.val) s + 1000 →
      Answers (.vinRecovery c v) s (fun t => t = { s with path := { s.path with vlink := v } })) ∧
  (∀ (c : Fin 12) (v : SensePins) (s : State),
      let x := s.pwr.vr[c]
      let div := pn (Pid.VR_DIV c.val) s
      let remote := (v.snsUv - 10 * pn (Pid.VR_RTH_OHM c.val) s) * div
      let near := v.locUv * pn (Pid.VR_DIV_LOC c.val) s - chanMa c s * pn (Pid.VR_RDIST_UOHM c.val) s
      x.st = .regulate ∧ x.senseOpen = false ∧ pn (Pid.VR_SNS_MODE c.val) s = 0 ∧ s.sys.regStopped = false ∧ s.sys.inReset = false →
      150000 * div < (near - remote).natAbs →
      Answers (.senseOpen c v) s (fun t => t.pwr.vr[c].senseOpen = true ∧ t.pwr.vr[c].st = .degraded ∧ t.pwr.vr[c].pg = x.pg ∧
          PickSent (64 + c.val) (0x080 + c.val) 0x11 3 s t ∧ Posted 0x3004 0 s t ∧ t.pwr.ph = s.pwr.ph ∧ ChanFrame c s t)) ∧
  (∀ (c : Fin 12) (v : SensePins) (s : State),
      s.pwr.vr[c].senseOpen = false →
      (senseDelta c v s).natAbs ≤ 150000 * pn (Pid.VR_DIV c.val) s →
      Answers (.senseOpen c v) s (fun t => t = s)) ∧
  (∀ (c : Fin 12) (v : SensePins) (s : State),
      let x := s.pwr.vr[c]
      x.st = .regulate ∨ x.st = .degraded →
      x.senseOpen = true ∧ pn (Pid.VR_SNS_MODE c.val) s = 0 ∧ s.sys.regStopped = false →
      Answers (.senseOpen c v) s (fun t => t.pwr.vr[c] = { x with
            senseBack := decide ((senseDelta c v s).natAbs ≤ 75000 * pn (Pid.VR_DIV c.val) s) } ∧ t.pwr.ph = s.pwr.ph ∧ ChanFrame c s t))

/-- A soft start ends in REGULATE with every position filled and the sense line whole, else in DEGRADED; an LDO's in REGULATE. A
  discharging rail whose output is below its off-threshold is OFF; so is one whose discharge times out, a channel's with RAIL_STUCK's
  report; an enable output's wait expires, or its monitor falls below OFF, alike. A held enable starts its rail once the output has fallen,
  when VLINK and members allow. Active discharge suspends at VR.DIS_VLINK_MAX_MV and resumes 1 V below. A slew ends at the set point. PG
  goes low outside its outer window and high inside its inner one. A margin's widened window narrows when the slew is done. Where a clause
  needs a reading of the manual or a choice, it is the model's: log entries 3, 16, 58. [derived: R48; R170; R171; R174; R175; R189; R190;
  R198; R200; R219; R226; R227] -/
def Obligations.SoftStartDischargeAndSlew : Prop :=
  (∀ (c : Fin 12) (s : State),
      let x := s.pwr.vr[c]
      x.st = .softstart ∧ x.vinLow = false →
      Answers (.softstartComplete (.vr c)) s (fun t => t.pwr.vr[c].refMv = x.setMv ∧ t.pwr.vr[c].margined = decide (x.margin ≠ 0) ∧
          t.pwr.vr[c].st = (if (vrMembers c s).length ≤ activeNow c s + (if x.takeover = true then 1 else 0) ∧ x.senseOpen = false then
          .regulate else .degraded) ∧ t.pwr.ph = s.pwr.ph ∧ ChanFrame c s t)) ∧
  (∀ (n : Fin 8) (s : State),
      s.pwr.ldo[n].st = .softstart →
      Answers (.softstartComplete (.ldo n)) s (fun t => t.pwr.ldo[n] = { s.pwr.ldo[n] with st := .regulate } ∧ (∀ m, m ≠ n →
          t.pwr.ldo[m] = s.pwr.ldo[m]) ∧ t.pwr.vr = s.pwr.vr ∧ t.pwr.en = s.pwr.en ∧ t.path = s.path)) ∧
  (∀ (n : Fin 16) (s : State),
      Answers (.softstartComplete (.en n)) s (fun t => t = s)) ∧
  (∀ (c : Fin 12) (mv : Nat) (s : State),
      s.pwr.vr[c].st = .discharge →
      mv * 100 < pn (Pid.VR_OFF_PCT c.val) s * targetMv c (noteOut (.vr c, mv) s) →
      s.sys.rstnLong = false ∧ s.sys.dieStopping = false →
      Answers (.dischargeComplete (.vr c) mv) s (fun t => t.pwr.vr[c].st = .off ∧ t.pwr.vr[c].outMv = mv ∧ t.pwr.vr[c].refMv = 0 ∧
          t.pwr.vr[c].senseOpen = false ∧ railPending (.vr c) t = false ∧ (∀ k ∈ vrPhases c s, t.pwr.ph[k].level = .hiZ) ∧ (∀ d, d ≠ c →
          t.pwr.vr[d] = s.pwr.vr[d]) ∧ t.pwr.ldo = s.pwr.ldo ∧ t.pwr.en = s.pwr.en)) ∧
  (∀ (n : Fin 8) (mv : Nat) (s : State),
      s.pwr.ldo[n].st = .discharge →
      mv * 10 < pn (Pid.LDO_VOUT_MV n.val) s →
      s.sys.rstnLong = false ∧ s.sys.dieStopping = false →
      Answers (.dischargeComplete (.ldo n) mv) s (fun t => t.pwr.ldo[n].st = .off ∧ t.pwr.ldo[n].outMv = mv ∧ (∀ m, m ≠ n →
          t.pwr.ldo[m] = s.pwr.ldo[m]) ∧ t.pwr.vr = s.pwr.vr ∧ t.pwr.en = s.pwr.en)) ∧
  (∀ (c : Fin 12) (s : State),
      s.pwr.vr[c].st = .discharge →
      s.sys.rstnLong = false ∧ s.sys.dieStopping = false ∧ s.sys.inReset = false →
      Answers (.dischTimeout (.vr c)) s (fun t => t.pwr.vr[c].st = .off ∧ PickSent (64 + c.val) (0x080 + c.val) 0x18 1 s t ∧ (∀ d, d ≠ c →
          t.pwr.vr[d] = s.pwr.vr[d]) ∧ t.pwr.ldo = s.pwr.ldo ∧ t.pwr.en = s.pwr.en ∧ t.path = s.path)) ∧
  (∀ (n : Fin 8) (s : State),
      s.pwr.ldo[n].st = .discharge →
      s.sys.rstnLong = false ∧ s.sys.dieStopping = false →
      Answers (.dischTimeout (.ldo n)) s (fun t => t.pwr.ldo[n] = { s.pwr.ldo[n] with st := .off } ∧ t.pwr.vr = s.pwr.vr ∧
          t.pwr.en = s.pwr.en)) ∧
  (∀ (n : Fin 16) (s : State),
      s.pwr.en[n].st = .discharge →
      s.sys.rstnLong = false ∧ s.sys.dieStopping = false →
      Answers (.enOffWaitExpiry n) s (fun t => t.pwr.en[n] = { s.pwr.en[n] with st := .off } ∧ (∀ m, m ≠ n → t.pwr.en[m] = s.pwr.en[m]) ∧
          t.pwr.vr = s.pwr.vr ∧ t.pwr.ldo = s.pwr.ldo ∧ t.pwr.mon = s.pwr.mon)) ∧
  (∀ (n : Fin 16) (m : Fin 32) (s : State),
      enMon n s = some m ∧ s.pwr.en[n].st = .discharge →
      s.sys.rstnLong = false ∧ s.sys.dieStopping = false →
      Answers (.offComparatorChange m true) s (fun t => t.pwr.mon[m] = { s.pwr.mon[m] with off := true } ∧ t.pwr.en[n].st = .off ∧ (∀ i,
          i ≠ m → t.pwr.mon[i] = s.pwr.mon[i]) ∧ t.pwr.vr = s.pwr.vr ∧ t.pwr.ldo = s.pwr.ldo)) ∧
  (∀ (m : Fin 32) (s : State),
      s.sys.rstnLong = false ∧ s.sys.dieStopping = false →
      Answers (.offComparatorChange m false) s (fun t => t.pwr.mon[m] = { s.pwr.mon[m] with off := false } ∧ (∀ i, i ≠ m →
          t.pwr.mon[i] = s.pwr.mon[i]) ∧ t = { s with pwr := { s.pwr with mon := t.pwr.mon } })) ∧
  (∀ (c : Fin 12) (mv : Nat) (s : State),
      let t0 := noteOut (.vr c, mv) s
      s.pwr.vr[c].enableHeld = true ∧ vrBelowOff c mv t0 = true →
      vrCanStart c s = true ∧ s.sys.regStopped = false ∧ thermHeld (.vr c) s = false →
      Answers (.enableHeldStart (.vr c) mv) s (fun t => t.pwr.vr[c].st = .softstart ∧ t.pwr.vr[c].enableHeld = false ∧
          t.pwr.vr[c].refMv = (if pb (Pid.VR_PREBIAS c.val) s = true then min mv (targetMv c t0) else 0) ∧
          t.pwr.vr[c].setMv = targetMv c t0 ∧ ChanFrame c s t)) ∧
  (∀ (n : Fin 16) (mv : Nat) (s : State),
      s.pwr.en[n].enableHeld = true ∧ enBelowOff n s = true →
      s.sys.regStopped = false ∧ thermHeld (.en n) s = false →
      Answers (.enableHeldStart (.en n) mv) s (fun t => t.pwr.en[n] = { s.pwr.en[n] with st := .on, enableHeld := false } ∧ (∀ m, m ≠ n →
          t.pwr.en[m] = s.pwr.en[m]) ∧ t.pwr.vr = s.pwr.vr ∧ t.pwr.ldo = s.pwr.ldo ∧ t.pwr.mon = s.pwr.mon)) ∧
  (∀ (r : Rail) (mv : Nat) (s : State),
      railHeld r s = false →
      Answers (.enableHeldStart r mv) s (fun t => t = noteOut (r, mv) s)) ∧
  (∀ (n : Fin 8) (mv : Nat) (s : State),
      s.pwr.ldo[n].enableHeld = true ∧ mv * 10 < pn (Pid.LDO_VOUT_MV n.val) s →
      s.sys.regStopped = false ∧ thermHeld (.ldo n) s = false →
      Answers (.enableHeldStart (.ldo n) mv) s (fun t => t.pwr.ldo[n].st = .softstart ∧ t.pwr.ldo[n].enableHeld = false ∧
          t.pwr.vr = s.pwr.vr)) ∧
  (∀ (c : Fin 12) (v : Nat) (s : State),
      let x := s.pwr.vr[c]
      x.st = .discharge ∧ pn (Pid.VR_DISCH c.val) s = 1 ∧ x.disSusp = false →
      pn Pid.VR_DIS_VLINK_MAX_MV s ≤ v →
      Answers (.dischVlinkCrossing v) s (fun t => t.pwr.vr[c].disSusp = true ∧ t.pwr.vr[c].st = .discharge ∧ (∀ d : Fin 12,
          t.pwr.vr[d].st = s.pwr.vr[d].st) ∧ t.path = { s.path with vlink := v } ∧ t.pwr.ldo = s.pwr.ldo ∧ t.pwr.en = s.pwr.en)) ∧
  (∀ (c : Fin 12) (v : Nat) (s : State),
      let x := s.pwr.vr[c]
      x.st = .discharge ∧ pn (Pid.VR_DISCH c.val) s = 1 ∧ x.disSusp = true →
      v + 1000 < pn Pid.VR_DIS_VLINK_MAX_MV s →
      Answers (.dischVlinkCrossing v) s (fun t => t.pwr.vr[c].disSusp = false ∧ t.pwr.vr[c].st = .discharge ∧
          t.path = { s.path with vlink := v })) ∧
  (∀ (c : Fin 12) (s : State),
      let x := s.pwr.vr[c]
      x.slewing = true →
      Answers (.slewComplete c) s (fun t => t.pwr.vr[c] = { x with
            slewing := false, refMv := x.setMv, margined := decide (x.margin ≠ 0),
            att := if linkedPort c s = none then x.att else attFor c x.setMv s } ∧ t.pwr.ph = s.pwr.ph ∧ ChanFrame c s t)) ∧
  (∀ (c : Fin 12) (s : State),
      s.pwr.vr[c].slewing = false →
      Answers (.slewComplete c) s (fun t => t = s)) ∧
  (∀ (c : Fin 12) (mv : Nat) (s : State),
      let x := s.pwr.vr[c]
      let lo := winBottom c s
      let hi := winTop c s
      let uv := pn (Pid.VR_PG_UV c.val) s
      let ov := pn (Pid.VR_PG_OV c.val) s
      let h := pn (Pid.VR_PG_HYST c.val) s
      (x.st = .regulate ∨ x.st = .degraded) ∧ s.sys.regStopped = false →
      Answers (.pgChange c mv) s (fun t => t.pwr.vr[c] = { x with outMv := mv, pg := t.pwr.vr[c].pg } ∧ (x.pg = true →
          t.pwr.vr[c].pg = decide (lo * (1000 - uv) ≤ mv * 1000 ∧ mv * 1000 ≤ hi * (1000 + ov))) ∧ (x.pg = false →
          t.pwr.vr[c].pg = decide (lo * (1000 - uv + h) ≤ mv * 1000 ∧ mv * 1000 ≤ hi * (1000 + ov - h))) ∧
          t.pwr.ph = s.pwr.ph ∧ ChanFrame c s t)) ∧
  (∀ (c : Fin 12) (s : State),
      let x := s.pwr.vr[c]
      x.wide ≠ none ∧ x.slewing = false →
      Answers (.marginWindowNarrow c) s (fun t => t.pwr.vr[c] = { x with wide := none } ∧ (∀ m ∈ chanMons c s,
          s.pwr.mon[m].widened = true → t.pwr.mon[m].widened = false ∧ (t.pwr.mon[m].uvCode, t.pwr.mon[m].ovCode,
          t.pwr.mon[m].offCode) = monCodes m s) ∧ (∀ m, m ∉ chanMons c s → t.pwr.mon[m] = s.pwr.mon[m]) ∧ t.pwr.ph = s.pwr.ph ∧
          t.pwr.ldo = s.pwr.ldo ∧ t.path = s.path)) ∧
  (∀ (c : Fin 12) (s : State),
      s.pwr.vr[c].wide = none ∨ s.pwr.vr[c].slewing = true →
      Answers (.marginWindowNarrow c) s (fun t => t = s))

/-- A lost member is DROPPED at high impedance with PHASE_LOST and its condition; with a spare in STANDBY the running channel keeps its
  state with TAKEOVER set, and the spare then takes the place as SPARE_IN with its pick; without one REGULATE becomes DEGRADED, and below
  MIN_PH active members LATCHED_OFF with cause 4. A spare more than 3 % off its zero level is DROPPED; a DROPPED phase found in range may be
  cleared. Health keeps the estimates of L and R of a phase of a channel loaded above 30 % of its current limit. An LDO in REGULATE below 90
  % raises LDO_UV and, with LDO.UV_ACT 1, latches off; its overload only reports. Where a clause needs a reading of the manual or a choice,
  it is the model's: log entries 16, 56, 58. [derived: R183; R184; R185; R186; R187; R191; R192] -/
def Obligations.PhaseLossHealthAndLdo : Prop :=
  (∀ (c : Fin 12) (k : Fin 24) (r : LossReport) (s : State),
      let x := s.pwr.vr[c]
      chanOf k s = some c ∧ s.pwr.ph[k].st = .member →
      x.st = .regulate ∧ x.takeover = false ∧ s.sys.regStopped = false ∧ s.sys.inReset = false →
      lossFound c k r.what s ≠ 0 →
      (∃ j, vrSpare c s = some j ∧ j ≠ k ∧ s.pwr.ph[j].st = .standby) →
      Answers (.phaseLost k r) s (fun t => t.pwr.ph[k].st = .dropped ∧ t.pwr.ph[k].level = .hiZ ∧ t.pwr.vr[c].takeover = true ∧
          t.pwr.vr[c].takePos = some k.val ∧ t.pwr.vr[c].st = .regulate ∧ (∀ j, j ≠ k → t.pwr.ph[j] = s.pwr.ph[j]) ∧ Delivered (0x0A0 +
          k.val) 0x10 (3 + 16 * lossFound c k r.what s) s t ∧ Posted 0x3001 0 s t ∧ ChanFrame c s t)) ∧
  (∀ (c : Fin 12) (k : Fin 24) (mv : Nat) (same : Bool) (s : State),
      let x := s.pwr.vr[c]
      chanOf k s = some c ∧ s.pwr.ph[k].st = .member ∧ k ∈ vrMembers c s →
      x.st = .regulate ∧ x.takeover = false ∧ s.sys.regStopped = false ∧ s.sys.inReset = false →
      mv < 100 ∨ 2900 < mv →
      vrSpare c s = none →
      pn (Pid.VR_MIN_PH c.val) s + 1 ≤ activeNow c s →
      Answers (.phaseLost k ⟨.imon mv, same⟩) s (fun t => t.pwr.ph[k].st = .dropped ∧ t.pwr.vr[c].st = .degraded ∧ t.pwr.vr[c].pg = x.pg ∧ (∀ j,
          j ≠ k → t.pwr.ph[j] = s.pwr.ph[j]) ∧ ChanFrame c s t)) ∧
  (∀ (c : Fin 12) (k : Fin 24) (mv : Nat) (same : Bool) (s : State),
      let x := s.pwr.vr[c]
      chanOf k s = some c ∧ s.pwr.ph[k].st = .member ∧ k ∈ vrMembers c s →
      x.st = .regulate ∧ x.takeover = false ∧ s.sys.regStopped = false ∧ s.sys.inReset = false →
      mv < 100 ∨ 2900 < mv →
      vrSpare c s = none ∧ railGroup (.vr c) s = none →
      activeNow c s ≤ pn (Pid.VR_MIN_PH c.val) s →
      Answers (.phaseLost k ⟨.imon mv, same⟩) s (fun t => t.pwr.ph[k].st = .dropped ∧ t.pwr.vr[c].st = .latchedOff ∧ t.pwr.vr[c].latchCause = 4 ∧
          Posted 0x3005 0 s t ∧ ChanFrame c s t)) ∧
  (∀ (k : Fin 24) (r : LossReport) (s : State),
      s.pwr.ph[k].st = .unused ∨ s.pwr.ph[k].st = .standby →
      Answers (.phaseLost k r) s (fun t => t = s)) ∧
  (∀ (c : Fin 12) (k : Fin 24) (mv : Nat) (same : Bool) (s : State),
      let x := s.pwr.ph[k]
      chanOf k s = some c ∧ x.st = .dropped ∧ s.sys.regStopped = false →
      Answers (.phaseLost k ⟨.imon mv, same⟩) s (fun t => t.pwr.ph[k] = { x with
            imonOk := decide (100 ≤ mv ∧ mv ≤ 2900 ∧ ((mv : Int) - pn (Pid.PH_IMON_REF_MV k.val) s).natAbs ≤ 81) } ∧ (∀ j, j ≠ k →
          t.pwr.ph[j] = s.pwr.ph[j]) ∧ t = { s with pwr := { s.pwr with ph := t.pwr.ph } })) ∧
  (∀ (c : Fin 12) (k : Fin 24) (s : State),
      let x := s.pwr.vr[c]
      vrSpare c s = some k ∧ chanOf k s = some c ∧ s.pwr.ph[k].st = .standby →
      x.takeover = true ∧ x.st = .regulate ∧ s.sys.inReset = false →
      Answers (.spareIn c) s (fun t => t.pwr.ph[k].st = .spareIn ∧ t.pwr.vr[c].spareUsed = true ∧ t.pwr.vr[c].takeover = false ∧
          t.pwr.vr[c].st = .regulate ∧ (∀ j, j ≠ k → t.pwr.ph[j] = s.pwr.ph[j]) ∧ PickSent (64 + c.val) (0x080 + c.val) 0x10 3 s t ∧
          t.pwr.ph[k].trim = presetTrim c s ∧ (∀ i ∈ vrMembers c s, i ≠ k → x.takePos = some i.val → s.pwr.ph[i].st = .dropped →
          x.vinLow = false → s.sys.regStopped = false → t.pwr.ph[k].level = .high ∧ t.pwr.vr[c].rot = some i.val) ∧
          Posted 0x3002 0 s t ∧ ChanFrame c s t)) ∧
  (∀ (c : Fin 12) (s : State),
      s.pwr.vr[c].takeover = false →
      Answers (.spareIn c) s (fun t => t = s)) ∧
  (∀ (c : Fin 12) (k : Fin 24) (mv : Nat) (s : State),
      let x := s.pwr.vr[c]
      chanOf k s = some c ∧ s.pwr.ph[k].st = .standby ∧ x.takeover = false ∧ s.sys.regStopped = false ∧ s.sys.inReset = false →
      81 < ((mv : Int) - pn (Pid.PH_IMON_REF_MV k.val) s).natAbs →
      x.st = .off ∨ (x.st ≠ .discharge ∧ pn (Pid.VR_MIN_PH c.val) s ≤ activeNow c s) →
      Answers (.spareLost k mv) s (fun t => t.pwr.ph[k].st = .dropped ∧ PickSent (64 + c.val) (0x0A0 + k.val) 0x11 x.st.code s t ∧
          Posted 0x3003 0 s t ∧ t.pwr.vr[c].st = x.st ∧ (∀ j, j ≠ k → t.pwr.ph[j] = s.pwr.ph[j]) ∧ ChanFrame c s t)) ∧
  (∀ (k : Fin 24) (mv : Nat) (s : State),
      ((mv : Int) - pn (Pid.PH_IMON_REF_MV k.val) s).natAbs ≤ 81 ∧ s.pwr.ph[k].st ≠ .dropped →
      Answers (.spareLost k mv) s (fun t => t = s)) ∧
  (∀ (c : Fin 12) (k : Fin 24) (m : HealthMeasure) (s : State),
      let x := s.pwr.vr[c]
      let l := tquot (((m.vlinkMv : Int) - m.voutMv) * m.tOnNs) m.rippleMa
      let r := tquot (((m.tOnNs : Int) * m.vlinkMv - (m.voutMv : Int) * m.periodNs) * 1000000) ((m.periodNs : Int) * m.avgMa)
      chanOf k s = some c ∧ k ∈ rotation c s ∧ pn (Pid.VR_HEALTH_S c.val) s ≠ 0 ∧ servedNow c s = true →
      (x.st = .regulate ∨ x.st = .degraded) ∧ x.slewing = false →
      (3 * (activeNow c s * pn (Pid.VR_IVAL_MA c.val) s) : Int) ≤ 10 * chanMa c (onPh k (fun y => { y with imon := m.avgMa }) s) →
      Answers (.phHealth k m) s (fun t => t.pwr.ph[k].lEst = min l.toNat 4294967295 ∧ t.pwr.ph[k].rEst = min r.toNat 4294967295 ∧
          t.store.nvm.learnedDirty = true ∧ t.pwr.ph[k].st = s.pwr.ph[k].st ∧ (∀ j, j ≠ k → t.pwr.ph[j] = s.pwr.ph[j]) ∧
          t.pwr.vr = s.pwr.vr ∧ (pn (Pid.PH_R_UOHM k.val) s * (100 + pn Pid.VR_R_TOL_PCT s) < r.toNat * 100 → Picked (0x0A0 +
          k.val) 0x12 x.st.code s t))) ∧
  (∀ (n : Fin 8) (mv : Nat) (s : State),
      s.pwr.ldo[n].st = .regulate ∧ s.sys.regStopped = false ∧ s.sys.inReset = false →
      mv * 10 < 9 * pn (Pid.LDO_VOUT_MV n.val) s →
      railGroup (.ldo n) s = none →
      Answers (.ldoUv n mv) s (fun t => Delivered (0x0E0 + n.val) 0x10 3 s t ∧ Posted 0x3005 0 s t ∧ t.pwr.ldo[n].outMv = mv ∧
          t.pwr.ldo[n].st = (if pn (Pid.LDO_UV_ACT n.val) s = 1 then .latchedOff else .regulate) ∧ (∀ m, m ≠ n →
          t.pwr.ldo[m] = s.pwr.ldo[m]) ∧ t.pwr.vr = s.pwr.vr ∧ t.pwr.en = s.pwr.en)) ∧
  (∀ (n : Fin 8) (s : State),
      (s.pwr.ldo[n].st = .softstart ∨ s.pwr.ldo[n].st = .regulate) ∧ s.sys.inReset = false →
      Answers (.ldoOverload n) s (fun t => Picked (0x0E0 + n.val) 0x11 s.pwr.ldo[n].st.code s t ∧ t = { s with selv := t.selv })) ∧
  (∀ (n : Fin 8) (s : State),
      s.pwr.ldo[n].st = .off ∨ s.pwr.ldo[n].st = .discharge ∨ s.pwr.ldo[n].st = .latchedOff →
      Answers (.ldoOverload n) s (fun t => t = s))

/-- A reserved or MON rail code completes RAIL_ON and RAIL_OFF OUT_OF_RANGE and changes nothing. RAIL_ON waits behind a RAIL_OFF of the
  rail; of a rail whose group is not UP or PARTIAL, that a thermal latch or the die's stop holds, that is LATCHED_OFF, or of a channel that
  is linked to a port or cannot start, it completes WRONG_STATE; of a rail that is up, DONE; else the command runs on while the rail starts,
  or while its enable is held until the output has fallen; an EN rail without a monitor, or whose monitor shows it up, is up at once.
  RAIL_OFF disables a rail of every kind: DONE when it is below its off-threshold, else the command runs on; it takes an UP group to
  PARTIAL, turns a group in UP_RUN to its power-down, and supersedes a waiting RAIL_ON. A RAIL_ON fails FAILED_TIMEOUT at its declared wait
  and at the bound of a held enable, which is withdrawn; a stuck rail ends RAIL_OFF with DONE_WITH_NOTE and RAIL_STUCK, reported from 0x128
  for a rail of no group. Where a clause needs a reading of the manual or a choice, it is the model's: log entries 9, 14. [derived: R89;
  R171; R198; R200; R213; R216; R219; R222; log entry 9] -/
def Obligations.RailCommands : Prop :=
  (∀ (p : Port) (tag : Tag) (x : Slot) (s : State),
      Admitted 0x401 p tag x s →
      CqRoom p s →
      railOf (bitsOf (x.word 1) 0 8) = none →
      Answers (.railOn p tag) s (fun t => CompletedWith p x 0x14 ([0, 0, 0, 0, 0, 0, 0, 0, 0, 0, 0] ++ [w32 ((x.waitTicks +
          99) / 100)]) s t ∧ CompletionOnly p s t)) ∧
  (∀ (p : Port) (tag : Tag) (x : Slot) (s : State),
      Admitted 0x402 p tag x s →
      CqRoom p s →
      railOf (bitsOf (x.word 1) 0 8) = none →
      Answers (.railOff p tag) s (fun t => CompletedWith p x 0x14 ([0, 0, 0, 0, 0, 0, 0, 0, 0, 0, 0] ++ [w32 ((x.waitTicks +
          99) / 100)]) s t ∧ CompletionOnly p s t)) ∧
  (∀ (r : Rail) (p : Port) (tag : Tag) (x : Slot) (c : CmdRef) (s : State),
      Admitted 0x401 p tag x s →
      railOf (bitsOf (x.word 1) 0 8) = some r →
      { rail := r, cmd := some c } ∈ s.pwr.railWaits →
      Answers (.railOn p tag) s (fun t => RunsOn p tag x t ∧ t = { s with hif := { s.hif with slots := t.hif.slots } })) ∧
  (∀ (r : Rail) (p : Port) (tag : Tag) (x : Slot) (s : State),
      Admitted 0x401 p tag x s →
      CqRoom p s →
      railOf (bitsOf (x.word 1) 0 8) = some r ∧ (∀ w ∈ s.pwr.railWaits, w.rail = r → w.cmd = none) →
      (∃ g, railGroup r s = some g ∧ s.pwr.grp[g].st ≠ .up ∧ s.pwr.grp[g].st ≠ .partialUp) ∨ thermHeld r s = true ∨
          s.sys.regStopped = true ∨ (∃ n, r = .ldo n ∧ s.pwr.ldo[n].st = .latchedOff) ∨ (∃ c, r = .vr c ∧ ¬ ChanOnOpen c s) →
      Answers (.railOn p tag) s (fun t => CompletedWith p x 0x17 ([0, 0, 0, 0, 0, 0, 0, 0, 0, 0, 0] ++ [w32 ((x.waitTicks + 99) / 100)]) s t ∧
          CompletionOnly p s t)) ∧
  (∀ (r : Rail) (p : Port) (tag : Tag) (x : Slot) (s : State),
      Admitted 0x401 p tag x s →
      CqRoom p s →
      railOf (bitsOf (x.word 1) 0 8) = some r ∧ RailOnOpen r s ∧ railUp r s = true →
      (∀ n, r = .ldo n → s.pwr.ldo[n].st ≠ .latchedOff) ∧ (∀ c, r = .vr c → ChanOnOpen c s) →
      Answers (.railOn p tag) s (fun t => CompletedWith p x 0x00 ([w32 (railState r s), 0, 0, 0, 0, 0, 0, 0, 0, 0, 0] ++ [w32 ((x.waitTicks + 99) / 100)]) s t ∧
          CompletionOnly p s t)) ∧
  (∀ (r : Rail) (p : Port) (tag : Tag) (x : Slot) (s : State),
      Admitted 0x401 p tag x s →
      railOf (bitsOf (x.word 1) 0 8) = some r ∧ RailOnOpen r s ∧ railUp r s = false ∧ railEnabled r s = true →
      (∀ n, r = .ldo n → s.pwr.ldo[n].st ≠ .latchedOff) ∧ (∀ c, r = .vr c → ChanOnOpen c s) →
      Answers (.railOn p tag) s (fun t => RunsOn p tag x t ∧ t = { s with hif := { s.hif with slots := t.hif.slots } })) ∧
  (∀ (n : Fin 8) (p : Port) (tag : Tag) (x : Slot) (s : State),
      Admitted 0x401 p tag x s →
      bitsOf (x.word 1) 0 8 = 0x10 + n.val →
      (s.pwr.ldo[n].st = .off ∨ s.pwr.ldo[n].st = .discharge) ∧ RailOnOpen (.ldo n) s →
      s.pwr.ldo[n].outMv * 10 < pn (Pid.LDO_VOUT_MV n.val) s →
      Answers (.railOn p tag) s (fun t => RunsOn p tag x t ∧
          t.pwr.ldo[n] = { s.pwr.ldo[n] with st := .softstart, enableHeld := false, enabledAt := some s.sys.devTime } ∧ (∀ m, m ≠ n →
          t.pwr.ldo[m] = s.pwr.ldo[m]) ∧ t.pwr.vr = s.pwr.vr ∧ t.pwr.en = s.pwr.en ∧ t.pwr.mon = s.pwr.mon ∧ t.path = s.path ∧ ∀ q,
          (t.hif.port q).cqTail = (s.hif.port q).cqTail)) ∧
  (∀ (n : Fin 8) (p : Port) (tag : Tag) (x : Slot) (s : State),
      Admitted 0x401 p tag x s →
      bitsOf (x.word 1) 0 8 = 0x10 + n.val →
      (s.pwr.ldo[n].st = .off ∨ s.pwr.ldo[n].st = .discharge) ∧ RailOnOpen (.ldo n) s →
      pn (Pid.LDO_VOUT_MV n.val) s ≤ s.pwr.ldo[n].outMv * 10 →
      Answers (.railOn p tag) s (fun t => RunsOn p tag x t ∧
          t.pwr.ldo[n] = { s.pwr.ldo[n] with enableHeld := true, enabledAt := some s.sys.devTime } ∧ (∀ m, m ≠ n →
          t.pwr.ldo[m] = s.pwr.ldo[m]) ∧ t.pwr.vr = s.pwr.vr ∧ t.pwr.en = s.pwr.en ∧ t.pwr.mon = s.pwr.mon ∧ t.path = s.path ∧ ∀ q,
          (t.hif.port q).cqTail = (s.hif.port q).cqTail)) ∧
  (∀ (n : Fin 16) (p : Port) (tag : Tag) (x : Slot) (s : State),
      Admitted 0x401 p tag x s →
      CqRoom p s →
      bitsOf (x.word 1) 0 8 = 0x20 + n.val ∧ RailOnOpen (.en n) s →
      s.pwr.en[n].st ≠ .on ∧ (enBelowOff n s = true ∨ (s.pwr.en[n].st = .off ∧ s.pwr.en[n].disabledAt = 0)) ∧
          (∀ m, enMon n s = some m → s.pwr.mon[m].uv = false) ∧ railOnWaiters (.en n) s = [] →
      Answers (.railOn p tag) s (fun t => CompletedWith p x 0x00 ([3, 0, 0, 0, 0, 0, 0, 0, 0, 0, 0] ++ [w32 ((x.waitTicks + 99) / 100)]) s t ∧
          t.pwr.en[n] = { s.pwr.en[n] with st := .on, enableHeld := false, enabledAt := some s.sys.devTime } ∧
          (∀ m, m ≠ n → t.pwr.en[m] = s.pwr.en[m]) ∧ t.pwr.vr = s.pwr.vr ∧
          t.pwr.ldo = s.pwr.ldo ∧ t.pwr.mon = s.pwr.mon ∧ t.path = s.path)) ∧
  (∀ (n : Fin 16) (m : Fin 32) (p : Port) (tag : Tag) (x : Slot) (s : State),
      Admitted 0x401 p tag x s →
      bitsOf (x.word 1) 0 8 = 0x20 + n.val ∧ RailOnOpen (.en n) s →
      s.pwr.en[n].st ≠ .on ∧ (enBelowOff n s = true ∨ (s.pwr.en[n].st = .off ∧ s.pwr.en[n].disabledAt = 0)) ∧
          enMon n s = some m ∧ s.pwr.mon[m].uv = true →
      Answers (.railOn p tag) s (fun t => RunsOn p tag x t ∧
          t.pwr.en[n] = { s.pwr.en[n] with st := .on, enableHeld := false, enabledAt := some s.sys.devTime } ∧
          (∀ m, m ≠ n → t.pwr.en[m] = s.pwr.en[m]) ∧ t.pwr.vr = s.pwr.vr ∧
          t.pwr.ldo = s.pwr.ldo ∧ t.pwr.mon = s.pwr.mon ∧ t.path = s.path)) ∧
  (∀ (n : Fin 16) (p : Port) (tag : Tag) (x : Slot) (s : State),
      Admitted 0x401 p tag x s →
      bitsOf (x.word 1) 0 8 = 0x20 + n.val ∧ RailOnOpen (.en n) s →
      s.pwr.en[n].st ≠ .on ∧ enBelowOff n s = false ∧ (s.pwr.en[n].st = .discharge ∨ s.pwr.en[n].disabledAt ≠ 0) →
      Answers (.railOn p tag) s (fun t => RunsOn p tag x t ∧
          t.pwr.en[n] = { s.pwr.en[n] with enableHeld := true, enabledAt := some s.sys.devTime } ∧
          (∀ m, m ≠ n → t.pwr.en[m] = s.pwr.en[m]) ∧ t.pwr.vr = s.pwr.vr ∧
          t.pwr.ldo = s.pwr.ldo ∧ t.pwr.mon = s.pwr.mon ∧ t.path = s.path)) ∧
  (∀ (c : Fin 12) (p : Port) (tag : Tag) (x : Slot) (s : State),
      Admitted 0x401 p tag x s →
      bitsOf (x.word 1) 0 8 = c.val ∧ RailOnOpen (.vr c) s ∧ ChanOnOpen c s →
      s.pwr.vr[c].st = .off ∨ s.pwr.vr[c].st = .discharge →
      vrBelowOff c s.pwr.vr[c].outMv s = true ∨ pb (Pid.VR_PREBIAS c.val) s = true →
      Answers (.railOn p tag) s (fun t => RunsOn p tag x t ∧ t.pwr.vr[c].st = .softstart ∧ t.pwr.vr[c].enableHeld = false ∧
          t.pwr.vr[c].enabledAt = some s.sys.devTime ∧ t.pwr.vr[c].setMv = targetMv c s ∧
          t.pwr.vr[c].refMv = (if pb (Pid.VR_PREBIAS c.val) s = true then min s.pwr.vr[c].outMv (targetMv c s) else 0) ∧
          ChanFrame c s t ∧ ∀ q, (t.hif.port q).cqTail = (s.hif.port q).cqTail)) ∧
  (∀ (c : Fin 12) (p : Port) (tag : Tag) (x : Slot) (s : State),
      Admitted 0x401 p tag x s →
      bitsOf (x.word 1) 0 8 = c.val ∧ RailOnOpen (.vr c) s ∧ ChanOnOpen c s →
      s.pwr.vr[c].st = .off ∨ s.pwr.vr[c].st = .discharge →
      vrBelowOff c s.pwr.vr[c].outMv s = false ∧ pb (Pid.VR_PREBIAS c.val) s = false →
      Answers (.railOn p tag) s (fun t => RunsOn p tag x t ∧
          t.pwr.vr[c] = { s.pwr.vr[c] with enableHeld := true, enabledAt := some s.sys.devTime } ∧
          ChanFrame c s t ∧ ∀ q, (t.hif.port q).cqTail = (s.hif.port q).cqTail)) ∧
  (∀ (r : Rail) (p : Port) (tag : Tag) (x : Slot) (s : State),
      Admitted 0x402 p tag x s →
      CqRoom p s →
      railOf (bitsOf (x.word 1) 0 8) = some r ∧ railOnsBefore r x s = [] →
      (∀ g, railGroup r s = some g → s.pwr.grp[g].st ≠ .up ∧ s.pwr.grp[g].st ≠ .upRun ∧ s.pwr.grp[g].st ≠ .backoff) →
      railOff r s = true ∧ railEnabled r s = false →
      Answers (.railOff p tag) s (fun t => CompletedWith p x 0x00 ([w32 (railState r s), 0, 0, 0, 0, 0, 0, 0, 0, 0, 0] ++ [w32 ((x.waitTicks + 99) / 100)]) s t ∧
          railHeld r t = false ∧ railEnabledAt r t = none ∧ railState r t = railState r s ∧ t.pwr.railWaits = s.pwr.railWaits ∧
          (∀ q, q ≠ r → railState q t = railState q s ∧ railHeld q t = railHeld q s) ∧ t.pwr.grp = s.pwr.grp ∧ t.path = s.path)) ∧
  (∀ (r : Rail) (p : Port) (tag : Tag) (x : Slot) (s : State),
      Admitted 0x402 p tag x s →
      CqRoom p s →
      railOf (bitsOf (x.word 1) 0 8) = some r ∧ railOnsBefore r x s = [] →
      (∀ g, railGroup r s = some g → s.pwr.grp[g].st ≠ .up ∧ s.pwr.grp[g].st ≠ .upRun ∧ s.pwr.grp[g].st ≠ .backoff) →
      railOff r s = true ∧ railEnabled r s = true ∧ (∀ c, r ≠ .vr c) →
      Answers (.railOff p tag) s (fun t => CompletedWith p x 0x00 ([w32 (railState r t), 0, 0, 0, 0, 0, 0, 0, 0, 0, 0] ++ [w32 ((x.waitTicks + 99) / 100)]) s t ∧
          railEnabled r t = false ∧ railHeld r t = false ∧ railDisabledAt r t = s.sys.devTime ∧
          t.pwr.railWaits = s.pwr.railWaits ∧ (∀ q, q ≠ r → railState q t = railState q s) ∧ t.pwr.vr = s.pwr.vr ∧ t.path = s.path)) ∧
  (∀ (r : Rail) (p : Port) (tag : Tag) (x : Slot) (s : State),
      Admitted 0x402 p tag x s →
      railOf (bitsOf (x.word 1) 0 8) = some r ∧ railOnsBefore r x s = [] →
      (∀ g, railGroup r s = some g → s.pwr.grp[g].st ≠ .up ∧ s.pwr.grp[g].st ≠ .upRun ∧ s.pwr.grp[g].st ≠ .backoff) →
      railOff r s = false ∧ (∀ n m, r = .en n → enMon n s = some m → s.pwr.mon[m].off = false) →
      Answers (.railOff p tag) s (fun t => RunsOn p tag x t ∧ railEnabled r t = false ∧ railHeld r t = false ∧ railEnabledAt r t = none ∧
          (railEnabled r s = true → railDischarging r t = true ∧ railDisabledAt r t = s.sys.devTime) ∧
          t.pwr.railWaits = s.pwr.railWaits ++ [{ rail := r, cmd := some { port := p, tag := tag } }] ∧
          (∀ q, q ≠ r → railState q t = railState q s ∧ railHeld q t = railHeld q s) ∧ t.path = s.path)) ∧
  (∀ (g : Fin 8) (r : Rail) (p : Port) (tag : Tag) (x : Slot) (s : State),
      Admitted 0x402 p tag x s →
      railOf (bitsOf (x.word 1) 0 8) = some r ∧ railOnsBefore r x s = [] ∧ railGroup r s = some g ∧ railOff r s = false →
      s.pwr.grp[g].st = .up ∧ s.sys.inReset = false →
      Answers (.railOff p tag) s (fun t => t.pwr.grp[g].st = .partialUp ∧ Posted 0x4001 (w32 (g.val * 256 + 0x28)) s t ∧
          railEnabled r t = false ∧ (∀ h, h ≠ g → t.pwr.grp[h].st = s.pwr.grp[h].st) ∧
          (∀ q, q ≠ r → railState q t = railState q s) ∧ t.path = s.path)) ∧
  (∀ (g : Fin 8) (r : Rail) (p : Port) (tag : Tag) (x : Slot) (s : State),
      Admitted 0x402 p tag x s →
      railOf (bitsOf (x.word 1) 0 8) = some r ∧ railOnsBefore r x s = [] ∧ railGroup r s = some g →
      s.pwr.grp[g].st = .upRun ∧ s.sys.inReset = false →
      Answers (.railOff p tag) s (fun t => t.pwr.grp[g].st = .downRun ∧ t.pwr.grp[g].upCmds = [] ∧ t.pwr.grp[g].heldUp = none ∧
          t.pwr.grp[g].step = s.pwr.grp[g].last ∧ t.pwr.grp[g].after = .toDown ∧
          Posted 0x4001 (w32 (g.val * 256 + 0x13)) s t ∧ railEnabled r t = false ∧
          (∀ h, h ≠ g → t.pwr.grp[h].st = s.pwr.grp[h].st) ∧ t.path = s.path)) ∧
  (∀ (r : Rail) (p q : Port) (tag : Tag) (x y : Slot) (s : State),
      Admitted 0x402 p tag x s →
      CqRoom q s →
      q ≠ p ∧ s.hif.slots = [y, x] ∧ findSlot q y.tag s = some y →
      railOf (bitsOf (x.word 1) 0 8) = some r ∧ bitsOf (y.word 1) 0 8 = railCode r ∧ y.op = 0x401 →
      railGroup r s = none →
      Answers (.railOff p tag) s (fun t => findSlot q y.tag t = none ∧ (t.hif.port q).avail = (s.hif.port q).avail + 1 ∧
          cqWord q (s.hif.port q).cqTail 0 t = w32 (0x401 * 1048576 + y.cls * 65536 + 0x22 * 256 + y.tag.toNat) ∧
          cqWord q (s.hif.port q).cqTail 4 t = w32 (0x402 + 65536 * tag.toNat + 16777216 * portNo p))) ∧
  (∀ (p : Port) (tag : Tag) (x : Slot) (s : State),
      findSlot p tag s = some x ∧ x.op = 0x401 ∧ x.status = .running →
      CqRoom p s →
      Answers (.declaredWaitExpiry p tag) s (fun t => CompletedWith p x 0x31 ([0, 0, 0, 0, 0, 0, 0, 0, 0, 0, 0] ++ [w32 ((x.waitTicks +
          99) / 100)]) s t ∧ CompletionOnly p s t)) ∧
  (∀ (p : Port) (tag : Tag) (s : State),
      findSlot p tag s = none →
      Answers (.declaredWaitExpiry p tag) s (fun t => t = s)) ∧
  (∀ (r : Rail) (p : Port) (x : Slot) (s : State),
      railHeld r s = true ∧ railOnWaiters r s = [{ port := p, tag := x.tag }] ∧ findSlot p x.tag s = some x →
      CqRoom p s →
      (∀ g : Fin 8, s.pwr.grp[g].st = .upRun → s.pwr.grp[g].stepAt = none ∨ (stepAt s.pwr.grp[g].step s).enables ≠ some r) →
      Answers (.heldEnableTimeout r) s (fun t => CompletedWith p x 0x31 ([0, 0, 0, 0, 0, 0, 0, 0, 0, 0, 0] ++ [w32 ((x.waitTicks + 99) / 100)]) s t ∧
          railHeld r t = false ∧ railEnabledAt r t = none ∧ railState r t = railState r s ∧
          (∀ q, q ≠ r → railState q t = railState q s ∧ railHeld q t = railHeld q s) ∧ t.pwr.grp = s.pwr.grp ∧ t.path = s.path)) ∧
  (∀ (g : Fin 8) (r : Rail) (s : State),
      let x := s.pwr.grp[g]
      railHeld r s = true ∧ railOnWaiters r s = [] ∧ s.sys.inReset = false →
      x.st = .upRun ∧ x.stepAt.isSome = true ∧ (stepAt x.step s).enables = some r ∧ (∀ h : Fin 8, h < g → s.pwr.grp[h].st ≠ .upRun) →
      Answers (.heldEnableTimeout r) s (fun t => t.pwr.grp[g].st = .backoff ∧ t.pwr.grp[g].failCause = 4 ∧
          t.pwr.grp[g].failStep = x.step ∧ t.pwr.grp[g].step = x.last ∧ railHeld r t = false ∧ railEnabledAt r t = none ∧
          PickSent (116 + g.val) (0x120 + g.val) 0x18 (4 * 4096 + x.attempts % 16 * 256 + x.step % 256) s t ∧
          Posted 0x4001 (w32 (g.val * 256 + 0x14)) s t ∧ (∀ q, q ≠ r → railState q t = railState q s ∧ railHeld q t = railHeld q s) ∧
          (∀ h, h ≠ g → t.pwr.grp[h].st = s.pwr.grp[h].st) ∧ t.path = s.path)) ∧
  (∀ (r : Rail) (s : State),
      railHeld r s = false →
      Answers (.heldEnableTimeout r) s (fun t => t = s)) ∧
  (∀ (r : Rail) (p : Port) (x : Slot) (s : State),
      let w : RailWait := { rail := r, cmd := some { port := p, tag := x.tag } }
      railOff r s = false ∧ s.sys.inReset = false ∧ (∀ g, railGroup r s = some g → s.pwr.grp[g].immediate = false) →
      (∀ g : Fin 8, s.pwr.grp[g].st = .downRun ∨ s.pwr.grp[g].st = .backoff →
          s.pwr.grp[g].railAt = none ∨ (stepAt s.pwr.grp[g].step s).enables ≠ some r) →
      findSlot p x.tag s = some x ∧ CqRoom p s →
      s.pwr.railWaits.find? (fun v => v.rail == r) = some w ∧ railOnWaiters r s = [] →
      Answers (.railStuck r) s (fun t => CompletedWith p x 0x01 ([w32 (railState r s), 0, 0, 0, 0, 0, 0, 0, 0, 0, 0] ++ [w32 ((x.waitTicks + 99) / 100)]) s t ∧
          t.pwr = { s.pwr with railWaits := s.pwr.railWaits.filter (fun v => v ≠ w) } ∧
          Picked (match railGroup r s with | some g => 0x120 + g.val | none => 0x128) 0x1A (railCode r) s t ∧
          Posted 0x4003 (w32 (railCode r)) s t ∧ t.path = s.path)) ∧
  (∀ (r : Rail) (s : State),
      railOff r s = true →
      Answers (.railStuck r) s (fun t => t = s)) ∧
  (∀ (r : Rail) (s : State),
      (∀ w ∈ s.pwr.railWaits, w.rail ≠ r) ∧ (∀ g : Fin 8, s.pwr.grp[g].st = .downRun ∨ s.pwr.grp[g].st = .backoff →
          s.pwr.grp[g].railAt = none ∨ (stepAt s.pwr.grp[g].step s).enables ≠ some r) →
      Answers (.railStuck r) s (fun t => t = s))

/-- A group number above 7 (but 0xFF of GROUP_DOWN) completes OUT_OF_RANGE, an unused group WRONG_STATE, so does GROUP_UP on HALTED.
  GROUP_UP starts a series at FIRST with attempt 1 from DOWN, PARTIAL, FAILED and INTERRUPTED, joins in UP_RUN and BACKOFF, is held in
  DOWN_RUN and is DONE at once in UP. GROUP_DOWN is DONE at once in DOWN, walks from the last step in UP, PARTIAL and INTERRUPTED, from the
  last step started in UP_RUN, superseding the GROUP_UP, joins in DOWN_RUN, takes FAILED to DOWN at once and a HALTED walk up again at its
  rail. In BACKOFF it ends the wait in DOWN, or joins the power-down. GROUP_DOWN 0xFF with every group DOWN is DONE; it starts with the last
  group of the order, and a second one joins. MARGIN_SET needs TEST or SEQ.MARGIN_ALLOW, a used channel linked to no port and a magnitude
  within SEQ.MARGIN_LIM, and then sets the margin and the set point of a channel that runs. Where a clause needs a reading of the manual or
  a choice, it is the model's: log entries 9, 14. [derived: R209; R211; R212; R215; R217; R218; R220; R223; R225; R226; log entry 9] -/
def Obligations.GroupCommandsAndMargins : Prop :=
  (∀ (p : Port) (tag : Tag) (x : Slot) (s : State),
      Admitted 0x410 p tag x s →
      CqRoom p s →
      7 < bitsOf (x.word 1) 0 8 →
      Answers (.groupUp p tag) s (fun t => CompletedWith p x 0x14 ([0, 0, 0, 0, 0, 0, 0, 0, 0, 0, 0] ++ [w32 ((x.waitTicks +
          99) / 100)]) s t ∧ CompletionOnly p s t)) ∧
  (∀ (p : Port) (tag : Tag) (x : Slot) (s : State),
      Admitted 0x411 p tag x s →
      CqRoom p s →
      7 < bitsOf (x.word 1) 0 8 ∧ bitsOf (x.word 1) 0 8 ≠ 0xFF →
      Answers (.groupDown p tag) s (fun t => CompletedWith p x 0x14 ([0, 0, 0, 0, 0, 0, 0, 0, 0, 0, 0] ++ [w32 ((x.waitTicks +
          99) / 100)]) s t ∧ CompletionOnly p s t)) ∧
  (∀ (g : Fin 8) (op : Nat) (p : Port) (tag : Tag) (x : Slot) (s : State),
      let c : Instr := if op = 0x410 then .groupUp p tag else .groupDown p tag
      op = 0x410 ∨ op = 0x411 →
      Admitted op p tag x s →
      CqRoom p s →
      bitsOf (x.word 1) 0 8 = g.val →
      groupEn g s = false →
      Answers c s (fun t => CompletedWith p x 0x17 ([0, 0, 0, 0, 0, 0, 0, 0, 0, 0, 0] ++ [w32 ((x.waitTicks + 99) / 100)]) s t ∧
          CompletionOnly p s t)) ∧
  (∀ (g : Fin 8) (p : Port) (tag : Tag) (x : Slot) (s : State),
      let y := s.pwr.grp[g]
      Admitted 0x410 p tag x s →
      bitsOf (x.word 1) 0 8 = g.val ∧ groupEn g s = true ∧ s.sys.inReset = false →
      y.st = .down ∨ y.st = .partialUp ∨ y.st = .failed ∨ y.st = .interrupted →
      Answers (.groupUp p tag) s (fun t => RunsOn p tag x t ∧ t.pwr.grp[g].st = .upRun ∧ t.pwr.grp[g].attempts = 1 ∧
          t.pwr.grp[g].step = groupFirst g s ∧ t.pwr.grp[g].stepAt = none ∧ t.pwr.grp[g].failCause = 0 ∧ t.pwr.grp[g].failStep = 0xFF ∧
          t.pwr.grp[g].retries = pn Pid.SEQ_RETRIES s ∧ t.pwr.grp[g].upCmds = y.upCmds ++ [{ port := p, tag := tag }] ∧
          Posted 0x4001 (w32 (g.val * 256 + y.st.code * 16 + 1)) s t ∧ GroupFrame g s t ∧ ∀ q,
          (t.hif.port q).cqTail = (s.hif.port q).cqTail)) ∧
  (∀ (g : Fin 8) (p : Port) (tag : Tag) (x : Slot) (s : State),
      let y := s.pwr.grp[g]
      Admitted 0x410 p tag x s →
      bitsOf (x.word 1) 0 8 = g.val ∧ groupEn g s = true →
      y.st = .upRun ∨ y.st = .backoff →
      Answers (.groupUp p tag) s (fun t => RunsOn p tag x t ∧ t.pwr.grp[g] = { y with upCmds := y.upCmds ++ [{ port := p, tag := tag }] } ∧
          GroupFrame g s t ∧ ∀ q, (t.hif.port q).cqTail = (s.hif.port q).cqTail)) ∧
  (∀ (g : Fin 8) (p : Port) (tag : Tag) (x : Slot) (s : State),
      let y := s.pwr.grp[g]
      Admitted 0x410 p tag x s →
      bitsOf (x.word 1) 0 8 = g.val ∧ groupEn g s = true ∧ y.st = .downRun →
      Answers (.groupUp p tag) s (fun t => RunsOn p tag x t ∧
          t.pwr.grp[g] = { y with heldUp := some (y.heldUp.getD [] ++ [{ port := p, tag := tag }]) } ∧ GroupFrame g s t ∧ ∀ q,
          (t.hif.port q).cqTail = (s.hif.port q).cqTail)) ∧
  (∀ (g : Fin 8) (p : Port) (tag : Tag) (x : Slot) (s : State),
      let y := s.pwr.grp[g]
      Admitted 0x410 p tag x s →
      CqRoom p s →
      bitsOf (x.word 1) 0 8 = g.val ∧ groupEn g s = true ∧ y.st = .up →
      Answers (.groupUp p tag) s (fun t => CompletedWith p x 0x00 ([2, w32 y.attempts, w32 y.failStep, w32 y.failCause, 0, 0, 0, 0, 0, 0,
          0] ++ [w32 ((x.waitTicks + 99) / 100)]) s t ∧ CompletionOnly p s t)) ∧
  (∀ (g : Fin 8) (p : Port) (tag : Tag) (x : Slot) (s : State),
      Admitted 0x410 p tag x s →
      CqRoom p s →
      bitsOf (x.word 1) 0 8 = g.val ∧ groupEn g s = true ∧ s.pwr.grp[g].st = .halted →
      Answers (.groupUp p tag) s (fun t => CompletedWith p x 0x17 ([0, 0, 0, 0, 0, 0, 0, 0, 0, 0, 0] ++ [w32 ((x.waitTicks +
          99) / 100)]) s t ∧ CompletionOnly p s t)) ∧
  (∀ (g : Fin 8) (p : Port) (tag : Tag) (x : Slot) (s : State),
      Admitted 0x411 p tag x s →
      CqRoom p s →
      bitsOf (x.word 1) 0 8 = g.val ∧ groupEn g s = true ∧ s.pwr.grp[g].st = .down →
      Answers (.groupDown p tag) s (fun t => CompletedWith p x 0x00 ([0, 0, 0xFF, 0, 0, 0, 0, 0, 0, 0, 0] ++ [w32 ((x.waitTicks +
          99) / 100)]) s t ∧ CompletionOnly p s t)) ∧
  (∀ (g : Fin 8) (p : Port) (tag : Tag) (x : Slot) (s : State),
      let y := s.pwr.grp[g]
      Admitted 0x411 p tag x s →
      bitsOf (x.word 1) 0 8 = g.val ∧ groupEn g s = true ∧ s.sys.inReset = false →
      y.st = .up ∨ y.st = .partialUp ∨ y.st = .interrupted →
      Answers (.groupDown p tag) s (fun t => RunsOn p tag x t ∧ t.pwr.grp[g].st = .downRun ∧ t.pwr.grp[g].after = .toDown ∧
          t.pwr.grp[g].step = lastStep g s ∧ t.pwr.grp[g].stepAt = none ∧ t.pwr.grp[g].railAt = none ∧ t.pwr.grp[g].takenOff = 0 ∧
          t.pwr.grp[g].haltStep = 0xFF ∧ t.pwr.grp[g].downCmds = y.downCmds ++ [{ port := p, tag := tag }] ∧
          Posted 0x4001 (w32 (g.val * 256 + y.st.code * 16 + 3)) s t ∧ GroupFrame g s t ∧ ∀ q,
          (t.hif.port q).cqTail = (s.hif.port q).cqTail)) ∧
  (∀ (g : Fin 8) (p q : Port) (tag : Tag) (x y : Slot) (s : State),
      let z := s.pwr.grp[g]
      Admitted 0x411 p tag x s →
      CqRoom q s →
      bitsOf (x.word 1) 0 8 = g.val ∧ groupEn g s = true ∧ s.sys.inReset = false →
      q ≠ p ∧ findSlot q y.tag s = some y ∧ z.upCmds = [{ port := q, tag := y.tag }] ∧ z.heldUp = none →
      z.st = .upRun ∧ (∀ r, (stepAt z.step s).enables = some r → railHeld r s = false) →
      Answers (.groupDown p tag) s (fun t => RunsOn p tag x t ∧ findSlot q y.tag t = findSlot q y.tag (onSlots (removeSlot q y.tag) s) ∧
          cqWord q (s.hif.port q).cqTail 0 t = w32 (y.op * 1048576 + y.cls * 65536 + 0x22 * 256 + y.tag.toNat) ∧
          cqWord q (s.hif.port q).cqTail 4 t = w32 (0x411 + 65536 * tag.toNat + 16777216 * portNo p) ∧ t.pwr.grp[g].st = .downRun ∧
          t.pwr.grp[g].step = z.last ∧ t.pwr.grp[g].after = .toDown ∧ t.pwr.grp[g].upCmds = [] ∧
          t.pwr.grp[g].downCmds = z.downCmds ++ [{ port := p, tag := tag }] ∧ GroupFrame g s t)) ∧
  (∀ (g : Fin 8) (p : Port) (tag : Tag) (x : Slot) (s : State),
      let y := s.pwr.grp[g]
      Admitted 0x411 p tag x s →
      bitsOf (x.word 1) 0 8 = g.val ∧ groupEn g s = true ∧ s.sys.inReset = false →
      y.st = .upRun →
      Answers (.groupDown p tag) s (fun t => t.pwr.grp[g].st = .downRun ∧ t.pwr.grp[g].step = y.last ∧ t.pwr.grp[g].after = .toDown ∧
          t.pwr.grp[g].upCmds = [] ∧ t.pwr.grp[g].heldUp = none ∧ t.pwr.grp[g].stepAt = none ∧ t.pwr.grp[g].railAt = none ∧
          t.pwr.grp[g].downCmds = y.downCmds ++ [{ port := p, tag := tag }] ∧ Posted 0x4001 (w32 (g.val * 256 + 0x13)) s t ∧
          (∀ h, h ≠ g → t.pwr.grp[h].st = s.pwr.grp[h].st) ∧
          (∀ r, (∀ q, (stepAt y.step s).enables = some q → q ≠ r) → railState r t = railState r s ∧ railHeld r t = railHeld r s))) ∧
  (∀ (g : Fin 8) (p : Port) (tag : Tag) (x : Slot) (s : State),
      let y := s.pwr.grp[g]
      Admitted 0x411 p tag x s →
      bitsOf (x.word 1) 0 8 = g.val ∧ groupEn g s = true →
      y.st = .downRun ∧ y.upCmds = [] ∧ y.heldUp = none →
      Answers (.groupDown p tag) s (fun t => RunsOn p tag x t ∧
          t.pwr.grp[g] = { y with downCmds := y.downCmds ++ [{ port := p, tag := tag }], after := .toDown } ∧ GroupFrame g s t ∧ ∀ q,
          (t.hif.port q).cqTail = (s.hif.port q).cqTail)) ∧
  (∀ (g : Fin 8) (p : Port) (tag : Tag) (x : Slot) (s : State),
      let y := s.pwr.grp[g]
      Admitted 0x411 p tag x s →
      CqRoom p s →
      bitsOf (x.word 1) 0 8 = g.val ∧ groupEn g s = true ∧ s.sys.inReset = false →
      y.st = .backoff ∧ y.backoffWait = true ∧ y.upCmds = [] ∧ y.heldUp = none ∧ y.downCmds = [] →
      Answers (.groupDown p tag) s (fun t => Completed p x 0x00 s t ∧ t.pwr.grp[g].st = .down ∧ t.pwr.grp[g].downCmds = [] ∧
          t.pwr.grp[g].backoffWait = false ∧ Posted 0x4001 (w32 (g.val * 256 + 0x40)) s t ∧ GroupFrame g s t)) ∧
  (∀ (g : Fin 8) (p : Port) (tag : Tag) (x : Slot) (s : State),
      let y := s.pwr.grp[g]
      Admitted 0x411 p tag x s →
      bitsOf (x.word 1) 0 8 = g.val ∧ groupEn g s = true →
      y.st = .backoff ∧ y.backoffWait = false →
      Answers (.groupDown p tag) s (fun t => t.pwr.grp[g] = { y with
            upCmds := [], heldUp := none, downCmds := y.downCmds ++ [{ port := p, tag := tag }], after := .toDown } ∧ GroupFrame g s t)) ∧
  (∀ (g : Fin 8) (p : Port) (tag : Tag) (x : Slot) (s : State),
      let y := s.pwr.grp[g]
      Admitted 0x411 p tag x s →
      bitsOf (x.word 1) 0 8 = g.val ∧ groupEn g s = true →
      y.st = .downRun →
      Answers (.groupDown p tag) s (fun t => t.pwr.grp[g] = { y with
            upCmds := [], heldUp := none, downCmds := y.downCmds ++ [{ port := p, tag := tag }], after := .toDown } ∧ GroupFrame g s t)) ∧
  (∀ (g : Fin 8) (p : Port) (tag : Tag) (x : Slot) (s : State),
      let y := s.pwr.grp[g]
      Admitted 0x411 p tag x s →
      CqRoom p s →
      bitsOf (x.word 1) 0 8 = g.val ∧ groupEn g s = true ∧ s.sys.inReset = false →
      y.st = .failed ∧ y.downCmds = [] ∧ y.heldUp = none →
      Answers (.groupDown p tag) s (fun t => Completed p x 0x00 s t ∧ t.pwr.grp[g].st = .down ∧ t.pwr.grp[g].downCmds = [] ∧
          Posted 0x4001 (w32 (g.val * 256 + 0x50)) s t ∧ GroupFrame g s t)) ∧
  (∀ (g : Fin 8) (p : Port) (tag : Tag) (x : Slot) (s : State),
      let y := s.pwr.grp[g]
      Admitted 0x411 p tag x s →
      bitsOf (x.word 1) 0 8 = g.val ∧ groupEn g s = true ∧ s.sys.inReset = false ∧ y.st = .halted →
      Answers (.groupDown p tag) s (fun t => RunsOn p tag x t ∧ t.pwr.grp[g].st = .downRun ∧ t.pwr.grp[g].step = y.step ∧
          t.pwr.grp[g].railAt = some s.sys.devTime ∧ t.pwr.grp[g].haltStep = 0xFF ∧ t.pwr.grp[g].after = .toDown ∧
          Posted 0x4001 (w32 (g.val * 256 + 0x73)) s t ∧ GroupFrame g s t)) ∧
  (∀ (p : Port) (tag : Tag) (x : Slot) (s : State),
      Admitted 0x411 p tag x s →
      CqRoom p s →
      bitsOf (x.word 1) 0 8 = 0xFF →
      s.pwr.allDown = [] ∧ s.pwr.allDownDone = [] ∧ s.pwr.allDownCmds = [] ∧ (∀ g : Fin 8, s.pwr.grp[g].st = .down) →
      Answers (.groupDown p tag) s (fun t => CompletedWith p x 0x00 ([0, 0, 0xFF, 0, 0, 0, 0, 0, 0, 0, 0] ++ [w32 ((x.waitTicks +
          99) / 100)]) s t ∧ CompletionOnly p s t)) ∧
  (∀ (p : Port) (tag : Tag) (x : Slot) (s : State),
      Admitted 0x411 p tag x s →
      bitsOf (x.word 1) 0 8 = 0xFF ∧ (s.pwr.allDown ≠ [] ∨ s.pwr.allDownDone ≠ []) →
      Answers (.groupDown p tag) s (fun t => RunsOn p tag x t ∧ t = { s with
            pwr := { s.pwr with allDownCmds := s.pwr.allDownCmds ++ [{ port := p, tag := tag }] },
            hif := { s.hif with slots := t.hif.slots } })) ∧
  (∀ (g : Fin 8) (l : List (Fin 8)) (p : Port) (tag : Tag) (x : Slot) (s : State),
      Admitted 0x411 p tag x s →
      bitsOf (x.word 1) 0 8 = 0xFF ∧ s.pwr.allDown = [] ∧ s.pwr.allDownDone = [] ∧ s.sys.inReset = false →
      ((seqOrder s).filter (fun h => s.pwr.grp[h].st ≠ .down)).reverse = g :: l →
      s.pwr.grp[g].st = .up ∨ s.pwr.grp[g].st = .partialUp →
      Answers (.groupDown p tag) s (fun t => RunsOn p tag x t ∧ t.pwr.grp[g].st = .downRun ∧ t.pwr.grp[g].step = lastStep g s ∧
          t.pwr.grp[g].after = .toDown ∧ t.pwr.allDown = l ∧ t.pwr.allDownDone = [g] ∧
          t.pwr.allDownCmds = s.pwr.allDownCmds ++ [{ port := p, tag := tag }] ∧
          Posted 0x4001 (w32 (g.val * 256 + s.pwr.grp[g].st.code * 16 + 3)) s t ∧
          (∀ h, h ≠ g → t.pwr.grp[h].st = s.pwr.grp[h].st) ∧ t.pwr.vr = s.pwr.vr ∧ t.pwr.ldo = s.pwr.ldo ∧ t.pwr.en = s.pwr.en)) ∧
  (∀ (p : Port) (tag : Tag) (x : Slot) (s : State),
      Admitted 0x420 p tag x s →
      CqRoom p s →
      (s.sys.mode ≠ .test ∧ pb Pid.SEQ_MARGIN_ALLOW s = false) ∨ (∃ c : Fin 12, bitsOf (x.word 1) 0 8 = c.val ∧ (vrMembers c s = [] ∨
          linkedPort c s ≠ none)) →
      Answers (.marginSet p tag) s (fun t => CompletedWith p x 0x17 [0] s t ∧ CompletionOnly p s t)) ∧
  (∀ (p : Port) (tag : Tag) (x : Slot) (s : State),
      let m := ((x.word 1).extractLsb' 16 16).toInt
      Admitted 0x420 p tag x s →
      CqRoom p s →
      s.sys.mode = .test ∨ pb Pid.SEQ_MARGIN_ALLOW s = true →
      12 ≤ bitsOf (x.word 1) 0 8 ∨ (∃ c : Fin 12, bitsOf (x.word 1) 0 8 = c.val ∧ vrMembers c s ≠ [] ∧ linkedPort c s = none ∧
          pn Pid.SEQ_MARGIN_LIM s < m.natAbs) →
      Answers (.marginSet p tag) s (fun t => CompletedWith p x 0x14 [0] s t ∧ CompletionOnly p s t)) ∧
  (∀ (c : Fin 12) (p : Port) (tag : Tag) (x : Slot) (s : State),
      let m := ((x.word 1).extractLsb' 16 16).toInt
      Admitted 0x420 p tag x s →
      CqRoom p s →
      s.sys.mode = .test ∨ pb Pid.SEQ_MARGIN_ALLOW s = true →
      bitsOf (x.word 1) 0 8 = c.val ∧ vrMembers c s ≠ [] ∧ linkedPort c s = none ∧ m.natAbs ≤ pn Pid.SEQ_MARGIN_LIM s →
      Answers (.marginSet p tag) s (fun t => CompletedWith p x 0x00 [BitVec.ofInt 32 m] s t ∧ t.pwr.vr[c].margin = m ∧
          t.pwr.vr[c].st = s.pwr.vr[c].st ∧ (m ≠ 0 → t.pwr.vr[c].margined = true) ∧
          t.pwr.vr[c].setMv = (if s.pwr.vr[c].st.running = true then marginedMv (pn (Pid.VR_VOUT_MV c.val) s) m else s.pwr.vr[c].setMv) ∧
          (∀ d, d ≠ c → t.pwr.vr[d] = s.pwr.vr[d]) ∧ t.pwr.ldo = s.pwr.ldo ∧ t.pwr.en = s.pwr.en ∧ t.pwr.ph = s.pwr.ph ∧ t.path = s.path ∧
          ∀ i, i ∉ chanMons c s → t.pwr.mon[i] = s.pwr.mon[i]))

/-- With one group active and nothing else due, a tick starts its ENABLE step and the rail with it (an EN output, an LDO or a channel), or
  fails the attempt when the rail cannot start, starts a WAIT step, goes to the next step once a wait is over, waits for a held rail, ends a
  power-up after its last step in UP with its GROUP_UP completed DONE (DONE_WITH_NOTE after a retry), disables the rail of a step in a
  power-down, enters DOWN (or BACKOFF's wait, or FAILED) once the first ENABLE's rail is found off, and turns PARTIAL into UP when every
  rail is up; with no group active it only takes the measured outputs. A WAIT_TIME that ends moves on. A time-out without CONT fails the
  attempt with cause 1 into BACKOFF, with CONT it is reported and passed. BACKOFF_EXPIRY starts a new attempt, or a new series after CYCLE.
  A stuck rail halts the walk or counts as off. An LDO that latches off takes an UP group to PARTIAL or to a power-down, by FAULT_ACT, with
  GROUP_FAULT. Where a clause needs a reading of the manual or a choice, it is the model's: log entry 14. [derived: R207; R209; R210; R211;
  R212; R213; R216; R223; log entry 3] -/
def Obligations.StepEngine : Prop :=
  (∀ (g : Fin 8) (n : Fin 16) (s : State),
      let x := s.pwr.grp[g]
      x.st = .upRun ∧ x.stepAt = none ∧ (stepAt x.step s).enables = some (.en n) ∧ s.sys.inReset = false →
      (∀ h, h ≠ g → GroupIdle h s) ∧ s.pwr.railWaits = [] ∧ s.pwr.autoQueue = [] →
      s.pwr.allDown = [] ∧ s.pwr.allDownDone = [] ∧ s.pwr.allDownCmds = [] →
      s.pwr.en[n].st = .off ∧ enMon n s = none ∧ thermHeld (.en n) s = false ∧ s.sys.regStopped = false →
      Answers (.seqTick []) s (fun t => t.pwr.grp[g].st = .upRun ∧ t.pwr.grp[g].step = x.step ∧ t.pwr.grp[g].last = x.step ∧
          t.pwr.grp[g].stepAt = some t.sys.devTime ∧ t.pwr.grp[g].waitOver = true ∧
          t.pwr.en[n] = { s.pwr.en[n] with st := .on, enableHeld := false, enabledAt := some t.sys.devTime } ∧ t.sys.devTime % 10 = 0 ∧
          s.sys.devTime ≤ t.sys.devTime ∧ (∀ m, m ≠ n → t.pwr.en[m] = s.pwr.en[m]) ∧ t.pwr.vr = s.pwr.vr ∧ t.pwr.ldo = s.pwr.ldo ∧
          t.path = s.path)) ∧
  (∀ (g : Fin 8) (s : State),
      let x := s.pwr.grp[g]
      x.st = .upRun ∧ x.stepAt.isSome = true ∧ x.waitOver = true ∧ lastStep g s ≤ x.step ∧ s.sys.inReset = false →
      (∀ h, h ≠ g → GroupIdle h s) ∧ s.pwr.railWaits = [] ∧ s.pwr.autoQueue = [] ∧ x.upCmds = [] →
      s.pwr.allDown = [] ∧ s.pwr.allDownDone = [] ∧ s.pwr.allDownCmds = [] →
      Answers (.seqTick []) s (fun t => t.pwr.grp[g].st = .up ∧ t.pwr.grp[g].attempts = x.attempts ∧ t.pwr.grp[g].stepAt = none ∧
          { code := 0x4001, detail := w32 (g.val * 256 + 0x12), time := t.sys.devTime } ∈ t.hif.events ∧ t.pwr.vr = s.pwr.vr ∧
          t.pwr.ldo = s.pwr.ldo ∧ t.pwr.en = s.pwr.en ∧ t.pwr.mon = s.pwr.mon ∧ t.hif.slots = s.hif.slots)) ∧
  (∀ (g : Fin 8) (p : Port) (y : Slot) (s : State),
      let x := s.pwr.grp[g]
      x.st = .upRun ∧ x.stepAt.isSome = true ∧ x.waitOver = true ∧ lastStep g s ≤ x.step ∧ s.sys.inReset = false →
      (∀ h, h ≠ g → GroupIdle h s) ∧ s.pwr.railWaits = [] ∧ s.pwr.autoQueue = [] →
      x.upCmds = [{ port := p, tag := y.tag }] ∧ s.hif.slots = [y] ∧ findSlot p y.tag s = some y →
      CqRoom p s →
      s.pwr.allDown = [] ∧ s.pwr.allDownDone = [] ∧ s.pwr.allDownCmds = [] →
      Answers (.seqTick []) s (fun t => t.pwr.grp[g].st = .up ∧ t.pwr.grp[g].upCmds = [] ∧ Completed p y (if x.attempts ≤ 1 then 0x00 else
          0x01) s t ∧ cqWord p (s.hif.port p).cqTail 4 t = 2 ∧ cqWord p (s.hif.port p).cqTail 5 t = w32 x.attempts ∧ t.pwr.vr = s.pwr.vr ∧
          t.pwr.en = s.pwr.en)) ∧
  (∀ (g : Fin 8) (n : Fin 16) (s : State),
      let x := s.pwr.grp[g]
      x.st = .downRun ∧ x.immediate = false ∧ x.backoffWait = false ∧ x.stepAt = none ∧ x.railAt = none ∧ s.sys.inReset = false →
      (stepAt x.step s).enables = some (.en n) ∧ groupFirst g s ≤ x.step ∧ x.step ≤ lastStep g s ∧ 0 < groupCount g s →
      (∀ h, h ≠ g → GroupIdle h s) ∧ s.pwr.railWaits = [] ∧ s.pwr.autoQueue = [] →
      s.pwr.allDown = [] ∧ s.pwr.allDownDone = [] ∧ s.pwr.allDownCmds = [] →
      s.pwr.en[n].st = .on ∧ enMon n s = none →
      Answers (.seqTick []) s (fun t => t.pwr.grp[g].st = .downRun ∧ t.pwr.grp[g].step = x.step ∧ t.pwr.grp[g].railAt = some t.sys.devTime ∧
          t.pwr.en[n] = { s.pwr.en[n] with st := .discharge, enableHeld := false, disabledAt := t.sys.devTime, enabledAt := none } ∧ (∀ m,
          m ≠ n → t.pwr.en[m] = s.pwr.en[m]) ∧ t.pwr.vr = s.pwr.vr ∧ t.pwr.ldo = s.pwr.ldo ∧ t.path = s.path)) ∧
  (∀ (g : Fin 8) (r : Rail) (s : State),
      let x := s.pwr.grp[g]
      x.st = .downRun ∧ x.immediate = false ∧ x.backoffWait = false ∧ x.waitOver = false ∧ x.railAt.isSome = true ∧ s.sys.inReset = false →
      (stepAt x.step s).enables = some r ∧ railOff r s = true ∧ x.step = groupFirst g s ∧ x.after = .toDown →
      (∀ h, h ≠ g → GroupIdle h s) ∧ s.pwr.railWaits = [] ∧ s.pwr.autoQueue = [] ∧ x.downCmds = [] ∧ x.heldUp = none →
      s.pwr.allDown = [] ∧ s.pwr.allDownDone = [] ∧ s.pwr.allDownCmds = [] →
      Answers (.seqTick []) s (fun t => t.pwr.grp[g].st = .down ∧
          { code := 0x4001, detail := w32 (g.val * 256 + 0x30), time := t.sys.devTime } ∈ t.hif.events ∧ t.pwr.vr = s.pwr.vr ∧
          t.pwr.ldo = s.pwr.ldo ∧ t.pwr.en = s.pwr.en ∧ t.hif.slots = s.hif.slots)) ∧
  (∀ (g : Fin 8) (s : State),
      s.pwr.grp[g].st = .partialUp ∧ (∀ r ∈ groupRails g s, railUp r s = true) ∧ s.sys.inReset = false →
      (∀ h, h ≠ g → GroupIdle h s) ∧ s.pwr.railWaits = [] ∧ s.pwr.autoQueue = [] →
      s.pwr.allDown = [] ∧ s.pwr.allDownDone = [] ∧ s.pwr.allDownCmds = [] →
      Answers (.seqTick []) s (fun t => t.pwr.grp[g].st = .up ∧
          { code := 0x4001, detail := w32 (g.val * 256 + 0x82), time := t.sys.devTime } ∈ t.hif.events ∧ t.pwr.vr = s.pwr.vr ∧
          t.pwr.ldo = s.pwr.ldo ∧ t.pwr.en = s.pwr.en)) ∧
  (∀ (n : Fin 8) (mv : Nat) (s : State),
      (∀ h : Fin 8, GroupIdle h s) →
      s.pwr.railWaits = [] ∧ s.pwr.autoQueue = [] ∧ s.pwr.allDown = [] ∧ s.pwr.allDownDone = [] ∧ s.pwr.allDownCmds = [] →
      Answers (.seqTick [(.ldo n, mv)]) s (fun t => t.pwr.ldo[n] = { s.pwr.ldo[n] with outMv := mv } ∧ (∀ m, m ≠ n →
          t.pwr.ldo[m] = s.pwr.ldo[m]) ∧
          t = { s with pwr := { s.pwr with ldo := t.pwr.ldo }, sys := { s.sys with devTime := t.sys.devTime, ticks := t.sys.ticks } })) ∧
  (∀ (g : Fin 8) (n : Fin 8) (s : State),
      let x := s.pwr.grp[g]
      x.st = .upRun ∧ x.stepAt = none ∧ (stepAt x.step s).enables = some (.ldo n) ∧ s.sys.inReset = false →
      (∀ h, h ≠ g → GroupIdle h s) ∧ s.pwr.railWaits = [] ∧ s.pwr.autoQueue = [] →
      s.pwr.allDown = [] ∧ s.pwr.allDownDone = [] ∧ s.pwr.allDownCmds = [] →
      s.pwr.ldo[n].st = .off ∧ thermHeld (.ldo n) s = false ∧ s.sys.regStopped = false →
      Answers (.seqTick []) s (fun t => t.pwr.grp[g].st = .upRun ∧ t.pwr.grp[g].step = x.step ∧ t.pwr.grp[g].last = x.step ∧
          t.pwr.grp[g].stepAt = some t.sys.devTime ∧
          (s.pwr.ldo[n].outMv * 10 < pn (Pid.LDO_VOUT_MV n.val) s → t.pwr.grp[g].waitOver = true ∧
            t.pwr.ldo[n] = { s.pwr.ldo[n] with st := .softstart, enableHeld := false, enabledAt := some t.sys.devTime }) ∧
          (pn (Pid.LDO_VOUT_MV n.val) s ≤ s.pwr.ldo[n].outMv * 10 → t.pwr.grp[g].waitOver = false ∧
            t.pwr.ldo[n] = { s.pwr.ldo[n] with enableHeld := true, enabledAt := some t.sys.devTime }) ∧
          (∀ m, m ≠ n → t.pwr.ldo[m] = s.pwr.ldo[m]) ∧ t.pwr.vr = s.pwr.vr ∧ t.pwr.en = s.pwr.en ∧ t.path = s.path)) ∧
  (∀ (g : Fin 8) (c : Fin 12) (s : State),
      let x := s.pwr.grp[g]
      x.st = .upRun ∧ x.stepAt = none ∧ (stepAt x.step s).enables = some (.vr c) ∧ s.sys.inReset = false →
      (∀ h, h ≠ g → GroupIdle h s) ∧ s.pwr.railWaits = [] ∧ s.pwr.autoQueue = [] →
      s.pwr.allDown = [] ∧ s.pwr.allDownDone = [] ∧ s.pwr.allDownCmds = [] →
      s.pwr.vr[c].st = .off ∧ vrUsed c s = true ∧ vrCanStart c s = true ∧ thermHeld (.vr c) s = false ∧ s.sys.regStopped = false →
      vrBelowOff c s.pwr.vr[c].outMv s = true →
      Answers (.seqTick []) s (fun t => t.pwr.grp[g].st = .upRun ∧ t.pwr.grp[g].step = x.step ∧ t.pwr.grp[g].stepAt = some t.sys.devTime ∧
          t.pwr.grp[g].waitOver = true ∧ t.pwr.vr[c].st = .softstart ∧ t.pwr.vr[c].enabledAt = some t.sys.devTime ∧
          t.pwr.vr[c].setMv = targetMv c s ∧ (∀ d, d ≠ c → t.pwr.vr[d] = s.pwr.vr[d]) ∧ t.pwr.ldo = s.pwr.ldo ∧ t.pwr.en = s.pwr.en ∧
          t.path = s.path)) ∧
  (∀ (g : Fin 8) (r : Rail) (s : State),
      let x := s.pwr.grp[g]
      x.st = .upRun ∧ x.stepAt = none ∧ (stepAt x.step s).enables = some r ∧ s.sys.inReset = false →
      (∀ h, h ≠ g → GroupIdle h s) ∧ s.pwr.railWaits = [] ∧ s.pwr.autoQueue = [] →
      s.pwr.allDown = [] ∧ s.pwr.allDownDone = [] ∧ s.pwr.allDownCmds = [] →
      railUp r s = false ∧ (thermHeld r s = true ∨ s.sys.regStopped = true ∨ (∃ n, r = .ldo n ∧ s.pwr.ldo[n].st = .latchedOff) ∨
          (∃ c, r = .vr c ∧ s.pwr.vr[c].st = .latchedOff)) →
      Answers (.seqTick []) s (fun t => t.pwr.grp[g].st = .backoff ∧ t.pwr.grp[g].failCause = 5 ∧ t.pwr.grp[g].failStep = x.step ∧
          t.pwr.grp[g].step = x.step ∧ t.pwr.grp[g].after = (if x.retries < x.attempts then .toFailed else .retry) ∧
          { code := 0x4001, detail := w32 (g.val * 256 + 0x14), time := t.sys.devTime } ∈ t.hif.events ∧ t.path = s.path)) ∧
  (∀ (g : Fin 8) (s : State),
      let x := s.pwr.grp[g]
      let w := stepAt x.step s
      x.st = .upRun ∧ x.stepAt = none ∧ w.enables = none ∧ s.sys.inReset = false →
      (∀ h, h ≠ g → GroupIdle h s) ∧ s.pwr.railWaits = [] ∧ s.pwr.autoQueue = [] →
      s.pwr.allDown = [] ∧ s.pwr.allDownDone = [] ∧ s.pwr.allDownCmds = [] →
      Answers (.seqTick []) s (fun t => t.pwr.grp[g].st = .upRun ∧ t.pwr.grp[g].step = x.step ∧ t.pwr.grp[g].last = x.step ∧
          t.pwr.grp[g].stepAt = some t.sys.devTime ∧ t.pwr.grp[g].evLatch = false ∧
          t.pwr.grp[g].evSrc = (if w.action = 4 then some w.target else none) ∧
          t.pwr.grp[g].waitOver = (w.action == 2 && waitRailHolds w s) ∧ t.pwr.vr = s.pwr.vr ∧ t.pwr.ldo = s.pwr.ldo ∧
          t.pwr.en = s.pwr.en ∧ t.path = s.path)) ∧
  (∀ (g : Fin 8) (s : State),
      let x := s.pwr.grp[g]
      let w := stepAt x.step s
      x.st = .upRun ∧ x.stepAt.isSome = true ∧ x.waitOver = false ∧ w.enables = none ∧ s.sys.inReset = false →
      (∀ h, h ≠ g → GroupIdle h s) ∧ s.pwr.railWaits = [] ∧ s.pwr.autoQueue = [] →
      s.pwr.allDown = [] ∧ s.pwr.allDownDone = [] ∧ s.pwr.allDownCmds = [] →
      Answers (.seqTick []) s (fun t => t.pwr.grp[g] = { x with
            waitOver := (w.action == 2 && waitRailHolds w s) || (w.action == 4 && x.evLatch) } ∧ t.pwr.vr = s.pwr.vr ∧
          t.pwr.ldo = s.pwr.ldo ∧ t.pwr.en = s.pwr.en ∧ t.hif = s.hif ∧ t.path = s.path)) ∧
  (∀ (g : Fin 8) (s : State),
      let x := s.pwr.grp[g]
      let w := stepAt (x.step + 1) s
      x.st = .upRun ∧ x.stepAt.isSome = true ∧ x.waitOver = true ∧ x.step < lastStep g s ∧ w.enables = none ∧ s.sys.inReset = false →
      (∀ h, h ≠ g → GroupIdle h s) ∧ s.pwr.railWaits = [] ∧ s.pwr.autoQueue = [] →
      s.pwr.allDown = [] ∧ s.pwr.allDownDone = [] ∧ s.pwr.allDownCmds = [] →
      Answers (.seqTick []) s (fun t => t.pwr.grp[g].st = .upRun ∧ t.pwr.grp[g].step = x.step + 1 ∧ t.pwr.grp[g].last = x.step + 1 ∧
          t.pwr.grp[g].stepAt = some t.sys.devTime ∧ t.pwr.grp[g].waitOver = (w.action == 2 && waitRailHolds w s) ∧
          t.pwr.vr = s.pwr.vr ∧ t.pwr.ldo = s.pwr.ldo ∧ t.pwr.en = s.pwr.en ∧ t.hif = s.hif ∧ t.path = s.path)) ∧
  (∀ (g : Fin 8) (r : Rail) (s : State),
      let x := s.pwr.grp[g]
      x.st = .upRun ∧ x.stepAt.isSome = true ∧ x.waitOver = false ∧ (stepAt x.step s).enables = some r ∧ railHeld r s = true ∧
          s.sys.inReset = false →
      (∀ h, h ≠ g → GroupIdle h s) ∧ s.pwr.railWaits = [] ∧ s.pwr.autoQueue = [] →
      s.pwr.allDown = [] ∧ s.pwr.allDownDone = [] ∧ s.pwr.allDownCmds = [] →
      Answers (.seqTick []) s (fun t => t = { s with sys := { s.sys with devTime := t.sys.devTime, ticks := t.sys.ticks } })) ∧
  (∀ (g : Fin 8) (r : Rail) (s : State),
      let x := s.pwr.grp[g]
      x.st = .downRun ∨ x.st = .backoff →
      x.immediate = false ∧ x.backoffWait = false ∧ x.waitOver = false ∧ x.railAt.isSome = true ∧ s.sys.inReset = false →
      (stepAt x.step s).enables = some r ∧ railOff r s = false →
      (∀ h, h ≠ g → GroupIdle h s) ∧ s.pwr.railWaits = [] ∧ s.pwr.autoQueue = [] →
      s.pwr.allDown = [] ∧ s.pwr.allDownDone = [] ∧ s.pwr.allDownCmds = [] →
      Answers (.seqTick []) s (fun t => t = { s with sys := { s.sys with devTime := t.sys.devTime, ticks := t.sys.ticks } })) ∧
  (∀ (g : Fin 8) (r : Rail) (s : State),
      let x := s.pwr.grp[g]
      x.st = .backoff ∧ x.immediate = false ∧ x.backoffWait = false ∧ x.waitOver = false ∧ x.railAt.isSome = true ∧
          s.sys.inReset = false →
      (stepAt x.step s).enables = some r ∧ railOff r s = true ∧ x.step = groupFirst g s ∧ x.after = .retry →
      (∀ h, h ≠ g → GroupIdle h s) ∧ s.pwr.railWaits = [] ∧ s.pwr.autoQueue = [] →
      s.pwr.allDown = [] ∧ s.pwr.allDownDone = [] ∧ s.pwr.allDownCmds = [] →
      Answers (.seqTick []) s (fun t => t.pwr.grp[g] = { x with backoffWait := true, stepAt := none, railAt := none } ∧
          t.pwr.vr = s.pwr.vr ∧ t.pwr.ldo = s.pwr.ldo ∧ t.pwr.en = s.pwr.en ∧ t.hif = s.hif ∧ t.path = s.path)) ∧
  (∀ (g : Fin 8) (r : Rail) (s : State),
      let x := s.pwr.grp[g]
      x.st = .backoff ∧ x.immediate = false ∧ x.backoffWait = false ∧ x.waitOver = false ∧ x.railAt.isSome = true ∧
          s.sys.inReset = false →
      (stepAt x.step s).enables = some r ∧ railOff r s = true ∧ x.step = groupFirst g s ∧ x.after = .toFailed ∧ x.upCmds = [] →
      (∀ h, h ≠ g → GroupIdle h s) ∧ s.pwr.railWaits = [] ∧ s.pwr.autoQueue = [] →
      s.pwr.allDown = [] ∧ s.pwr.allDownDone = [] ∧ s.pwr.allDownCmds = [] →
      Answers (.seqTick []) s (fun t => t.pwr.grp[g].st = .failed ∧
          { code := 0x4001, detail := w32 (g.val * 256 + 0x45), time := t.sys.devTime } ∈ t.hif.events ∧
          Delivered (0x120 + g.val) 0x18 (0xF000 + x.attempts % 16 * 256 + x.failStep % 256) { s with sys := t.sys } t ∧
          t.pwr.vr = s.pwr.vr ∧ t.pwr.ldo = s.pwr.ldo ∧ t.pwr.en = s.pwr.en ∧ t.hif.slots = s.hif.slots ∧ t.path = s.path)) ∧
  (∀ (g : Fin 8) (s : State),
      let x := s.pwr.grp[g]
      let w := stepAt (x.step + 1) s
      x.st = .upRun ∧ x.stepAt.isSome = true ∧ (stepAt x.step s).action = 3 ∧ x.step < lastStep g s ∧ w.enables = none →
      Answers (.waitTimeEnd g) s (fun t => t.pwr.grp[g].st = .upRun ∧ t.pwr.grp[g].step = x.step + 1 ∧
          t.pwr.grp[g].stepAt = some s.sys.devTime ∧ t.pwr.grp[g].waitOver = (w.action == 2 && waitRailHolds w s) ∧ GroupFrame g s t ∧
          t.hif = s.hif)) ∧
  (∀ (g : Fin 8) (s : State),
      let x := s.pwr.grp[g]
      x.st = .upRun ∧ x.stepAt.isSome = true ∧ (stepAt x.step s).action = 3 ∧ s.sys.inReset = false →
      lastStep g s ≤ x.step ∧ x.upCmds = [] →
      Answers (.waitTimeEnd g) s (fun t => t.pwr.grp[g].st = .up ∧ t.pwr.grp[g].stepAt = none ∧ Posted 0x4001 (w32 (g.val * 256 +
          0x12)) s t ∧ GroupFrame g s t ∧ t.hif.slots = s.hif.slots)) ∧
  (∀ (g : Fin 8) (s : State),
      let x := s.pwr.grp[g]
      x.stepAt = none ∨ (stepAt x.step s).action ≠ 3 ∨ (x.st ≠ .upRun ∧ x.st ≠ .downRun ∧ x.st ≠ .backoff) →
      Answers (.waitTimeEnd g) s (fun t => t = s)) ∧
  (∀ (g : Fin 8) (s : State),
      let x := s.pwr.grp[g]
      let w := stepAt x.step s
      x.st = .upRun ∧ x.stepAt.isSome = true ∧ x.waitOver = false ∧ s.sys.inReset = false →
      (w.action = 2 ∨ w.action = 4) ∧ w.cont = false →
      Answers (.seqStepTimeout g) s (fun t => t.pwr.grp[g].st = .backoff ∧ t.pwr.grp[g].failCause = 1 ∧ t.pwr.grp[g].failStep = x.step ∧
          t.pwr.grp[g].step = x.last ∧ t.pwr.grp[g].stepAt = none ∧ t.pwr.grp[g].backoffWait = false ∧ t.pwr.grp[g].attempts = x.attempts ∧
          t.pwr.grp[g].after = (if x.retries < x.attempts then .toFailed else .retry) ∧ t.pwr.grp[g].upCmds = x.upCmds ∧ PickSent (116 +
          g.val) (0x120 + g.val) 0x18 (4096 + x.attempts % 16 * 256 + x.step % 256) s t ∧ Posted 0x4001 (w32 (g.val * 256 + 0x14)) s t ∧
          GroupFrame g s t ∧ t.hif.slots = s.hif.slots)) ∧
  (∀ (g : Fin 8) (s : State),
      let x := s.pwr.grp[g]
      let w := stepAt x.step s
      x.st = .upRun ∧ x.stepAt.isSome = true ∧ x.waitOver = false ∧ (w.action = 2 ∨ w.action = 4) ∧ w.cont = true ∧ s.sys.inReset = false →
      Answers (.seqStepTimeout g) s (fun t => t.pwr.grp[g] = { x with waitOver := true } ∧ Picked (0x120 + g.val) 0x19 (x.step % 256) s t ∧
          GroupFrame g s t ∧ t.hif = s.hif)) ∧
  (∀ (g : Fin 8) (s : State),
      s.pwr.grp[g].st ≠ .upRun ∨ s.pwr.grp[g].waitOver = true →
      Answers (.seqStepTimeout g) s (fun t => t = s)) ∧
  (∀ (g : Fin 8) (s : State),
      let x := s.pwr.grp[g]
      x.st = .backoff ∧ x.backoffWait = true ∧ s.sys.inReset = false →
      Answers (.backoffExpiry g) s (fun t => t.pwr.grp[g].st = .upRun ∧ t.pwr.grp[g].step = groupFirst g s ∧ t.pwr.grp[g].stepAt = none ∧
          t.pwr.grp[g].attempts = (if x.after = .cycle then 1 else x.attempts + 1) ∧ t.pwr.grp[g].backoffWait = false ∧
          t.pwr.grp[g].upCmds = x.upCmds ∧ Posted 0x4001 (w32 (g.val * 256 + 0x41)) s t ∧ GroupFrame g s t ∧ t.hif.slots = s.hif.slots)) ∧
  (∀ (g : Fin 8) (s : State),
      s.pwr.grp[g].st ≠ .backoff ∨ s.pwr.grp[g].backoffWait = false →
      Answers (.backoffExpiry g) s (fun t => t = s)) ∧
  (∀ (g : Fin 8) (r : Rail) (s : State),
      let x := s.pwr.grp[g]
      (∀ h, h ≠ g → GroupIdle h s) ∧ s.sys.inReset = false ∧ railGroup r s = some g ∧ railOff r s = false →
      x.st = .downRun ∧ x.railAt.isSome = true ∧ (stepAt x.step s).enables = some r ∧ x.stuckHalt = true ∧ x.upCmds = [] ∧ x.downCmds = [] ∧
          x.heldUp = none →
      Answers (.railStuck r) s (fun t => t.pwr.grp[g].st = .halted ∧ t.pwr.grp[g].haltStep = x.step ∧ t.pwr.grp[g].railAt = none ∧
          PickSent (116 + g.val) (0x120 + g.val) 0x1A (railCode r) s t ∧ Posted 0x4003 (w32 (railCode r)) s t ∧
          Posted 0x4001 (w32 (g.val * 256 + 0x37)) s t ∧ GroupFrame g s t ∧ t.hif.slots = s.hif.slots)) ∧
  (∀ (g : Fin 8) (r : Rail) (s : State),
      let x := s.pwr.grp[g]
      (∀ h, h ≠ g → GroupIdle h s) ∧ s.sys.inReset = false ∧ railGroup r s = some g ∧ railOff r s = false →
      x.st = .downRun ∧ x.railAt.isSome = true ∧ (stepAt x.step s).enables = some r ∧ x.stuckHalt = false ∧ x.downCmds = [] ∧
          x.heldUp = none →
      x.step = groupFirst g s ∧ x.after = .toDown →
      Answers (.railStuck r) s (fun t => t.pwr.grp[g].st = .down ∧ t.pwr.grp[g].takenOff = min 255 (x.takenOff + 1) ∧ PickSent (116 +
          g.val) (0x120 + g.val) 0x1A (railCode r) s t ∧ Posted 0x4003 (w32 (railCode r)) s t ∧ GroupFrame g s t ∧
          t.hif.slots = s.hif.slots)) ∧
  (∀ (g : Fin 8) (n : Fin 8) (mv : Nat) (s : State),
      let x := s.pwr.grp[g]
      s.pwr.ldo[n].st = .regulate ∧ s.sys.regStopped = false ∧ s.sys.inReset = false ∧ s.hif.slots = [] →
      mv * 10 < 9 * pn (Pid.LDO_VOUT_MV n.val) s ∧ pn (Pid.LDO_UV_ACT n.val) s = 1 →
      railGroup (.ldo n) s = some g ∧ x.st = .up →
      Answers (.ldoUv n mv) s (fun t => t.pwr.ldo[n].st = .latchedOff ∧ Delivered (0x120 + g.val) 0x1B (0x310 + n.val) s t ∧
          t.pwr.grp[g].st = (if groupAct g s = 0 then .partialUp else .downRun) ∧ (groupAct g s ≠ 0 → t.pwr.grp[g].step = lastStep g s ∧
          t.pwr.grp[g].after = (if groupAct g s = 2 then .cycle else .toDown)) ∧ (∀ m, m ≠ n → t.pwr.ldo[m] = s.pwr.ldo[m]) ∧
          t.pwr.vr = s.pwr.vr ∧ t.pwr.en = s.pwr.en))

/-- A UV or OV comparator that is not switched off sets; on an evaluated monitor that raises MON_UV or MON_OV and MON_FAULT, and MONm.ACT
  bit 1 starts an ordered power-down of MONm.GROUP and bit 2 turns its rails off at once; a gated-off one shows its state and does nothing.
  It clears silently, past its hysteresis; the UV comparator of an EN rail's monitor then completes the RAIL_ON that waits. When evaluation
  begins, a set comparator counts as setting then. A threshold write puts (mV * 1000 / DIV + 1) / 2, with UV and OV scaled by the margin of
  the watched channel, into the codes, and switches a comparator with a threshold of 0 mV off. Where a clause needs a reading of the manual
  or a choice, it is the model's: log entries 14, 15. [derived: R200; R201; R202; R203; R204; R227; R229] -/
def Obligations.Monitors : Prop :=
  (∀ (m : Fin 32) (mv : Nat) (s : State),
      s.pwr.mon[m].uv = false ∧ s.pwr.mon[m].eval = false ∧ s.sys.regStopped = false →
      s.pwr.mon[m].uvEn = true ∧ mv * 1000 < 2 * s.pwr.mon[m].uvCode * pn (Pid.MON_DIV m.val) s →
      (∀ n : Fin 16, enMon n s ≠ some m) →
      Answers (.monComparatorSet m ⟨.uv, mv⟩) s (fun t => t.pwr.mon[m] = { s.pwr.mon[m] with uv := true } ∧ NoPickBut (84 + m.val) s t ∧ (∀ i,
          i ≠ m → t.pwr.mon[i] = s.pwr.mon[i]) ∧ t.pwr.vr = s.pwr.vr ∧ t.pwr.ldo = s.pwr.ldo ∧ t.pwr.en = s.pwr.en ∧
          t = { s with pwr := { s.pwr with mon := t.pwr.mon, grp := t.pwr.grp }, eic := t.eic, hif := t.hif, selv := t.selv })) ∧
  (∀ (m : Fin 32) (mv : Nat) (s : State),
      s.pwr.mon[m].ov = false ∧ s.pwr.mon[m].eval = true ∧ s.sys.regStopped = false ∧ s.sys.inReset = false →
      s.pwr.mon[m].ovEn = true ∧ 2 * s.pwr.mon[m].ovCode * pn (Pid.MON_DIV m.val) s ≤ mv * 1000 →
      pn (Pid.MON_ACT m.val) s % 8 < 2 →
      Answers (.monComparatorSet m ⟨.ov, mv⟩) s (fun t => t.pwr.mon[m] = { s.pwr.mon[m] with ov := true } ∧ PickSent (84 + m.val) (0x100 +
          m.val) 0x11 0 s t ∧ Posted 0x4002 0 s t ∧ (∀ i, i ≠ m → t.pwr.mon[i] = s.pwr.mon[i]) ∧
          t.pwr = { s.pwr with mon := t.pwr.mon, grp := t.pwr.grp } ∧ t.path = s.path ∧ t.hif.slots = s.hif.slots)) ∧
  (∀ (m : Fin 32) (g : Fin 8) (mv : Nat) (s : State),
      s.pwr.mon[m].uv = false ∧ s.pwr.mon[m].eval = true ∧ s.sys.regStopped = false ∧ s.sys.inReset = false →
      s.pwr.mon[m].uvEn = true ∧ mv * 1000 < 2 * s.pwr.mon[m].uvCode * pn (Pid.MON_DIV m.val) s →
      pn (Pid.MON_ACT m.val) s % 8 = 2 ∨ pn (Pid.MON_ACT m.val) s % 8 = 3 →
      pn (Pid.MON_GROUP m.val) s = g.val ∧ groupEn g s = true ∧ s.pwr.grp[g].st = .up ∧ (∀ n : Fin 16, enMon n s ≠ some m) →
      Answers (.monComparatorSet m ⟨.uv, mv⟩) s (fun t => t.pwr.mon[m] = { s.pwr.mon[m] with uv := true } ∧ t.pwr.grp[g].st = .downRun ∧
          t.pwr.grp[g].step = lastStep g s ∧ t.pwr.grp[g].after = .toDown ∧ t.pwr.grp[g].immediate = s.pwr.grp[g].immediate ∧
          Delivered (0x100 + m.val) 0x10 0 s t ∧ Posted 0x4002 0 s t ∧ t.pwr.vr = s.pwr.vr ∧ t.pwr.ldo = s.pwr.ldo ∧ t.pwr.en = s.pwr.en)) ∧
  (∀ (m : Fin 32) (g : Fin 8) (mv : Nat) (s : State),
      s.pwr.mon[m].ov = false ∧ s.pwr.mon[m].eval = true ∧ s.sys.regStopped = false ∧ s.sys.inReset = false →
      s.pwr.mon[m].ovEn = true ∧ 2 * s.pwr.mon[m].ovCode * pn (Pid.MON_DIV m.val) s ≤ mv * 1000 →
      (pn (Pid.MON_ACT m.val) s).testBit 2 = true ∧ pn (Pid.MON_GROUP m.val) s = g.val →
      s.pwr.grp[g].st = .up ∧ s.pwr.grp[g].upCmds = [] ∧ s.pwr.grp[g].heldUp = none ∧ s.pwr.grp[g].downCmds = [] →
      Answers (.monComparatorSet m ⟨.ov, mv⟩) s (fun t => t.pwr.mon[m].ov = true ∧ t.pwr.grp[g].st = .downRun ∧ t.pwr.grp[g].immediate = true ∧
          Delivered (0x100 + m.val) 0x11 0 s t ∧ Posted 0x4002 0 s t ∧ (∀ r ∈ groupRails g s, railEnabled r t = false) ∧ t.path = s.path)) ∧
  (∀ (m : Fin 32) (e : MonEdge) (s : State),
      let x := s.pwr.mon[m]
      let div := pn (Pid.MON_DIV m.val) s
      s.sys.regStopped = true ∨ (e.side = .uv ∧ (x.uv = true ∨ x.uvEn = false ∨ 2 * x.uvCode * div ≤ e.mv * 1000)) ∨
          (e.side = .ov ∧ (x.ov = true ∨ x.ovEn = false ∨ e.mv * 1000 < 2 * x.ovCode * div)) →
      Answers (.monComparatorSet m e) s (fun t => t = s)) ∧
  (∀ (m : Fin 32) (e : MonEdge) (s : State),
      let x := s.pwr.mon[m]
      let div := pn (Pid.MON_DIV m.val) s
      let h := 1000 * pn (Pid.MON_HYST_MV m.val) s
      s.sys.regStopped = true ∨ (e.side = .uv ∧ e.mv * 1000 < 2 * x.uvCode * div + h) ∨
          (e.side = .ov ∧ 2 * x.ovCode * div ≤ e.mv * 1000 + h) →
      Answers (.monComparatorClear m e) s (fun t => t = s)) ∧
  (∀ (m : Fin 32) (e : MonEdge) (s : State),
      let x := s.pwr.mon[m]
      let div := pn (Pid.MON_DIV m.val) s
      let h := 1000 * pn (Pid.MON_HYST_MV m.val) s
      s.sys.regStopped = false →
      (e.side = .uv ∧ 2 * x.uvCode * div + h ≤ e.mv * 1000) ∨ (e.side = .ov ∧ e.mv * 1000 + h < 2 * x.ovCode * div) →
      (∀ n : Fin 16, enMon n s = some m → railOnWaiters (.en n) s = []) →
      Answers (.monComparatorClear m e) s (fun t => t.pwr.mon[m] = (match e.side with
        | .uv => { s.pwr.mon[m] with uv := false }
        | .ov => { s.pwr.mon[m] with ov := false }) ∧ (∀ i, i ≠ m → t.pwr.mon[i] = s.pwr.mon[i]) ∧ NoPickBut (84 + m.val) s t ∧
          t = { s with pwr := { s.pwr with mon := t.pwr.mon, grp := t.pwr.grp }, eic := t.eic, hif := t.hif, selv := t.selv })) ∧
  (∀ (m : Fin 32) (n : Fin 16) (mv : Nat) (p : Port) (x : Slot) (s : State),
      (∀ k, enMon k s = some m ↔ k = n) ∧ s.pwr.en[n].st = .on ∧ s.sys.regStopped = false →
      2 * s.pwr.mon[m].uvCode * pn (Pid.MON_DIV m.val) s + 1000 * pn (Pid.MON_HYST_MV m.val) s ≤ mv * 1000 →
      railOnWaiters (.en n) s = [{ port := p, tag := x.tag }] ∧ findSlot p x.tag s = some x →
      CqRoom p s →
      Answers (.monComparatorClear m ⟨.uv, mv⟩) s (fun t => t.pwr.mon[m].uv = false ∧ CompletedWith p x 0x00 ([3, 0, 0, 0, 0, 0, 0, 0, 0, 0,
          0] ++ [w32 ((x.waitTicks + 99) / 100)]) s t ∧ t.pwr.en = s.pwr.en)) ∧
  (∀ (m : Fin 32) (s : State),
      let x := s.pwr.mon[m]
      pn (Pid.MON_RAIL m.val) s = 0xFF ∧ x.written = true ∧ x.eval = false ∧ s.sys.regStopped = false ∧ s.sys.inReset = false →
      x.ov = false ∧ pn (Pid.MON_ACT m.val) s % 8 < 2 →
      Answers (.monEvaluationStart m) s (fun t => t.pwr.mon[m] = { x with eval := true } ∧ (x.uv = true → Picked (0x100 +
          m.val) 0x10 0 s t ∧ Posted 0x4002 0 s t) ∧ (x.uv = false → t.selv = s.selv ∧ t.hif = s.hif) ∧ (∀ i, i ≠ m →
          t.pwr.mon[i] = s.pwr.mon[i]) ∧ t.pwr = { s.pwr with mon := t.pwr.mon } ∧ t.path = s.path)) ∧
  (∀ (m : Fin 32) (n : Fin 8) (s : State),
      (pn (Pid.MON_RAIL m.val) s = 0x10 + n.val ∧ s.pwr.ldo[n].enabledAt = none) ∨ s.pwr.mon[m].written = false ∨ s.pwr.mon[m].eval = true →
      Answers (.monEvaluationStart m) s (fun t => t = s)) ∧
  (∀ (m : Fin 32) (s : State),
      let d := pn (Pid.MON_DIV m.val) s
      s.sys.boot.cfgLoaded = true ∧ s.sys.inReset = false ∧ s.sys.regStopped = false →
      s.pwr.mon[m].widened = false ∧ 12 ≤ pn (Pid.MON_RAIL m.val) s →
      Answers (.monThresholdWrite m) s (fun t => t.pwr.mon[m] = { s.pwr.mon[m] with
            uvCode := (pn (Pid.MON_UV_MV m.val) s * 1000 / d + 1) / 2, ovCode := (pn (Pid.MON_OV_MV m.val) s * 1000 / d + 1) / 2,
            offCode := (pn (Pid.MON_OFF_MV m.val) s * 1000 / d + 1) / 2, written := true, uvEn := decide (pn (Pid.MON_UV_MV m.val) s ≠ 0),
            ovEn := decide (pn (Pid.MON_OV_MV m.val) s ≠ 0), uv := s.pwr.mon[m].uv && decide (pn (Pid.MON_UV_MV m.val) s ≠ 0),
            ov := s.pwr.mon[m].ov && decide (pn (Pid.MON_OV_MV m.val) s ≠ 0) } ∧ (∀ i, i ≠ m → t.pwr.mon[i] = s.pwr.mon[i]) ∧
          t = { s with pwr := { s.pwr with mon := t.pwr.mon, grp := t.pwr.grp }, eic := t.eic, hif := t.hif, selv := t.selv })) ∧
  (∀ (m : Fin 32) (c : Fin 12) (s : State),
      let d := pn (Pid.MON_DIV m.val) s
      let k := s.pwr.vr[c].margin
      s.sys.boot.cfgLoaded = true ∧ s.sys.inReset = false ∧ s.sys.regStopped = false →
      s.pwr.mon[m].widened = false ∧ pn (Pid.MON_RAIL m.val) s = c.val →
      Answers (.monThresholdWrite m) s (fun t => t.pwr.mon[m].uvCode = (marginedMv (pn (Pid.MON_UV_MV m.val) s) k * 1000 / d + 1) / 2 ∧
          t.pwr.mon[m].ovCode = (marginedMv (pn (Pid.MON_OV_MV m.val) s) k * 1000 / d + 1) / 2 ∧ t.pwr.mon[m].written = true ∧ (∀ i, i ≠ m →
          t.pwr.mon[i] = s.pwr.mon[i]) ∧
          t = { s with pwr := { s.pwr with mon := t.pwr.mon, grp := t.pwr.grp }, eic := t.eic, hif := t.hif, selv := t.selv })) ∧
  (∀ (m : Fin 32) (s : State),
      s.sys.boot.cfgLoaded = false ∨ s.sys.inReset = true ∨ s.sys.regStopped = true →
      Answers (.monThresholdWrite m) s (fun t => t = s))

/-- Where B = Q_IN - Q_OUT - Q_SELF + Q_REBASE holds of the caddy and of every kettle set in NVM, it holds after every step, whatever
  command runs. Where a clause needs a reading of the manual or a choice, it is the model's: log entry 19. [derived: R23; R68; R234;
  R235; R237; R238] -/
def Obligations.StepKeepsCaddyBalance : Prop :=
  ∀ (s t : State),
      caddiesBalance s = true →
      step s = .next t →
      caddiesBalance t = true

/-- EST_READ returns the words of its selector and completes OUT_OF_RANGE for another; CADDY_READ and TEST_LOG_READ return the held entry
  of a SEQ, else BAD_PARAM_ID; the gauge commands complete WRONG_STATE outside LEDGER mode and else return VBAT, current, SoC with its
  flags, capacities, cycles and times; EST_LEARN_RESET needs TEST mode and then serves the factory tables, forgets the learned capacity
  and leaves the caddy alone. None of the reads changes anything but the completion, save that GAUGE_STATUS without a temperature takes a
  free value (log entry 3). Where a clause needs a reading of the manual or a choice, it is the model's: log entries 3, 9. [derived:
  R236; R258; R261; R262; R268; R270; log entry 3] -/
def Obligations.EstimatorReads : Prop :=
  (∀ (p : Port) (tag : Tag) (x : Slot) (s : State),
      let e := s.est
      let lo : Int → W := fun v => BitVec.ofInt 32 v
      let hi : Int → W := fun v => BitVec.ofInt 32 (v / 4294967296)
      Admitted 0x501 p tag x s →
      CqRoom p s →
      bitsOf (x.word 1) 0 8 = 0 →
      Answers (.estRead p tag) s (fun t => CompletionOnly p s t ∧ CompletedWith p x 0x00 [w32 (min 65535 (socInt s) * 65536 +
          min 65535 e.soc), w32 (sigS s + 65536 * dirCode e.dir), w32 e.floorS, w32 e.floorRatedS, w32 e.iLoad, w32 (qFullMah s),
          lo e.caddy.b, hi e.caddy.b, w32 e.fit.rs, w32 e.fit.rct, w32 (min 4294967295 ((s.sys.devTime - e.fitAt) / 1000000)), e.flags] s t)) ∧
  (∀ (p : Port) (tag : Tag) (x : Slot) (s : State),
      let e := s.est
      let lo : Int → W := fun v => BitVec.ofInt 32 v
      Admitted 0x501 p tag x s →
      CqRoom p s →
      bitsOf (x.word 1) 0 8 = 1 →
      Answers (.estRead p tag) s (fun t => CompletionOnly p s t ∧ CompletedWith p x 0x00 [w32 e.fit.rs, w32 e.fit.rct, w32 e.fit.cdl,
          w32 e.fit.rdif, w32 e.fit.cdif, lo e.ocvEst, w32 e.fit.residual, w32 e.fits] s t)) ∧
  (∀ (p : Port) (tag : Tag) (x : Slot) (s : State),
      let e := s.est
      let lo : Int → W := fun v => BitVec.ofInt 32 v
      Admitted 0x501 p tag x s →
      CqRoom p s →
      bitsOf (x.word 1) 0 8 = 3 →
      Answers (.estRead p tag) s (fun t => CompletionOnly p s t ∧ CompletedWith p x 0x00 [lo e.sohFade, lo e.sohRs, w32 (qFullMah s),
          w32 (pn Pid.CHG_CAP_MAH s), w32 e.learnCount, w32 e.learnTs] s t)) ∧
  (∀ (p : Port) (tag : Tag) (x : Slot) (s : State),
      Admitted 0x501 p tag x s →
      CqRoom p s →
      4 ≤ bitsOf (x.word 1) 0 8 →
      Answers (.estRead p tag) s (fun t => CompletionOnly p s t ∧ CompletedWith p x 0x14 [0] s t)) ∧
  (∀ (p : Port) (tag : Tag) (x : Slot) (s : State),
      let c := s.est.caddy
      let lo : Int → W := fun v => BitVec.ofInt 32 v
      let hi : Int → W := fun v => BitVec.ofInt 32 (v / 4294967296)
      Admitted 0x501 p tag x s →
      CqRoom p s →
      bitsOf (x.word 1) 0 8 = 2 ∧ s.est.led.accIn < 18446744073709551615 ∧ s.est.led.accOut < 18446744073709551615 →
      Answers (.estRead p tag) s (fun t => CompletionOnly p s t ∧ CompletedWith p x 0x00 [lo c.qIn, hi c.qIn, lo c.qOut, hi c.qOut,
          lo c.qSelf, hi c.qSelf, lo c.qRebase, hi c.qRebase, lo c.b, hi c.b, (s.store.nvm.caddy.next - 1).setWidth 32, 0] s t)) ∧
  (∀ (p : Port) (tag : Tag) (x : Slot) (e : List W) (a b : List (List W)) (s : State),
      Admitted 0x502 p tag x s →
      CqRoom p s →
      newest (512 - 8 * lostPages 111 64 s) s.store.nvm.caddy.entries = a ++ e :: b ∧ (e.getD 0 0) >>> 16 = ((x.word 1).setWidth 16).setWidth 32 ∧
          (∀ f ∈ b, (f.getD 0 0) >>> 16 ≠ ((x.word 1).setWidth 16).setWidth 32) →
      Answers (.caddyRead p tag) s (fun t => CompletionOnly p s t ∧ CompletedWith p x 0x00 e s t)) ∧
  (∀ (p : Port) (tag : Tag) (x : Slot) (s : State),
      Admitted 0x502 p tag x s →
      CqRoom p s →
      (∀ e ∈ s.store.nvm.caddy.entries, (e.getD 0 0) >>> 16 ≠ ((x.word 1).setWidth 16).setWidth 32) →
      Answers (.caddyRead p tag) s (fun t => CompletionOnly p s t ∧ CompletedWith p x 0x13 [0] s t)) ∧
  (∀ (p : Port) (tag : Tag) (x : Slot) (e : List W) (a b : List (List W)) (s : State),
      Admitted 0x512 p tag x s →
      CqRoom p s →
      newest (256 - 8 * lostPages 79 32 s) s.store.nvm.test.entries = a ++ e :: b ∧ (e.getD 0 0) >>> 16 = ((x.word 1).setWidth 16).setWidth 32 ∧
          (∀ f ∈ b, (f.getD 0 0) >>> 16 ≠ ((x.word 1).setWidth 16).setWidth 32) →
      Answers (.testLogRead p tag) s (fun t => CompletionOnly p s t ∧ CompletedWith p x 0x00 e s t)) ∧
  (∀ (p : Port) (tag : Tag) (x : Slot) (s : State),
      Admitted 0x512 p tag x s →
      CqRoom p s →
      (∀ e ∈ s.store.nvm.test.entries, (e.getD 0 0) >>> 16 ≠ ((x.word 1).setWidth 16).setWidth 32) →
      Answers (.testLogRead p tag) s (fun t => CompletionOnly p s t ∧ CompletedWith p x 0x13 [0] s t)) ∧
  (∀ (op : Nat) (p : Port) (tag : Tag) (x : Slot) (s : State),
      let c : Instr := if op = 0x5C0 then .gaugeStatus p tag else if op = 0x5C1 then .gaugeCapacity p tag else .gaugeTimes p tag
      op = 0x5C0 ∨ op = 0x5C1 ∨ op = 0x5C2 →
      Admitted op p tag x s →
      CqRoom p s →
      pn Pid.EST_MODE s ≠ 1 →
      Answers c s (fun t => CompletionOnly p s t ∧ CompletedWith p x 0x17 [0] s t)) ∧
  (∀ (k : Int) (p : Port) (tag : Tag) (x : Slot) (s : State),
      let e := s.est
      Admitted 0x5C0 p tag x s →
      CqRoom p s →
      pn Pid.EST_MODE s = 1 ∧ batTemp s = some (10 * k + 5) →
      Answers (.gaugeStatus p tag) s (fun t => CompletionOnly p s t ∧ CompletedWith p x 0x00 [w32 s.path.vbat, BitVec.ofInt 32 s.path.ibat,
          w32 (rdivN e.soc 100 + 256 * ((if e.dir = .discharge then 1 else 0) + (if e.flags.getLsbD 11 = true then 2 else 0) +
          (if e.flags.getLsbD 7 = true then 4 else 0) + (if e.flags.getLsbD 9 = true then 8 else 0))), BitVec.ofInt 32 (rdiv (2 * (10 * k +
          5) + 5463) 2)] s t)) ∧
  (∀ (p : Port) (tag : Tag) (x : Slot) (s : State),
      Admitted 0x5C0 p tag x s →
      CqRoom p s →
      pn Pid.EST_MODE s = 1 ∧ batTemp s = none →
      Answers (.gaugeStatus p tag) s (fun t => Completed p x 0x00 s t ∧ cqWord p (s.hif.port p).cqTail 4 t = w32 s.path.vbat ∧
          cqWord p (s.hif.port p).cqTail 7 t = Config.freeWord s.sys.free ∧
          t = { s with hif := t.hif, sys := { s.sys with free := s.sys.free + 1 } })) ∧
  (∀ (p : Port) (tag : Tag) (x : Slot) (s : State),
      Admitted 0x5C1 p tag x s →
      CqRoom p s →
      pn Pid.EST_MODE s = 1 →
      Answers (.gaugeCapacity p tag) s (fun t => CompletionOnly p s t ∧ CompletedWith p x 0x00 [w32 (rdiv (max 0 s.est.caddy.b) 3600).toNat,
          w32 (qFullMah s), w32 (pn Pid.CHG_CAP_MAH s), w32 s.chg.cycles] s t)) ∧
  (∀ (p : Port) (tag : Tag) (x : Slot) (s : State),
      let e := s.est
      Admitted 0x5C2 p tag x s →
      CqRoom p s →
      pn Pid.EST_MODE s = 1 →
      Answers (.gaugeTimes p tag) s (fun t => CompletionOnly p s t ∧ CompletedWith p x 0x00 [ (if e.dir = .discharge ∧ 0 < e.iLoad then
          w32 (rdiv (max 0 e.caddy.b) (60 * e.iLoad : Nat)).toNat else 0xFFFF), (if e.dir = .charge ∧ 0 < s.path.ibat then
          w32 (rdiv (max 0 ((qFullMc s : Int) - e.caddy.b)) (60 * s.path.ibat)).toNat else 0xFFFF),
          BitVec.ofInt 32 (rdiv e.amps.sum e.amps.length)] s t)) ∧
  (∀ (p : Port) (tag : Tag) (x : Slot) (s : State),
      Admitted 0x520 p tag x s →
      CqRoom p s →
      s.sys.mode ≠ .test →
      Answers (.estLearnReset p tag) s (fun t => CompletionOnly p s t ∧ CompletedWith p x 0x17 [0] s t)) ∧
  (∀ (p : Port) (tag : Tag) (x : Slot) (s : State),
      Admitted 0x520 p tag x s →
      CqRoom p s →
      s.sys.mode = .test →
      Answers (.estLearnReset p tag) s (fun t => Completed p x 0x00 s t ∧ t.est.qFull = none ∧ t.est.sigC = 500 ∧ t.est.learnCount = 0 ∧
          servedEntries .ocv t = factEntries .ocv s ∧ servedEntries .cap t = factEntries .cap s ∧ servedEntries .rs t = factEntries .rs s ∧
          t.store.nvm = { s.store.nvm with learned := [], lostTables := [] } ∧ t.est.caddy = s.est.caddy ∧ t.est.soc = s.est.soc ∧ t.chg = s.chg ∧
          t.path = s.path))

/-- A sample adds its magnitude to ACC_IN or ACC_OUT, saturating; a reading moves the counted charge of both changes, with the fraction
  kept, into Q_IN, Q_OUT, B and SoC_int, for a valid caddy. Self-discharge accrues at the battery temperature or 45 degC and is posted as
  one entry that lowers B and raises Q_SELF; REBASE_DRIFT and, at FULL, REBASE_FULL set B to their target with Q_REBASE moved alike.
  MODEL_UPDATE takes VBAT and the current and steps both pairs. A pour serves a consistent steeping copy with its version advanced, 600 s
  after the last; one that fails is discarded with EST_POUR_REFUSED. A new direction latches its source; a learned Q_FULL applies outside
  DISCHARGE with a QFULL entry of amount 0. Where a clause needs a reading of the manual or a choice, it is the model's: log entries 4,
  12, 19, 21. [derived: R233; R234; R235; R237; R239; R250; R252; R253; R254; R258; R260; R261] -/
def Obligations.LedgerCaddyAndTables : Prop :=
  (∀ (code : BitVec 24) (s : State),
      let l := s.est.led
      s.sys.power ≠ .ship ∧ s.sys.porActive = false →
      Answers (.ledgerSample code) s (fun t => t.est.led = (if 0 < code.toInt then
          { l with accIn := min 18446744073709551615 (l.accIn + code.toInt.toNat) } else
          { l with accOut := min 18446744073709551615 (l.accOut + (-code.toInt).toNat) }) ∧
          t = { s with est := { s.est with led := t.est.led } })) ∧
  (∀ (code : BitVec 24) (s : State),
      s.sys.power = .ship ∨ s.sys.porActive = true →
      Answers (.ledgerSample code) s (fun t => t = s)) ∧
  (∀ (s : State),
      let l := s.est.led
      let c := s.est.caddy
      let den := 8388608 * pn Pid.EST_RSHUNT_UOHM s * 1000000
      let gain := (1000000 + pv Pid.EST_LEDGER_GAIN_PPM s).toNat
      let i := (l.accIn - l.lastIn) * 25000 * gain + l.fracIn
      let o := (l.accOut - l.lastOut) * 25000 * gain + l.fracOut
      let d := ((i / den : Nat) : Int) - ((o / den : Nat) : Int)
      shRuns 4 s = true ∧ c.valid = true ∧ 0 < pn Pid.EST_RSHUNT_UOHM s ∧ pn Pid.EST_MODE s = 0 →
      l.accIn < 18446744073709551615 ∧ l.accOut < 18446744073709551615 →
      Answers .ledgerRead s (fun t => t.est.caddy = { c with
            qIn := c.qIn + (i / den : Nat), qOut := c.qOut + (o / den : Nat), b := c.b + d } ∧
          t.est.led = { l with lastIn := l.accIn, lastOut := l.accOut, fracIn := i % den, fracOut := o % den, readAt := s.sys.devTime } ∧
          t.est.socQ = max 0 (min (qFullMc s : Int) (s.est.socQ + d)) ∧ s.est.sigQ ≤ t.est.sigQ ∧ t.est.flags = s.est.flags ∧
          t = { s with est := { s.est with led := t.est.led, caddy := t.est.caddy, socQ := t.est.socQ, sigQ := t.est.sigQ } })) ∧
  (∀ (s : State),
      shRuns 4 s = true ∧ s.est.led.accIn = 18446744073709551615 ∧ s.est.flags.getLsbD 13 = false ∧ s.sys.inReset = false →
      Answers .ledgerRead s (fun t => t.est.flags = s.est.flags ||| 0x2000 ∧ Picked 0x162 0x12 0 s t ∧ t.chg = s.chg ∧ t.path = s.path)) ∧
  (∀ (s : State),
      shRuns 4 s = false →
      Answers .ledgerRead s (fun t => t = s)) ∧
  (∀ (s : State),
      let tc := (batTemp s).getD 450
      s.est.caddy.valid = true →
      Answers .selfDischargeAccrue s (fun t => t.est.pendSelf = s.est.pendSelf +
          mulPow2 (qFullMc s * pn Pid.EST_SELF_PPM_DAY s * 60) 86400000 (tc - 250) ∧
          t = { s with est := { s.est with pendSelf := t.est.pendSelf } })) ∧
  (∀ (s : State),
      s.est.caddy.valid = false →
      Answers .selfDischargeAccrue s (fun t => t = s)) ∧
  (∀ (s : State),
      let c := s.est.caddy
      let q := s.est.pendSelf / 1000
      let l := s.store.nvm.caddy
      c.valid = true ∧ q ≠ 0 ∧ lostPages 111 64 s = 0 ∧ l.entries.length < 512 →
      Answers .selfPost s (fun t => t.est.caddy = { c with qSelf := c.qSelf + q, b := c.b - q } ∧ t.est.pendSelf = s.est.pendSelf % 1000 ∧
          t.store.nvm.caddy.next = l.next + 1 ∧ t.store.nvm.caddy.entries.length = l.entries.length + 1 ∧
          let e := t.store.nvm.caddy.entries.getLast?.getD []; (t.store.nvm.caddy.entries = l.entries ++ [e] ∧
          e.getD 0 0 = w32 (l.next.toNat * 65536 + 0x01) ∧ e.getD 1 0 = BitVec.ofInt 32 (-(q : Int)) ∧
          e.getD 3 0 = BitVec.ofInt 32 (c.b - q) ∧ e.getD 5 0 = w32 (timestamp s)) ∧
          t = { s with est := t.est, store := { s.store with nvm := { s.store.nvm with caddy := t.store.nvm.caddy } } })) ∧
  (∀ (s : State),
      s.est.caddy.valid = false →
      Answers .selfPost s (fun t => t = s)) ∧
  (∀ (s : State),
      let c := s.est.caddy
      s.est.driftSince.isSome = true ∧ s.est.flags.getLsbD 9 = false ∧ s.est.pendSelf < 1000 ∧ lostPages 111 64 s = 0 →
      Answers .driftRebase s (fun t => t.est.caddy = { c with
            qRebase := c.qRebase + (s.est.socQ - c.b), b := s.est.socQ, valid := true } ∧ t.est.driftSince = none ∧
          t.est.rebaseAt = s.sys.devTime ∧ t.est.learn = none ∧ t.store.nvm.caddy.next = s.store.nvm.caddy.next + 1 ∧ (∃ e,
          t.store.nvm.caddy.entries.getLast? = some e ∧ e.getD 0 0 = w32 (s.store.nvm.caddy.next.toNat * 65536 + 0x14)) ∧
          t.est.soc = s.est.soc ∧ t.est.socQ = s.est.socQ ∧ t.chg = s.chg ∧ t.path = s.path)) ∧
  (∀ (s : State),
      s.est.driftSince = none ∨ s.est.flags.getLsbD 9 = true →
      Answers .driftRebase s (fun t => t = s)) ∧
  (∀ (vbat : Nat) (i : Int) (s : State),
      let f := s.est.fit
      let v : Int → Nat → Nat → Int := fun v r c => if r = 0 ∨ c = 0 then v else if Config.pairStiff r c = true then pairExact v i r c else v + tquot (10000 * i * r - 10000000 * v) (r * c : Nat)
      shRuns 4 s = true ∧ s.path.link ≠ .battery →
      Answers (.modelUpdate vbat i) s (fun t => t.est.v1 = v s.est.v1 f.rct f.cdl ∧ t.est.v2 = v s.est.v2 f.rdif f.cdif ∧
          t.est.ocvEst = tquot ((vbat : Int) * 1000000 - i * f.rs - 1000 * t.est.v1 - 1000 * t.est.v2) 1000000 ∧ t.path.vbat = vbat ∧
          t.path.ibat = i ∧ t.est.fit = f ∧ t.est.caddy = s.est.caddy ∧ t.pwr = s.pwr ∧ t.store = s.store)) ∧
  (∀ (k : TableKind) (l : List Nat) (sv : EstTable) (s : State),
      let u := tableSet k s
      u.steep = some l ∧ u.served = some sv ∧ tableConsistent k l (factEntries k s) = true →
      (∀ a, u.pourAt = some a → a + 600000000 ≤ s.sys.devTime) →
      Answers (.tablePour k) s (fun t => servedEntries k t = l ∧ (∃ n, (tableSet k t).served = some n ∧ n.ver = (sv.ver + 1) % 65536) ∧
          (tableSet k t).steep = none ∧ (tableSet k t).pourAt = some s.sys.devTime ∧ t.store.nvm.learnedDirty = true ∧ (∀ j, j ≠ k →
          tableSet j t = tableSet j s) ∧ t.est.caddy = s.est.caddy ∧ t.chg = s.chg ∧ t.path = s.path)) ∧
  (∀ (k : TableKind) (l : List Nat) (sv : EstTable) (s : State),
      (tableSet k s).steep = some l ∧ (tableSet k s).served = some sv ∧ tableConsistent k l (factEntries k s) = false ∧
          s.sys.inReset = false →
      (∀ a, (tableSet k s).pourAt = some a → a + 600000000 ≤ s.sys.devTime) →
      Answers (.tablePour k) s (fun t => servedEntries k t = sv.entries ∧ (tableSet k t).steep = none ∧ Picked 0x164 0x14 0 s t ∧ (∀ j,
          j ≠ k → tableSet j t = tableSet j s) ∧ t.est.caddy = s.est.caddy ∧ t.store = s.store)) ∧
  (∀ (k : TableKind) (s : State),
      (tableSet k s).steep = none ∨ (∃ a, (tableSet k s).pourAt = some a ∧ s.sys.devTime < a + 600000000) →
      Answers (.tablePour k) s (fun t => t = s)) ∧
  (∀ (d : Direction) (s : State),
      s.est.dir ≠ d ∧ s.est.flags.getLsbD 11 = false ∧ s.est.newQFull = none ∧ s.sys.inReset = false ∧ swf {} s.eic.src = true →
      Answers (.directionChange d) s (fun t => t.est.dir = d ∧ t.est.learn = (if d = .charge then none else s.est.learn) ∧ Latched 168 s t ∧
          t.est.caddy = s.est.caddy ∧ t.est.soc = s.est.soc ∧ t.chg = s.chg ∧ t.path = s.path ∧ t.store = s.store)) ∧
  (∀ (s : State),
      s.est.flags.getLsbD 11 = true ∧ s.est.dir = .charge ∧ s.sys.inReset = false →
      Answers (.directionChange .discharge) s (fun t => t.est.dir = .discharge ∧ t.est.flags = s.est.flags &&& ~~~0x800#32 ∧
          Posted 0x5006 0 s t ∧ (t.est.learn.map (fun r => r.soc0)) = some 10000 ∧ t.chg = s.chg)) ∧
  (∀ (s : State),
      Answers (.directionChange s.est.dir) s (fun t => t = s)) ∧
  (∀ (q : Nat) (s : State),
      let c := s.est.caddy
      s.est.newQFull = some q ∧ s.est.dir ≠ .discharge ∧ s.est.newU = none ∧ lostPages 111 64 s = 0 →
      Answers .qfullApply s (fun t => t.est.qFull = some q ∧ t.est.newQFull = none ∧ t.est.learnCount = s.est.learnCount + 1 ∧
          t.est.sigC = 200 ∧ t.est.caddy = c ∧ t.store.nvm.caddy.next = s.store.nvm.caddy.next + 1 ∧ (∃ e,
          t.store.nvm.caddy.entries.getLast? = some e ∧ e.getD 0 0 = w32 (s.store.nvm.caddy.next.toNat * 65536 + 0x16) ∧ e.getD 1 0 = 0 ∧
          e.getD 2 0 = 0) ∧ t.store.nvm.learnedDirty = true ∧ t.est.flags = s.est.flags &&& ~~~2#32 ∧ t.chg = s.chg ∧ t.path = s.path)) ∧
  (∀ (s : State),
      s.est.newQFull = none ∨ s.est.dir = .discharge →
      Answers .qfullApply s (fun t => t = s))

/-- A step large, fast and steady enough in SOURCE or BATTERY opens a capture and latches its source; a smaller or slower one does not. A
  fit within 1 % of the response plus 0.5 mV and without a gap is posted and counted, its elements stand, a first caddy is made; a
  rejected one changes only the capture. A probe starts with the amplitude of the state, in BATTERY on the hold, or is blocked with
  EST.FLAGS bit 2; its end opens the capture, releasing the hold leaves the step, and a cancel discards it unless the load change is
  within the amplitude. Where a clause needs a reading of the manual or a choice, it is the model's: log entries 4, 21. [derived: R240;
  R241; R242; R243; R244; R245; R246; R251; R471] -/
def Obligations.FitsAndProbes : Prop :=
  (∀ (m : StepMeasure) (s : State),
      let d := (m.after - m.before).natAbs
      shRuns 4 s = true ∧ s.chg.st ≠ .batteryAbsent ∧ (s.path.link = .source ∨ s.path.link = .battery) →
      pn Pid.EST_PROBE_MIN_MA s ≤ d ∧ 2 * m.before.natAbs ≤ 100 * d ∧ 2 * m.after.natAbs ≤ 100 * d ∧ m.riseUs ≤ 1000 →
      100 * (m.before - m.preLo) ≤ m.before.natAbs + 5000 ∧ 100 * (m.preHi - m.before) ≤ m.before.natAbs + 5000 →
      100 * (m.after - m.postLo) ≤ m.after.natAbs + 5000 ∧ 100 * (m.postHi - m.after) ≤ m.after.natAbs + 5000 →
      s.sys.inReset = false ∧ swf {} s.eic.src = true ∧ s.sys.power ≠ .doze →
      s.est.flags.getLsbD 5 = true ∨ ((readRs (socInt s) (batTemp s) s).mul ⟨10 * d, 1000⟩).lt (Frac.ofInt m.jumpUv) = false →
      Answers (.naturalStep m) s (fun t => t.est.stepHeld = true ∧ Latched 169 s t ∧ t.est = { s.est with stepHeld := true } ∧
          t.chg = s.chg ∧ t.path = s.path ∧ t.store = s.store)) ∧
  (∀ (m : StepMeasure) (s : State),
      let d := (m.after - m.before).natAbs
      shRuns 4 s = true ∧ s.chg.st = .off ∧ s.path.link = .battery ∧ m.riseUs ≤ 1000 ∧ s.sys.inReset = false ∧ s.sys.power ≠ .doze →
      pn Pid.EST_PROBE_MIN_MA s ≤ d ∧ 2 * m.before.natAbs ≤ 100 * d ∧ 2 * m.after.natAbs ≤ 100 * d →
      m.preLo = m.before ∧ m.preHi = m.before ∧ m.postLo = m.after ∧ m.postHi = m.after →
      s.est.flags.getLsbD 5 = false ∧ ((readRs (socInt s) (batTemp s) s).mul ⟨10 * d, 1000⟩).lt (Frac.ofInt m.jumpUv) = true →
      Answers (.naturalStep m) s (fun t => t.est.stepHeld = true ∧ t.est.flags = s.est.flags ||| 0x20 ∧ Delivered 0x161 0x11 0 s t)) ∧
  (∀ (m : StepMeasure) (s : State),
      let d := (m.after - m.before).natAbs
      shRuns 4 s = false ∨ s.chg.st = .batteryAbsent ∨ d < pn Pid.EST_PROBE_MIN_MA s ∨ 1000 < m.riseUs ∨ 100 * d < 2 * m.after.natAbs ∨
          m.before.natAbs + 5000 < 100 * (m.before - m.preLo) ∨ s.sys.power = .doze →
      Answers (.naturalStep m) s (fun t => t = s)) ∧
  (∀ (f : FitMeasure) (s : State),
      shRuns 4 s = true ∧ s.est.stepHeld = true ∧ f.gap = false ∧ 100 * f.residualUv ≤ f.responseUv + 50000 →
      pn Pid.EST_MODE s = 1 ∧ batTemp s = none ∧ rsOut f.rs s = false →
      (∀ p, s.est.probe = some p → p.ended = false) ∨ jumpBad f.jumpUv f.stepMa s = false →
      Answers (.fitComplete f) s (fun t => t.est.fit = ⟨f.rs, f.rct, f.cdl, f.rdif, f.cdif, f.residualUv⟩ ∧ t.est.fitAt = s.sys.devTime ∧
          t.est.fits = min 4294967295 (s.est.fits + 1) ∧ t.est.stepHeld = false ∧ t.est.badRs = 0 ∧ t.est.ocvConf = true ∧
          t.est.flags = s.est.flags &&& ~~~0x20#32 ∧ t.est.caddy = s.est.caddy ∧ t.chg = s.chg ∧ t.path = s.path ∧ t.store = s.store)) ∧
  (∀ (f : FitMeasure) (s : State),
      shRuns 4 s = true ∧ s.est.stepHeld = true ∧ f.gap = false ∧ 100 * f.residualUv ≤ f.responseUv + 50000 →
      rsOut f.rs s = false ∧ s.chg.st = .off →
      Answers (.fitComplete f) s (fun t => t.est.fit = ⟨f.rs, f.rct, f.cdl, f.rdif, f.cdif, f.residualUv⟩ ∧ t.est.fitAt = s.sys.devTime ∧
          t.est.fits = min 4294967295 (s.est.fits + 1) ∧ t.est.stepHeld = false ∧ t.est.badRs = 0 ∧ t.est.ocvConf = true ∧
          t.est.flags.getLsbD 5 = false ∧ (pn Pid.EST_MODE s = 0 → t.est.caddy.valid = true) ∧ t.path = s.path ∧ t.pwr.vr = s.pwr.vr ∧
          t.pwr.ldo = s.pwr.ldo ∧ t.pwr.en = s.pwr.en)) ∧
  (∀ (f : FitMeasure) (s : State),
      shRuns 4 s = true ∧ s.est.stepHeld = true ∧ (f.gap = true ∨ f.responseUv + 50000 < 100 * f.residualUv) →
      (∀ p, s.est.probe = some p → p.ended = false) ∨ jumpBad f.jumpUv f.stepMa s = false →
      Answers (.fitComplete f) s (fun t => t.est = { s.est with stepHeld := false, probe := s.est.probe.filter (fun p => !p.ended) } ∧
          t.chg = s.chg ∧ t.path = s.path ∧ t.store = s.store)) ∧
  (∀ (f : FitMeasure) (p : ProbeRun) (s : State),
      shRuns 4 s = true ∧ s.est.stepHeld = true ∧ f.gap = true ∧ s.chg.st = .off ∧ s.sys.inReset = false →
      s.est.probe = some p ∧ p.ended = true ∧ s.est.flags.getLsbD 5 = false →
      ((readRs (socInt s) (batTemp s) s).mul ⟨10 * f.stepMa, 1000⟩).lt (Frac.ofInt f.jumpUv) = true →
      Answers (.fitComplete f) s (fun t => t.est.stepHeld = false ∧ t.est.probe = none ∧ t.est.fit = s.est.fit ∧
          t.est.flags = s.est.flags ||| 0x20 ∧ Delivered 0x161 0x11 0 s t)) ∧
  (∀ (f : FitMeasure) (s : State),
      shRuns 4 s = false ∨ s.est.stepHeld = false →
      Answers (.fitComplete f) s (fun t => t = s)) ∧
  (∀ (i : Int) (s : State),
      let sag := tquotN (pn Pid.EST_C_LINK_UF s * pn Pid.EST_PROBE_SAG_MV s) 10000
      let min_ := pn Pid.EST_PROBE_MIN_MA s
      let pr : ProbeRun := ⟨min (max (rdivN (i.natAbs * pn Pid.EST_PROBE_PCT s) 100) min_) sag, .dischargeLess, true, false⟩
      pb Pid.EST_PROBE_EN s = true ∧ pn Pid.EST_MODE s ≠ 1 ∧ shRuns 1 s = true ∧ shRuns 4 s = true ∧ s.est.probe = none →
      s.heddle.safeHold = false ∧ s.sys.service = .full ∧ s.chg.st ≠ .batteryAbsent ∧ s.path.link = .battery →
      Answers (.probeDue i) s (fun t => (100 * sag < 100 * min_ ∨ 100 * sag < 2 * i.natAbs →
          t.est = { s.est with flags := s.est.flags ||| 4 }) ∧ (100 * min_ ≤ 100 * sag → 2 * i.natAbs ≤ 100 * sag →
          t.est = { s.est with flags := s.est.flags &&& ~~~4#32, probe := some pr }) ∧ t.chg.st = s.chg.st ∧ t.path = s.path ∧ t.store = s.store)) ∧
  (∀ (i : Int) (s : State),
      let up_ := max (rdivN (i.natAbs * pn Pid.EST_PROBE_PCT s) 100) (pn Pid.EST_PROBE_MIN_MA s)
      let pr : ProbeRun := ⟨if up_ ≤ i.natAbs then up_ else min up_ (pn Pid.CHG_I_CC_MA s - i.natAbs),
        if up_ ≤ i.natAbs then .chargeLess else .chargeMore, false, false⟩
      pb Pid.EST_PROBE_EN s = true ∧ pn Pid.EST_MODE s ≠ 1 ∧ shRuns 1 s = true ∧ shRuns 4 s = true ∧ s.est.probe = none →
      s.heddle.safeHold = false ∧ s.sys.service = .full ∧ s.path.link = .source ∧ s.path.supplement = false →
      s.chg.st.charging = true ∧ s.chg.pwm = true ∧ 0 < i →
      Answers (.probeDue i) s (fun t => t.est = { s.est with flags := s.est.flags &&& ~~~4#32, probe := some pr } ∧ t.chg.st = s.chg.st ∧
          t.path = s.path ∧ t.store = s.store)) ∧
  (∀ (i : Int) (s : State),
      pb Pid.EST_PROBE_EN s = false ∨ pn Pid.EST_MODE s = 1 ∨ shRuns 1 s = false ∨ s.est.probe ≠ none →
      Answers (.probeDue i) s (fun t => t = s)) ∧
  (∀ (i : Int) (s : State),
      s.heddle.safeHold = true ∨ s.sys.service ≠ .full ∨ s.chg.st = .batteryAbsent ∨ s.path.link = .handover ∨ s.path.link = .return →
      Answers (.probeDue i) s (fun t => t.est = s.est ∧ t.chg = s.chg ∧ t.path = s.path ∧ t.store = s.store)) ∧
  (∀ (p : ProbeRun) (s : State),
      s.est.probe = some p ∧ p.ended = false →
      Answers .probeStepEnd s (fun t => t = { s with
            chg := t.chg
            est := { s.est with probe := some { p with ended := true, hold := false }, stepHeld := true } } ∧ t.chg.st = s.chg.st ∧
          (s.chg.st = .off → disDemand s = false → t.chg.pwm = false))) ∧
  (∀ (s : State),
      s.est.probe = none →
      Answers .probeStepEnd s (fun t => t = s)) ∧
  (∀ (p : ProbeRun) (why : HoldRelease) (s : State),
      s.est.probe = some p ∧ p.hold = true ∧ s.sys.inReset = false ∧ swf {} s.eic.src = true →
      Answers (.probeHoldRelease why) s (fun t => t.est = { s.est with probe := some { p with hold := false } } ∧ Latched 138 s t ∧
          t.chg = s.chg ∧ t.path = s.path ∧ t.store = s.store)) ∧
  (∀ (why : HoldRelease) (s : State),
      (∀ p, s.est.probe = some p → p.hold = false) →
      Answers (.probeHoldRelease why) s (fun t => t = s)) ∧
  (∀ (p : ProbeRun) (why : ProbeCancel) (s : State),
      s.est.probe = some p ∧ p.ended = false →
      Answers (.probeCancel why) s (fun t => t = (match why with
        | .loadChange ma => if p.ma < ma then { s with chg := t.chg, est := { s.est with probe := none } } else s
        | .stateChange => { s with chg := t.chg, est := { s.est with probe := none } }
        | .dischargeDemand => { s with chg := t.chg, est := { s.est with probe := none } }) ∧ t.chg.st = s.chg.st)) ∧
  (∀ (why : ProbeCancel) (s : State),
      s.est.probe = none →
      Answers (.probeCancel why) s (fun t => t = s))

/-- While CMD serves, the second's update takes the load into its average, and in DISCHARGE below CUTOFF and FULL the reported SoC and
  floor fraction never rise and SoC moves by at most 1.00 %; EARLY, LOW and CRITICAL follow EST.FLOOR_S and their hysteresis, and flag 12
  the battery temperature; while it does not serve, only time moves. CUTOFF sets at or below V_CUT * cells in DISCHARGE: the reports go
  to 0 and BAT_CUTOFF is posted; EST.CUT_ACT is carried out at once, or withheld while a source is in window and dropped if the link
  reached SOURCE. It clears with its event. Where a clause needs a reading of the manual or a choice, it is the model's: log entries 4,
  12, 39. [derived: R253; R255; R256; R257; R258; R259; R267] -/
def Obligations.ReportsLevelsAndCutoff : Prop :=
  (∀ (r : LoadReading) (s : State),
      s.sys.service ≠ .full ∨ s.heddle.safeHold = true →
      Answers (.estSecondUpdate r) s (fun t => t.sys.devTime % 1000000 = 0 ∧ s.sys.devTime ≤ t.sys.devTime ∧
          t = { s with sys := { s.sys with devTime := t.sys.devTime, ticks := t.sys.ticks } })) ∧
  (∀ (r : LoadReading) (s : State),
      let n := max 1 (pn Pid.EST_LOAD_AVG_S s)
      let ma := if s.path.link = .source then rdivN (1000 * (r.srcMw - r.convMw)) r.vbat else (-r.iBat).toNat
      let l := newest n (s.est.loads ++ [ma])
      s.sys.service = .full ∧ s.heddle.safeHold = false ∧ s.est.test = none ∧ s.sys.inReset = false →
      s.path.link ≠ .source ∨ r.vbat ≠ 0 →
      Answers (.estSecondUpdate r) s (fun t => t.sys.devTime % 1000000 = 0 ∧ t.est.loads = l ∧ t.est.iLoad = rdivN l.sum l.length ∧
          t.est.flags.getLsbD 12 = (batTemp s).isNone ∧ (t.est.floorS < pn Pid.EST_WARN_EARLY_MIN s * 60 → t.est.flags.getLsbD 6 = true) ∧
          (pn Pid.EST_WARN_EARLY_MIN s * 60 + pn Pid.EST_WARN_HYST_MIN s * 60 ≤ t.est.floorS → t.est.flags.getLsbD 6 = false) ∧
          (t.est.floorS < pn Pid.EST_WARN_LOW_MIN s * 60 → t.est.flags.getLsbD 7 = true) ∧ (pn Pid.EST_WARN_LOW_MIN s * 60 +
          pn Pid.EST_WARN_HYST_MIN s * 60 ≤ t.est.floorS → t.est.flags.getLsbD 7 = false) ∧
          (t.est.floorS < pn Pid.EST_WARN_CRIT_MIN s * 60 → t.est.flags.getLsbD 8 = true) ∧ (pn Pid.EST_WARN_CRIT_MIN s * 60 +
          pn Pid.EST_WARN_HYST_MIN s * 60 ≤ t.est.floorS → t.est.flags.getLsbD 8 = false) ∧ t.path = s.path ∧ t.chg = s.chg ∧
          t.pwr.vr = s.pwr.vr ∧ t.pwr.ldo = s.pwr.ldo ∧ t.pwr.en = s.pwr.en)) ∧
  (∀ (r : LoadReading) (s : State),
      s.sys.service = .full ∧ s.heddle.safeHold = false ∧ s.est.test = none ∧ s.sys.inReset = false →
      s.est.dir = .discharge ∧ s.est.flags.getLsbD 9 = false ∧ s.est.flags.getLsbD 11 = false →
      Answers (.estSecondUpdate r) s (fun t => t.est.soc ≤ s.est.soc ∧ s.est.soc ≤ t.est.soc + 100 ∧ t.est.fPres ≤ s.est.fPres ∧
          t.est.fRated ≤ s.est.fRated ∧ t.est.dir = .discharge)) ∧
  (∀ (v : Nat) (s : State),
      s.est.flags.getLsbD 9 = true ∨ s.est.dir ≠ .discharge ∨ vCut s * cells s < v →
      Answers (.cutoffSet v) s (fun t => t = { s with path := { s.path with vbat := v } })) ∧
  (∀ (v : Nat) (s : State),
      s.est.flags.getLsbD 9 = false ∧ s.est.dir = .discharge ∧ v ≤ vCut s * cells s ∧ s.est.test = none ∧ s.sys.inReset = false →
      Answers (.cutoffSet v) s (fun t => t.est.flags.getLsbD 9 = true ∧ Posted 0x5004 0x80000000 s t ∧ t.est.soc = 0 ∧ t.est.fPres = 0 ∧
          t.est.fRated = 0 ∧ t.est.floorS = 0 ∧ t.est.floorRatedS = 0 ∧ t.est.socQ = 0 ∧ t.path.vbat = v ∧ t.path.suppMa = 0 ∧
          t.path.supplement = false ∧ (pn Pid.EST_CUT_ACT s = 0 → t.est.cutDown = s.est.cutDown ∧ t.est.withheld = s.est.withheld ∧
          ∀ g : Fin 8, t.pwr.grp[g].st = s.pwr.grp[g].st) ∧ (pn Pid.EST_CUT_ACT s ≠ 0 → (∃ i : Fin 4, (srcAt i s).inWin = true) →
          t.est.withheld = some s.sys.devTime ∧ t.est.cutDown = s.est.cutDown) ∧ (pn Pid.EST_CUT_ACT s ≠ 0 → (∀ i : Fin 4,
          (srcAt i s).inWin = false) → t.est.withheld = none ∧ t.est.cutDown = some (if pn Pid.EST_CUT_ACT s = 2 then .ship else
          .deepSleep)) ∧ t.pwr.vr = s.pwr.vr ∧ t.pwr.ldo = s.pwr.ldo)) ∧
  (∀ (s : State),
      s.est.flags.getLsbD 9 = true ∧ s.sys.inReset = false →
      Answers .cutoffClear s (fun t => t.est.flags.getLsbD 9 = false ∧ Posted 0x5004 0 s t ∧ t.est.caddy = s.est.caddy ∧
          t.est.soc = s.est.soc ∧ t.path.dca = s.path.dca ∧ t.path.link = s.path.link ∧ t.pwr.vr = s.pwr.vr)) ∧
  (∀ (s : State),
      s.est.withheld.isSome = true →
      s.path.link = .source ∨ s.est.flags.getLsbD 9 = false →
      Answers .cutoffWithholdExpiry s (fun t => t = { s with est := { s.est with withheld := none } })) ∧
  (∀ (s : State),
      s.est.withheld.isSome = true ∧ s.path.link ≠ .source ∧ s.est.flags.getLsbD 9 = true →
      (∀ g : Fin 8, s.pwr.grp[g].st = .down) ∧ s.pwr.allDown = [] ∧ s.pwr.allDownDone = [] ∧ s.pwr.allDownCmds = [] →
      Answers .cutoffWithholdExpiry s (fun t => t = { s with
            est := { s.est with withheld := none, cutDown := some (if pn Pid.EST_CUT_ACT s = 2 then .ship else .deepSleep) } })) ∧
  (∀ (s : State),
      s.est.withheld = none →
      Answers .cutoffWithholdExpiry s (fun t => t = s))

/-- TEST_START with a type other than 1 and 2 completes OUT_OF_RANGE, with a condition of R264 not held WRONG_STATE with its code, the
  lowest first; else the sources are held, EST.FLAGS bit 14 is set, TEST_START is posted, a duration test enters TEST, and the command is
  DONE with the SEQ of the coming entry. TEST_ABORT without a test completes WRONG_STATE; it and TEST_END log one entry with result ABORTED
  or PASS, clear bit 14, post TEST_RESULT with the entry's SEQ and end TEST of a duration test. A test that is due starts; one that cannot
  is postponed with its log entry, and refused with TEST_REFUSED after EST.POSTPONE_D in a row. Where a clause needs a reading of the manual
  or a choice, it is the model's: log entries 9, 20. [derived: R263; R264; R266; R267; R268; R270; log entry 3] -/
def Obligations.BatteryTests : Prop :=
  (∀ (p : Port) (tag : Tag) (x : Slot) (s : State),
      Admitted 0x510 p tag x s →
      CqRoom p s →
      bitsOf (x.word 1) 0 2 = 0 ∨ bitsOf (x.word 1) 0 2 = 3 →
      Answers (.testStart p tag) s (fun t => CompletionOnly p s t ∧ CompletedWith p x 0x14 [0] s t)) ∧
  (∀ (p : Port) (tag : Tag) (x : Slot) (s : State),
      let r := if s.path.link ≠ .source then 0x01 else if s.sys.mode ≠ .normal ∨ s.sys.service ≠ .full ∨ s.heddle.safeHold = true then 0x03 else if s.est.flags &&& 0x3C0 ≠ 0 then 0x04 else if ∃ z : Fin 9, s.therm.zone[z].throt = true ∨ s.therm.zone[z].shut = true then 0x05 else if s.est.test.isSome = true then 0x06 else if s.chg.st = .batteryAbsent ∨ s.chg.st = .suspended then 0x07 else if ∃ g : Fin 8, groupEn g s = true ∧ groupAuto g s = true ∧ s.pwr.grp[g].st ≠ .up then 0x08 else 0
      Admitted 0x510 p tag x s →
      CqRoom p s →
      bitsOf (x.word 1) 0 2 = 1 ∨ (bitsOf (x.word 1) 0 2 = 2 ∧ ((x.word 1).getLsbD 8 = true ∨ rechargeOk s = true)) →
      r ≠ 0 →
      Answers (.testStart p tag) s (fun t => CompletionOnly p s t ∧ CompletedWith p x 0x17 [w32 r] s t)) ∧
  (∀ (p : Port) (tag : Tag) (x : Slot) (s : State),
      Admitted 0x510 p tag x s →
      CqRoom p s →
      bitsOf (x.word 1) 0 2 = 2 ∧ (x.word 1).getLsbD 8 = false ∧ rechargeOk s = false ∧ s.path.link = .source →
      Answers (.testStart p tag) s (fun t => CompletionOnly p s t ∧ CompletedWith p x 0x17 [2] s t)) ∧
  (∀ (p : Port) (tag : Tag) (x : Slot) (s : State),
      let k : TestKind := if bitsOf (x.word 1) 0 2 = 1 then .function else .duration
      Admitted 0x510 p tag x s →
      CqRoom p s →
      bitsOf (x.word 1) 0 2 = 1 ∨ bitsOf (x.word 1) 0 2 = 2 →
      testRefusal k ((x.word 1).getLsbD 8) s = 0 ∧ s.sys.inReset = false →
      Answers (.testStart p tag) s (fun t => Completed p x 0x00 s t ∧
          cqWord p (s.hif.port p).cqTail 4 t = (s.store.nvm.test.next).setWidth 32 ∧ t.est.flags = s.est.flags ||| 0x4000 ∧
          t.est.test.map (fun r => (r.kind, r.forced, r.manual, r.mainsLost)) = some (k, (x.word 1).getLsbD 8, (x.word 1).getLsbD 8,
          false) ∧ Posted 0x5009 0 s t ∧ t.sys.mode = (if k = .duration then .test else .normal) ∧ (∀ i : Fin 4,
          (srcAt i t).st = .qualifying ∨ (srcAt i t).st = .quarantined ∨ (srcAt i t).st = .disabled) ∧ (∀ i : Fin 4,
          (srcAt i t).st = .qualifying → (srcAt i t).gate = false) ∧ t.store = s.store ∧ t.est.caddy = s.est.caddy)) ∧
  (∀ (p : Port) (tag : Tag) (x : Slot) (s : State),
      Admitted 0x511 p tag x s →
      CqRoom p s →
      s.est.test = none →
      Answers (.testAbort p tag) s (fun t => CompletionOnly p s t ∧ CompletedWith p x 0x17 [0] s t)) ∧
  (∀ (p : Port) (tag : Tag) (x : Slot) (r : RunTest) (s : State),
      let n := s.store.nvm.test.next
      Admitted 0x511 p tag x s →
      CqRoom p s →
      s.est.test = some r ∧ s.sys.inReset = false →
      Answers (.testAbort p tag) s (fun t => Completed p x 0x00 s t ∧ t.est.test = none ∧ t.est.flags = s.est.flags &&& ~~~0x4000#32 ∧
          Posted 0x500A (n.setWidth 32) s t ∧ t.store.nvm.test.next = n + 1 ∧ (r.kind = .function → t.sys.mode = s.sys.mode) ∧ (r.kind = .duration → t.sys.mode ≠ .test) ∧
          ((t.store.nvm.test.entries.getLast?.getD []).getD 0 0) = w32 (n.toNat * 65536 + (if r.kind = .function then 0x1000 else 0x2000) + 0x230 + (if r.forced = true then 1 else 0) +
          (if r.mainsLost = true then 2 else 0) + (if r.manual = true then 4 else 0)) ∧ t.est.caddy = s.est.caddy)) ∧
  (∀ (r : RunTest) (s : State),
      let n := s.store.nvm.test.next
      s.est.test = some r ∧ r.kind = .duration ∧ s.sys.mode = .test ∧ s.sys.inReset = false →
      lostPages 79 32 s = 0 →
      Answers .testEnd s (fun t => t.est.test = none ∧ t.est.flags = s.est.flags &&& ~~~0x4000#32 ∧ t.sys.mode = .normal ∧
          Posted 0x500A (n.setWidth 32) s t ∧ Posted 0x0001 0x21 s t ∧ t.store.nvm.test.next = n + 1 ∧
          ((t.store.nvm.test.entries.getLast?.getD []).getD 0 0) = w32 (n.toNat * 65536 + 0x2000 + (if r.forced = true then 1 else 0) +
          (if r.mainsLost = true then 2 else 0) + (if r.manual = true then 4 else 0)) ∧ t.est.caddy = s.est.caddy ∧ t.pwr.ldo = s.pwr.ldo)) ∧
  (∀ (s : State),
      s.est.test = none →
      Answers .testEnd s (fun t => t = s)) ∧
  (∀ (s : State),
      let c := s.store.rtc.cal
      pb Pid.EST_FT_EN s = true ∧ pb Pid.EST_DT_EN s = false →
      testRefusal .function false s = 0 ∧ s.sys.inReset = false →
      Answers (.testDue .function) s (fun t => t.est.postFt = 0 ∧ t.est.flags = s.est.flags ||| 0x4000 ∧ Posted 0x5009 0 s t ∧
          t.est.test.map (fun r => (r.kind, r.forced, r.manual)) = some (.function, false, false) ∧ t.est.caddy = s.est.caddy ∧
          t.store.nvm = s.store.nvm ∧ t.pwr.ldo = s.pwr.ldo)) ∧
  (∀ (s : State),
      let n := s.store.nvm.test.next
      let r := testRefusal .function false s
      pb Pid.EST_FT_EN s = true ∧ pb Pid.EST_DT_EN s = false ∧ r ≠ 0 ∧ lostPages 79 32 s = 0 ∧ s.sys.inReset = false →
      Answers (.testDue .function) s (fun t => t.est.test = s.est.test ∧ t.est.flags = s.est.flags ∧ t.store.nvm.test.next = n + 1 ∧
          t.est.postFt = (if s.est.postFt < pn Pid.EST_POSTPONE_D s then s.est.postFt + 1 else 0) ∧
          ((t.store.nvm.test.entries.getLast?.getD []).getD 0 0) = w32 (n.toNat * 65536 + 0x1000 +
          (if s.est.postFt < pn Pid.EST_POSTPONE_D s then 0x400 else 0x500) + 16 * r) ∧ (pn Pid.EST_POSTPONE_D s ≤ s.est.postFt →
          Raised 0x500B 0 s t) ∧ (s.est.postFt < pn Pid.EST_POSTPONE_D s → t.hif = s.hif) ∧ t.path = s.path ∧ t.pwr = s.pwr ∧ t.chg = s.chg)) ∧
  (∀ (s : State),
      pb Pid.EST_FT_EN s = false →
      Answers (.testDue .function) s (fun t => t = s)) ∧
  (∀ (s : State),
      pb Pid.EST_DT_EN s = false →
      Answers (.testDue .duration) s (fun t => t = { s with est := { s.est with dtDay := some s.store.rtc.cal.dayNo } })) ∧
  (∀ (r : RunTest) (s : State),
      let n := s.store.nvm.test.next
      s.est.test = some r ∧ r.kind = .function ∧ s.sys.inReset = false →
      lostPages 79 32 s = 0 →
      Answers .testEnd s (fun t => t.est.test = none ∧ t.est.flags = s.est.flags &&& ~~~0x4000#32 ∧ t.sys = s.sys ∧
          Posted 0x500A (n.setWidth 32) s t ∧ t.store.nvm.test.next = n + 1 ∧
          ((t.store.nvm.test.entries.getLast?.getD []).getD 0 0) = w32 (n.toNat * 65536 + 0x1000 + (if r.forced = true then 1 else 0) +
          (if r.mainsLost = true then 2 else 0) + (if r.manual = true then 4 else 0)) ∧ t.est.caddy = s.est.caddy ∧ t.pwr = s.pwr)) ∧
  (∀ (s : State),
      pb Pid.EST_DT_EN s = true →
      testRefusal .duration false s = 0 ∧ s.sys.inReset = false →
      Answers (.testDue .duration) s (fun t => t.est.postDt = 0 ∧ t.est.dtDay = some s.store.rtc.cal.dayNo ∧
          t.est.flags = s.est.flags ||| 0x4000 ∧ Posted 0x5009 0 s t ∧
          t.est.test.map (fun r => (r.kind, r.forced, r.manual)) = some (.duration, false, false) ∧ t.est.caddy = s.est.caddy ∧
          t.store.nvm = s.store.nvm)) ∧
  (∀ (s : State),
      let n := s.store.nvm.test.next
      let s0 := { s with est := { s.est with dtDay := some s.store.rtc.cal.dayNo } }
      let r := testRefusal .duration false s0
      pb Pid.EST_DT_EN s = true ∧ r ≠ 0 ∧ lostPages 79 32 s = 0 ∧ s.sys.inReset = false →
      Answers (.testDue .duration) s (fun t => t.est.test = s.est.test ∧ t.est.flags = s.est.flags ∧ t.store.nvm.test.next = n + 1 ∧
          t.est.postDt = (if s.est.postDt < pn Pid.EST_POSTPONE_D s then s.est.postDt + 1 else 0) ∧
          ((t.store.nvm.test.entries.getLast?.getD []).getD 0 0) = w32 (n.toNat * 65536 + 0x2000 +
          (if s.est.postDt < pn Pid.EST_POSTPONE_D s then 0x400 else 0x500) + 16 * r) ∧ t.path = s.path ∧ t.pwr = s.pwr ∧ t.chg = s.chg))

/-- CAPTURE_ARM refuses a malformed descriptor, one the pool cannot hold, one that breaks R280 and, while another slot holds a slice or in
  Safe Hold, any; else it arms the slot and returns slot, bytes and first SEQ. CAPTURE_DISARM frees an armed slot; CAPTURE_STATUS and
  CAPTURE_READ return their words; ACQ_TRIGGER starts the armed slots of kind 3 and ends, or waits for them; ACQ_READ returns the round's
  results, marks missing ones and refuses unknown codes. A timer or a comparator starts an armed record whose slices are free, waits or is
  counted while one runs; a trip latches its source and disarms until re-armed. A full record, of one input or of two, completes its slot
  with CAPTURE_DONE; one cut by the FIFO ends TRUNCATED with its pick. Where a clause needs a reading of the manual or a choice, it is the
  model's: log entries 9, 27. [derived: R277; R278; R281; R282; R283; R284; R294; R295; R296; R297; R380; log entry 3] -/
def Obligations.Captures : Prop :=
  (∀ (p : Port) (tag : Tag) (x : Slot) (s : State),
      let d := parseDesc x
      Admitted 0x601 p tag x s →
      CqRoom p s →
      d.mode = 3 ∨ d.dec = 0 ∨ 4096 < d.dec ∨ d.inputs = [] ∨ d.n ≤ d.pre ∨ (d.mode = 2 ∧ d.pre ≠ 0) ∨
          d.inputs.length ≠ d.inputSlices.length →
      Answers (.captureArm p tag) s (fun t => CompletionOnly p s t ∧ CompletedWith p x 0x14 [1] s t)) ∧
  (∀ (k : Fin 8) (p : Port) (tag : Tag) (x : Slot) (s : State),
      let d := parseDesc x
      let bytes := (d.rearms + 1) * d.inputs.length * (64 * (1 + (d.n + 31) / 32))
      Admitted 0x601 p tag x s →
      CqRoom p s →
      d.malformed = false ∧ (x.word 1).toNat % 8 = k.val ∧ poolFree k.val s < bytes →
      Answers (.captureArm p tag) s (fun t => CompletionOnly p s t ∧ CompletedWith p x 0x14 [2, w32 (poolFree k.val s)] s t)) ∧
  (∀ (k : Fin 8) (p : Port) (tag : Tag) (x : Slot) (s : State),
      let d := parseDesc x
      let bytes := (d.rearms + 1) * d.inputs.length * (64 * (1 + (d.n + 31) / 32))
      Admitted 0x601 p tag x s →
      CqRoom p s →
      d.malformed = false ∧ (x.word 1).toNat % 8 = k.val ∧ bytes ≤ poolFree k.val s →
      d.mode = 0 ∧ d.urgent = false ∧ d.slices &&& protectedMask s ≠ 0 →
      Answers (.captureArm p tag) s (fun t => CompletionOnly p s t ∧ CompletedWith p x 0x14 [3] s t)) ∧
  (∀ (k : Fin 8) (p : Port) (tag : Tag) (x : Slot) (s : State),
      let d := parseDesc x
      let bytes := (d.rearms + 1) * d.inputs.length * (64 * (1 + (d.n + 31) / 32))
      Admitted 0x601 p tag x s →
      CqRoom p s →
      d.malformed = false ∧ (x.word 1).toNat % 8 = k.val ∧ bytes ≤ poolFree k.val s ∧ breaksR280 d s = false →
      s.heddle.safeHold = true →
      Answers (.captureArm p tag) s (fun t => CompletionOnly p s t ∧ CompletedWith p x 0x17 [0] s t)) ∧
  (∀ (k : Fin 8) (p : Port) (tag : Tag) (x : Slot) (s : State),
      let d := parseDesc x
      let bytes := (d.rearms + 1) * d.inputs.length * (64 * (1 + (d.n + 31) / 32))
      let y := s.acq.slot[k]
      Admitted 0x601 p tag x s →
      CqRoom p s →
      d.malformed = false ∧ (x.word 1).toNat % 8 = k.val ∧ bytes ≤ poolFree k.val s ∧ breaksR280 d s = false →
      s.heddle.safeHold = false ∧ s.sys.power = .run ∧ (∀ y ∈ s.hif.slots, y.op = 0x605 → y.status ≠ .running) →
      d.trig ≠ 0 ∧ d.pre = 0 ∧ (∀ j, j ≠ k → s.acq.slot[j].desc.all (fun e => e.pre == 0) = true) →
      Answers (.captureArm p tag) s (fun t => CompletedWith p x 0x00 [w32 k.val, w32 bytes, w32 y.seq.toNat] s t ∧
          t.acq.slot[k] = { st := .armed, desc := some d, left := d.rearms, seq := y.seq, bytes := bytes } ∧ (∀ j, j ≠ k →
          t.acq.slot[j] = s.acq.slot[j]) ∧ t = { s with hif := t.hif, acq := { s.acq with slot := t.acq.slot } })) ∧
  (∀ (k : Fin 8) (p : Port) (tag : Tag) (x : Slot) (s : State),
      let y := s.acq.slot[k]
      Admitted 0x602 p tag x s →
      CqRoom p s →
      (x.word 1).toNat % 8 = k.val ∧ (∀ y ∈ s.hif.slots, y.op = 0x605 → y.status ≠ .running) ∧ y.st ≠ .running →
      Answers (.captureDisarm p tag) s (fun t => CompletedWith p x 0x00 [] s t ∧ (∀ j, j ≠ k → t.acq.slot[j] = s.acq.slot[j]) ∧
          t.acq.slot[k] = (if y.st = .armed then { y with waiting := false, st := if y.recs = [] then .idle else .done } else y) ∧
          t = { s with hif := t.hif, acq := { s.acq with slot := t.acq.slot } })) ∧
  (∀ (k : Fin 8) (p : Port) (tag : Tag) (x : Slot) (d : CapDesc) (s : State),
      let y := s.acq.slot[k]
      Admitted 0x602 p tag x s →
      CqRoom p s →
      (x.word 1).toNat % 8 = k.val ∧ (∀ y ∈ s.hif.slots, y.op = 0x605 → y.status ≠ .running) ∧ y.st = .running ∧ s.sys.inReset = false →
      y.desc = some d ∧ d.inputs.length = d.inputSlices.length ∧ d.inputs ≠ [] →
      Answers (.captureDisarm p tag) s (fun t => Completed p x 0x00 s t ∧ t.acq.slot[k].st = .done ∧ t.acq.slot[k].seq = y.seq + BitVec.ofNat 16 d.inputs.length ∧
          t.acq.slot[k].recs.length = y.recs.length + d.inputs.length ∧
          (((t.acq.slot[k].recs.getLast?.map CapRec.hdr).getD []).getD 7 0).getLsbD 21 = true ∧ Posted 0x6001 0 s t ∧ (∀ j, j ≠ k →
          t.acq.slot[j] = s.acq.slot[j]) ∧ t.path = s.path)) ∧
  (∀ (k : Fin 8) (p : Port) (tag : Tag) (x : Slot) (s : State),
      let y := s.acq.slot[k]
      Admitted 0x603 p tag x s →
      CqRoom p s →
      (x.word 1).toNat % 8 = k.val ∧ y.recs ≠ [] →
      Answers (.captureStatus p tag) s (fun t => CompletionOnly p s t ∧ CompletedWith p x 0x00 [(match y.st with
        | .idle => 0
        | .armed => 1
        | .running => 2
        | .done => 3
        | .lost => 4), w32 y.count, w32 (y.seq - 1).toNat, w32 y.left, w32 y.ignored, w32 y.bytes] s t)) ∧
  (∀ (k : Fin 8) (p : Port) (tag : Tag) (x : Slot) (s : State),
      let y := s.acq.slot[k]
      Admitted 0x603 p tag x s →
      CqRoom p s →
      (x.word 1).toNat % 8 = k.val ∧ y.recs = [] →
      Answers (.captureStatus p tag) s (fun t => Completed p x 0x00 s t ∧ cqWord p (s.hif.port p).cqTail 5 t = w32 y.count ∧
          cqWord p (s.hif.port p).cqTail 7 t = w32 y.left ∧ cqWord p (s.hif.port p).cqTail 9 t = w32 y.bytes ∧
          t = { s with hif := t.hif, sys := { s.sys with free := s.sys.free + 1 } })) ∧
  (∀ (k : Fin 8) (i : Nat) (r : CapRec) (p : Port) (tag : Tag) (x : Slot) (s : State),
      let off := (x.word 2).toNat
      Admitted 0x604 p tag x s →
      CqRoom p s →
      (x.word 1).toNat % 8 = k.val ∧ (x.word 1).toNat / 256 % 256 = i ∧ s.acq.slot[k].recs[i]? = some r →
      Answers (.captureRead p tag) s (fun t => CompletionOnly p s t ∧ (off % 4 = 0 →
          CompletedWith p x 0x00 (((recWords r).drop (off / 4)).take 12) s t) ∧ (off % 4 ≠ 0 → CompletedWith p x 0x14 [1] s t))) ∧
  (∀ (k : Fin 8) (p : Port) (tag : Tag) (x : Slot) (s : State),
      Admitted 0x604 p tag x s →
      CqRoom p s →
      (x.word 1).toNat % 8 = k.val ∧ s.acq.slot[k].recs = [] →
      Answers (.captureRead p tag) s (fun t => CompletionOnly p s t ∧ CompletedWith p x 0x13 [0] s t)) ∧
  (∀ (p : Port) (tag : Tag) (x : Slot) (s : State),
      Admitted 0x605 p tag x s →
      CqRoom p s →
      (∀ y ∈ s.hif.slots, y.op = 0x605 → y.status ≠ .running) ∧ (∀ k : Fin 8, s.acq.slot[k].st ≠ .armed ∧ s.acq.slot[k].waiting = false) →
      Answers (.acqTrigger p tag) s (fun t => CompletionOnly p s t ∧ Completed p x 0x00 s t)) ∧
  (∀ (k : Fin 8) (d : CapDesc) (p : Port) (tag : Tag) (x : Slot) (s : State),
      Admitted 0x605 p tag x s →
      CqRoom p s →
      (∀ y ∈ s.hif.slots, y.op = 0x605 → y.status ≠ .running) ∧ x.payload = [w32 (2 ^ k.val)] ∧ s.acq.slot[k].st = .armed ∧ s.acq.slot[k].waiting = false ∧
          s.acq.slot[k].desc = some d →
      d.trig = 3 ∧ (∀ j, j ≠ k → s.acq.slot[j].st = .idle ∧ s.acq.slot[j].waiting = false) ∧ (s.acq.running = false ∨ overlap d.slices (roundMask s ||| protectedMask s) = false) ∧
          (s.acq.rings = false ∨ overlap d.slices (pn Pid.ACQ_RING_SLICES s) = false) →
      Answers (.acqTrigger p tag) s (fun t => (converting s = true → t.acq.slot[k].st = .running ∧ Completed p x 0x00 s t) ∧
          (converting s = false → t.acq.slot[k].st = .armed ∧ t.acq.slot[k].waiting = true ∧ t.acq.slot[k].delayed = true ∧
          RunsOn p tag x t) ∧ (∀ j, j ≠ k → t.acq.slot[j] = s.acq.slot[j]) ∧ t = { s with hif := t.hif, acq := t.acq })) ∧
  (∀ (i : Nat) (p : Port) (tag : Tag) (x : Slot) (s : State),
      let bad := fun (w : W) => 0x70 ≤ w.toNat % 256 ∨ (0x6C ≤ w.toNat % 256 ∧ w.getLsbD 8 = false)
      Admitted 0x610 p tag x s →
      CqRoom p s →
      i < x.payload.length ∧ bad (x.payload.getD i 0) ∧ (∀ j, j < i → ¬ bad (x.payload.getD j 0)) →
      Answers (.acqRead p tag) s (fun t => CompletionOnly p s t ∧ CompletedWith p x 0x14 [w32 i] s t)) ∧
  (∀ (p : Port) (tag : Tag) (x : Slot) (s : State),
      Admitted 0x610 p tag x s →
      CqRoom p s →
      x.payload ≠ [] ∧ x.payload.all (fun w => decide (w.toNat % 256 < 0x6C)) = true ∧ s.acq.roundValid = false →
      Answers (.acqRead p tag) s (fun t => CompletionOnly p s t ∧ CompletedWith p x 0x01 (x.payload.map (fun w =>
          if 0x58 ≤ w.toNat % 256 ∧ w.toNat % 256 ≤ 0x63 then 0x7FFF else 0x80000000)) s t)) ∧
  (∀ (p : Port) (tag : Tag) (x : Slot) (s : State),
      Admitted 0x610 p tag x s →
      CqRoom p s →
      s.acq.roundValid = true ∧ x.payload.all (fun w => decide (w.toNat % 256 < 0x70) && w.getLsbD 8 &&
          (sfind s.acq.table (w.toNat % 256)).isSome) = true →
      Answers (.acqRead p tag) s (fun t => CompletionOnly p s t ∧ CompletedWith p x 0x00 (x.payload.map (fun w =>
          (sfind s.acq.table (w.toNat % 256)).elim 0 (fun r => BitVec.ofInt 32 r.value.toInt))) s t)) ∧
  (∀ (p : Port) (tag : Tag) (x : Slot) (s : State),
      Admitted 0x610 p tag x s →
      CqRoom p s →
      s.acq.roundValid = true ∧ x.payload.all (fun w => decide (w.toNat % 256 < 0x58) && !w.getLsbD 8 &&
          (sfind s.acq.table (w.toNat % 256)).isSome) = true →
      Answers (.acqRead p tag) s (fun t => CompletionOnly p s t ∧ CompletedWith p x 0x00 (x.payload.map (fun w =>
          (sfind s.acq.table (w.toNat % 256)).elim 0 (fun r => BitVec.ofInt 32 (scaled (w.toNat % 256) r.value.toInt s)))) s t)) ∧
  (∀ (k : Fin 8) (d : CapDesc) (s : State),
      let y := s.acq.slot[k]
      y.waiting = true ∧ y.desc = some d ∧ converting s = true ∧ (s.acq.running = false ∨ overlap d.slices (roundMask s ||| protectedMask s) = false) ∧
          (s.acq.rings = false ∨ overlap d.slices (pn Pid.ACQ_RING_SLICES s) = false) ∧ (∀ y ∈ s.hif.slots, y.op = 0x605 → y.status ≠ .running) →
      (∀ j, j ≠ k → s.acq.slot[j].st = .idle ∧ s.acq.slot[j].waiting = false) →
      Answers (.sliceGrant k) s (fun t => t.acq.slot[k] = { y with
            st := .running, waiting := false, coefChanged := false, ver0 := s.acq.coefVer } ∧  (∀ j, j ≠ k →
          t.acq.slot[j] = s.acq.slot[j]) ∧ t = { s with acq := { s.acq with slot := t.acq.slot } })) ∧
  (∀ (k : Fin 8) (s : State),
      s.acq.slot[k].waiting = false ∨ converting s = false →
      Answers (.sliceGrant k) s (fun t => t = s)) ∧
  (∀ (n : Fin 4) (k : Fin 8) (d : CapDesc) (s : State),
      let y := s.acq.slot[k]
      acqRuns s = true ∧ y.desc = some d ∧ d.trig = 1 ∧ d.trigNo = n.val ∧ y.st = .running →
      (∀ j, j ≠ k → s.acq.slot[j].desc = none) →
      Answers (.acqTimerFire n) s (fun t => t.acq.slot[k] = { y with ignored := min 4294967295 (y.ignored + 1) } ∧ (∀ j, j ≠ k →
          t.acq.slot[j] = s.acq.slot[j]) ∧ t = { s with acq := { s.acq with slot := t.acq.slot } })) ∧
  (∀ (n : Fin 4) (k : Fin 8) (d : CapDesc) (s : State),
      let y := s.acq.slot[k]
      converting s = true ∧ y.desc = some d ∧ d.trig = 1 ∧ d.trigNo = n.val ∧ y.st = .armed ∧ y.waiting = false ∧ (∀ y ∈ s.hif.slots, y.op = 0x605 → y.status ≠ .running) →
      (s.acq.running = false ∨ overlap d.slices (roundMask s ||| protectedMask s) = false) ∧
          (s.acq.rings = false ∨ overlap d.slices (pn Pid.ACQ_RING_SLICES s) = false) ∧ (∀ j, j ≠ k → s.acq.slot[j].desc = none ∧ s.acq.slot[j].waiting = false) →
      Answers (.acqTimerFire n) s (fun t => t.acq.slot[k].st = .running ∧ t.acq.slot[k].trigAt = s.sys.devTime ∧
          t.acq.slot[k].waiting = false ∧ t.acq.slot[k].seq = y.seq ∧ (∀ j, j ≠ k → t.acq.slot[j] = s.acq.slot[j]) ∧
          t = { s with acq := t.acq })) ∧
  (∀ (n : Fin 4) (s : State),
      acqRuns s = false →
      Answers (.acqTimerFire n) s (fun t => t = s)) ∧
  (∀ (k : Fin 8) (d : CapDesc) (l : List (BitVec 16)) (c m : Nat) (s : State),
      let y := s.acq.slot[k]
      y.st = .running ∧ acqRuns s = true ∧ y.desc = some d ∧ d.inputs = [c] ∧ d.inputSlices = [m] ∧ l.length = d.n ∧ y.left = 0 →
      s.sys.inReset = false ∧ swf {} s.eic.src = true ∧ eicExempt (176 + k.val) s = true →
      Answers (.captureDone k [l]) s (fun t => t.acq.slot[k].st = .done ∧ t.acq.slot[k].seq = y.seq + 1 ∧
          t.acq.slot[k].count = min 4294967295 (y.count + 1) ∧ t.acq.slot[k].recs.map CapRec.data = y.recs.map CapRec.data ++ [l] ∧
          t.acq.slot[k].recs.take y.recs.length = y.recs ∧ Posted 0x6001 0 s t ∧ Latched (176 + k.val) s t ∧ t.selv = s.selv ∧ (∀ j, j ≠ k →
          t.acq.slot[j] = s.acq.slot[j]) ∧ t.path = s.path ∧ t.hif.slots = s.hif.slots)) ∧
  (∀ (k : Fin 8) (data : List (List (BitVec 16))) (s : State),
      s.acq.slot[k].st ≠ .running ∨ acqRuns s = false →
      Answers (.captureDone k data) s (fun t => t = s)) ∧
  (∀ (k : Fin 8) (d : CapDesc) (l : List (BitVec 16)) (c m : Nat) (s : State),
      let y := s.acq.slot[k]
      y.st = .running ∧ acqRuns s = true ∧ y.desc = some d ∧ d.inputs = [c] ∧ d.inputSlices = [m] ∧ l.length < d.n ∧ y.left = 0 →
      s.sys.inReset = false →
      Answers (.acqFifo k [l]) s (fun t => t.acq.slot[k].st = .done ∧ t.acq.slot[k].seq = y.seq + 1 ∧
          t.acq.slot[k].recs.map CapRec.data = y.recs.map CapRec.data ++ [l.take (l.length / 32 * 32)] ∧
          t.acq.slot[k].recs.take y.recs.length = y.recs ∧
          (((t.acq.slot[k].recs.getLast?.map CapRec.hdr).getD []).getD 7 0).getLsbD 21 = true ∧ Delivered (0x188 + k.val) 0x14 0 s t ∧
          Posted 0x6001 0 s t ∧ (∀ j, j ≠ k → t.acq.slot[j] = s.acq.slot[j]) ∧ t.path = s.path)) ∧
  (∀ (k : Fin 8) (data : List (List (BitVec 16))) (s : State),
      s.acq.slot[k].st ≠ .running ∨ acqRuns s = false →
      Answers (.acqFifo k data) s (fun t => t = s)) ∧
  (∀ (c : Fin 32) (s : State),
      s.sys.boot.cfgLoaded = true ∧ s.sys.inReset = false ∧ s.sys.pfHeld = false ∧ s.acq.cc[c].armed = true →
      pn (Pid.ACQ_CC_INPUT c.val) s < 0x70 ∧ 8 ≤ pn (Pid.ACQ_CC_CAPTURE c.val) s ∧ swf {} s.eic.src = true →
      Answers (.crossingTrip c) s (fun t => t.acq.cc[c] = { armed := false, tripped := true, written := false } ∧ Latched (16 + c.val) s t ∧
          (∀ j, j ≠ c → t.acq.cc[j] = s.acq.cc[j]) ∧ t.acq = { s.acq with cc := t.acq.cc } ∧ NoPickBut (16 + c.val) s t ∧ t.path = s.path)) ∧
  (∀ (c : Fin 32) (k : Fin 8) (d : CapDesc) (s : State),
      let y := s.acq.slot[k]
      s.sys.boot.cfgLoaded = true ∧ s.sys.inReset = false ∧ s.sys.pfHeld = false ∧ s.acq.cc[c].armed = true →
      pn (Pid.ACQ_CC_INPUT c.val) s < 0x70 ∧ pn (Pid.ACQ_CC_CAPTURE c.val) s = k.val ∧ y.st = .running ∧ y.desc = some d ∧ d.trig = 2 ∧
          d.trigNo = c.val ∧ swf {} s.eic.src = true →
      Answers (.crossingTrip c) s (fun t => t.acq.slot[k] = { y with ignored := min 4294967295 (y.ignored + 1) } ∧ Latched (16 +
          c.val) s t ∧ t.acq.cc[c].armed = false ∧ (∀ j, j ≠ k → t.acq.slot[j] = s.acq.slot[j]) ∧ t.path = s.path)) ∧
  (∀ (c : Fin 32) (s : State),
      s.acq.cc[c].armed = false ∨ s.sys.boot.cfgLoaded = false →
      Answers (.crossingTrip c) s (fun t => t = s)) ∧
  (∀ (c : Fin 32) (s : State),
      s.acq.cc[c].written = true ∧ s.sys.boot.cfgLoaded = true ∧ s.sys.inReset = false ∧ s.sys.pfHeld = false →
      Answers (.ccRearm c) s (fun t => t.acq.cc[c] = { armed := decide (pn (Pid.ACQ_CC_INPUT c.val) s < 0x70) } ∧ (∀ j, j ≠ c →
          t.acq.cc[j] = s.acq.cc[j]) ∧ t = { s with acq := { s.acq with cc := t.acq.cc } })) ∧
  (∀ (c : Fin 32) (s : State),
      s.acq.cc[c].tripped = true ∧ s.acq.cc[c].written = false ∧ s.sys.inReset = false ∧ s.sys.pfHeld = false →
      Answers (.ccHysteresisRearm c) s (fun t => t.acq.cc[c] = { armed := decide (pn (Pid.ACQ_CC_INPUT c.val) s < 0x70) } ∧ (∀ j, j ≠ c →
          t.acq.cc[j] = s.acq.cc[j]) ∧ t = { s with acq := { s.acq with cc := t.acq.cc } })) ∧
  (∀ (c : Fin 32) (s : State),
      s.acq.cc[c].tripped = false →
      Answers (.ccHysteresisRearm c) s (fun t => t = s)) ∧
  (∀ (k : Fin 8) (d : CapDesc) (l l2 : List (BitVec 16)) (c c2 m m2 : Nat) (s : State),
      let y := s.acq.slot[k]
      y.st = .running ∧ acqRuns s = true ∧ y.desc = some d ∧ d.inputs = [c, c2] ∧ d.inputSlices = [m, m2] ∧ y.left = 0 →
      l.length = d.n ∧ l2.length = d.n →
      s.sys.inReset = false ∧ swf {} s.eic.src = true ∧ eicExempt (176 + k.val) s = true →
      Answers (.captureDone k [l, l2]) s (fun t => t.acq.slot[k].st = .done ∧
          t.acq.slot[k].recs.map CapRec.data = y.recs.map CapRec.data ++ [l, l2] ∧ t.acq.slot[k].recs.take y.recs.length = y.recs ∧
          Posted 0x6001 0 s t ∧ (∀ j, j ≠ k → t.acq.slot[j] = s.acq.slot[j]) ∧ t.path = s.path ∧ t.hif.slots = s.hif.slots))

/-- A round starts at a multiple of 10 ms with the next number, or is due after the running one; its completion validates the table and
  is late above 1 ms but for settling. A result is written to the table; VLINK's becomes the link voltage; a watch follows its window
  with an edge at each change. A reading sets the sensor's level flags, the zone's WARN reports THERM_WARN, and a single-sensor zone at
  SHUTDOWN latches and disables its rails, reported by THERM_SHUTDOWN. REFIN out of its window falls back to bandgap A, unsettled. A
  steeping set in bounds pours whole with its version; the third failure in a row is reported. A recovered sensor reports; two die
  comparators shut every rail down and latch the die zone; THRESHOLD_RAW_WRITE takes the parameters. Where a clause needs a reading of
  the manual or a choice, it is the model's: log entries 2, 25, 27. [derived: R277; R285; R286; R288; R289; R290; R291; R292; R305; R306;
  R310; R312] -/
def Obligations.RoundsReferenceAndTemperature : Prop :=
  (∀ (s : State),
      acqRuns s = true ∧ s.acq.running = false ∧ (∀ j : Fin 8, s.acq.slot[j].st = .idle) →
      Answers .roundStart s (fun t => t.acq.running = true ∧ t.acq.rseq = s.acq.rseq + 1 ∧ t.sys.devTime % 10000 = 0 ∧
          s.sys.devTime ≤ t.sys.devTime ∧ t.acq.table = s.acq.table ∧ t.acq.slot = s.acq.slot ∧
          t = { s with acq := t.acq, sys := { s.sys with 
            devTime := t.sys.devTime, ticks := t.sys.ticks, planned := { s.sys.planned with acq := false } } })) ∧
  (∀ (s : State),
      acqRuns s = true ∧ s.acq.running = true →
      Answers .roundStart s (fun t => t.acq = { s.acq with nextDue := true } ∧ t.sys.devTime % 10000 = 0 ∧
          t = { s with acq := t.acq, sys := { s.sys with devTime := t.sys.devTime, ticks := t.sys.ticks } })) ∧
  (∀ (r : InputResult) (s : State),
      let v := r.value.toInt
      converting s = true ∧ s.acq.running = true ∧ roundBlocked s = false ∧ r.code = 0x50 →
      (∀ w, w < 16 → pn (Pid.ACQ_RW_INPUT w) s ≠ 0x50) →
      Answers (.roundResult r) s (fun t => t.path = { s.path with vlink := (rdiv (v * 20) 8).toNat } ∧
          ((sfind t.acq.table 0x50).map (fun e => (e.rseq, e.value, e.restarted, e.overrange))) = some (s.acq.rseq, r.value,
          r.restarted || s.acq.restart, r.overrange || decide (r.value = 0x7FFF)) ∧ (∀ k, k ≠ 0x50 →
          sfind t.acq.table k = sfind s.acq.table k) ∧ t.acq.rw = s.acq.rw ∧
          t = { s with path := t.path, acq := { s.acq with table := t.acq.table, restart := false } })) ∧
  (∀ (r : InputResult) (w : Nat) (s : State),
      let v := r.value.toInt
      let out := decide (v < pv (Pid.ACQ_RW_LOW w) s ∨ pv (Pid.ACQ_RW_HIGH w) s < v)
      converting s = true ∧ s.acq.running = true ∧ roundBlocked s = false ∧ r.code = 0x65 ∧ w < 16 ∧ swf {} s.eic.src = true →
      pn (Pid.ACQ_RW_INPUT w) s = 0x65 ∧ (∀ i, i < 16 → i ≠ w → pn (Pid.ACQ_RW_INPUT i) s ≠ 0x65) →
      Answers (.roundResult r) s (fun t => t.acq.rw.getLsbD w = out ∧ (∀ i, i < 16 → i ≠ w → t.acq.rw.getLsbD i = s.acq.rw.getLsbD i) ∧
          (s.acq.rw.getLsbD w ≠ out → Latched (48 + w) s t) ∧ (s.acq.rw.getLsbD w = out → t.eic = s.eic) ∧ t.path = s.path ∧
          t.therm = s.therm)) ∧
  (∀ (r : InputResult) (i : Fin 12) (z : Fin 9) (s : State),
      let x := s.therm.sens[i]
      let c := readC10 i r s
      let lv := fun k => x.levels.getD k 0
      converting s = true ∧ s.acq.running = true ∧ roundBlocked s = false ∧ s.sys.inReset = false →
      sensorOf r.code.val = some i ∧ sensZone i s = some z ∧ z.val < 8 ∧ x.broken = false ∧ (∀ w, w < 16 →
          pn (Pid.ACQ_RW_INPUT w) s ≠ r.code.val) →
      -550 ≤ c ∧ c ≤ 2000 ∧ (sensKind i s = 1 → 320 ≤ r.value.toInt ∧ r.value.toInt < 31680) ∧
          (sensKind i s = 2 → 200 ≤ r.vfMv ∧ r.vfMv ≤ 900) →
      lv 0 ≤ c ∧ c < lv 1 - 100 ∧ c < lv 2 ∧ 0 ≤ lv 4 ∧ 0 ≤ lv 5 ∧ c < lv 1 - lv 4 - 100 ∧
          c < lv 2 - lv 5 →
      zoneSens z.val s = [i.val] ∧ s.therm.zone[z].warn = false ∧ s.therm.zone[z].throt = false ∧ s.therm.zone[z].shut = false ∧
          x.fast = false →
      Answers (.roundResult r) s (fun t => t.therm.sens[i] = { x with
            c10 := some c, bad := 0, warn := true, throt := false, shut := false } ∧
          t.therm.zone[z] = { s.therm.zone[z] with warn := true } ∧ Delivered (0x1A8 + z.val) 0x10 0x8000 s t ∧
          Posted 0x7001 (w32 (2147483648 + z.val)) s t ∧ (∀ j, j ≠ i → t.therm.sens[j] = s.therm.sens[j]) ∧ t.pwr.vr = s.pwr.vr ∧
          t.pwr.ldo = s.pwr.ldo ∧ t.pwr.en = s.pwr.en)) ∧
  (∀ (r : InputResult) (i : Fin 12) (z : Fin 9) (s : State),
      let x := s.therm.sens[i]
      let c := readC10 i r s
      let lv := fun k => x.levels.getD k 0
      converting s = true ∧ s.acq.running = true ∧ roundBlocked s = false ∧ s.sys.inReset = false →
      sensorOf r.code.val = some i ∧ sensZone i s = some z ∧ z.val < 8 ∧ x.broken = false ∧ (∀ w, w < 16 →
          pn (Pid.ACQ_RW_INPUT w) s ≠ r.code.val) →
      -550 ≤ c ∧ c ≤ 2000 ∧ (sensKind i s = 1 → 320 ≤ r.value.toInt ∧ r.value.toInt < 31680) ∧
          (sensKind i s = 2 → 200 ≤ r.vfMv ∧ r.vfMv ≤ 900) ∧ lv 2 ≤ c →
      zoneSens z.val s = [i.val] ∧ s.therm.zone[z].shut = false →
      Answers (.roundResult r) s (fun t => t.therm.sens[i].shut = true ∧ t.therm.zone[z].shut = true ∧ t.therm.zone[z].latch = true ∧
          Delivered (0x1A8 + z.val) 0x12 0x8000 s t ∧ Posted 0x7003 (w32 (2147483648 + z.val)) s t ∧ (∀ a ∈ zoneRails z.val s,
          railEnabled a t = false ∧ railHeld a t = false) ∧ (∀ j, j ≠ i → t.therm.sens[j] = s.therm.sens[j]) ∧ t.store = s.store)) ∧
  (∀ (e : Nat) (s : State),
      converting s = true ∧ s.acq.running = true ∧ roundBlocked s = false ∧ s.acq.nextDue = false ∧ s.sys.inReset = false ∧
          swf {} s.eic.src = true →
      Answers (.roundComplete e) s (fun t => t.acq = { s.acq with
            running := false, roundValid := true, rseqDone := s.acq.rseq, protUsed := false, nextDue := false, heldBySettle := false } ∧
          Latched 184 s t ∧ t.sys = { s.sys with
            boot := { s.sys.boot with firstRound := true }, planned := { s.sys.planned with acq := decide (s.sys.power = .doze) } } ∧ (1000 < e → s.acq.heldBySettle = false →
          PickSent 184 0x183 0x13 0 s t) ∧ (e ≤ 1000 ∨ s.acq.heldBySettle = true → NoPickBut 184 s t) ∧ t.path = s.path)) ∧
  (∀ (e : Nat) (s : State),
      s.acq.running = false →
      Answers (.roundComplete e) s (fun t => t = s)) ∧
  (∀ (l : List InputResult) (s : State),
      thermFast s = 0 →
      Answers (.fastThermalRead l) s (fun t => t.sys.devTime % 1000 = 0 ∧ s.sys.devTime ≤ t.sys.devTime ∧
          t = { s with sys := { s.sys with devTime := t.sys.devTime, ticks := t.sys.ticks } })) ∧
  (∀ (r : InputResult) (i : Fin 12) (s : State),
      let x := s.therm.sens[i]
      let c := readC10 i r s
      converting s = true ∧ roundBlocked s = false ∧ (∀ j : Fin 8, s.acq.slot[j].st = .idle) ∧ nextTick 5 1000 s % 10000 ≠ 0 ∧
          s.sys.inReset = false →
      sensorOf r.code.val = some i ∧ x.fast = true ∧ x.broken = false ∧ x.good = false ∧ sensZone i s = none →
      (∀ w, w < 16 → pn (Pid.ACQ_RW_INPUT w) s ≠ r.code.val) ∧ -550 ≤ c ∧ c ≤ 2000 ∧ sensKind i s ≠ 0 ∧ (sensKind i s = 1 → 320 ≤ r.value.toInt ∧ r.value.toInt < 31680) ∧
          (sensKind i s = 2 → 200 ≤ r.vfMv ∧ r.vfMv ≤ 900) →
      Answers (.fastThermalRead [r]) s (fun t => t.therm.sens[i].c10 = some c ∧ t.therm.sens[i].bad = 0 ∧
          (x.levels.getD 0 0 ≤ c → t.therm.sens[i].warn = true) ∧ (∀ j, j ≠ i → t.therm.sens[j] = s.therm.sens[j]) ∧
          t.therm.zone = s.therm.zone ∧ t.sys.devTime % 1000 = 0)) ∧
  (∀ (s : State),
      acqRuns s = true ∧ s.acq.settled = false ∧ swf {} s.eic.src = true →
      Answers .refSettled s (fun t => t.acq = { s.acq with settled := true } ∧ Latched 186 s t ∧ EdgeFrame { s with acq := t.acq } t)) ∧
  (∀ (s : State),
      acqRuns s = false ∨ s.acq.settled = true →
      Answers .refSettled s (fun t => t = s)) ∧
  (∀ (s : State),
      acqRuns s = true ∧ s.acq.ref = 2 ∧ pb Pid.ACQ_REF_AUTO s = true ∧ s.sys.inReset = false →
      Answers .refinOutOfWindow s (fun t => t.acq.ref = 0 ∧ t.acq.settled = false ∧ PickSent 186 0x181 0x11 0 s t ∧
          t.acq.slot = s.acq.slot ∧ t.acq.coef = s.acq.coef ∧ t.path = s.path ∧ t.therm = s.therm)) ∧
  (∀ (s : State),
      s.acq.ref ≠ 2 ∨ pb Pid.ACQ_REF_AUTO s = false →
      Answers .refinOutOfWindow s (fun t => t = s)) ∧
  (∀ (l : List Coef) (s : State),
      let ok := (s.acq.coef.zip l).all (fun x => decide ((x.1.offset - x.2.offset).natAbs ≤ 32 ∧ (x.1.gain - x.2.gain).natAbs ≤ 500 ∧ (x.1.skew - x.2.skew).natAbs ≤ 8))
      shRuns 5 s = true ∧ converting s = true ∧ pb Pid.ACQ_CORR_EN s = true ∧ l.length = 16 ∧ s.acq.coef ≠ [] ∧ s.sys.inReset = false →
      Answers (.correctionPeriod l) s (fun t => (ok = true → t.acq.steep = some l ∧ t.acq.corrFails = 0 ∧ t.selv = s.selv) ∧ (ok = false →
          t.acq.steep = s.acq.steep ∧ (s.acq.corrFails < 2 → t.acq.corrFails = s.acq.corrFails + 1 ∧ t.selv = s.selv) ∧
          (2 ≤ s.acq.corrFails → t.acq.corrFails = 0 ∧ Picked 0x182 0x12 0 s t)) ∧ t.acq.coef = s.acq.coef ∧ t.acq.coefVer = s.acq.coefVer ∧
          t = { s with acq := t.acq, selv := t.selv })) ∧
  (∀ (c : List Coef) (s : State),
      s.acq.steep = some c ∧ acqRuns s = true ∧ (∀ j : Fin 8, s.acq.slot[j].st ≠ .running) ∧ s.sys.inReset = false ∧
          swf {} s.eic.src = true →
      Answers .coefPour s (fun t => t.acq.coef = c ∧ t.acq.steep = none ∧ t.acq.coefVer = s.acq.coefVer + 1 ∧ t.acq.corrValid = true ∧
          t.acq.corrStale = false ∧ t.acq.pourAt = some s.sys.devTime ∧ Latched 187 s t ∧ t.acq.slot = s.acq.slot ∧
          EdgeFrame { s with acq := t.acq } t)) ∧
  (∀ (k : Fin 8) (d : CapDesc) (c : List Coef) (s : State),
      s.acq.steep = some c ∧ s.acq.slot[k].st = .running ∧ s.acq.slot[k].desc = some d ∧ d.mode ≠ 0 ∧ s.sys.devTime < s.acq.steepAt +
          100000 →
      Answers .coefPour s (fun t => t = s)) ∧
  (∀ (s : State),
      s.acq.pourAt.isSome = true →
      Answers .corrStale s (fun t => t = { s with acq := { s.acq with corrStale := true } })) ∧
  (∀ (s : State),
      s.acq.pourAt = none →
      Answers .corrStale s (fun t => t = s)) ∧
  (∀ (i : Fin 12) (s : State),
      let x := s.therm.sens[i]
      x.broken = true ∧ x.good = true ∧ acqRuns s = true ∧ s.sys.inReset = false ∧ swf {} s.eic.src = true →
      Answers (.sensorHealthy i) s (fun t => t.therm.sens[i] = { x with broken := false, good := false, bad := 0 } ∧
          Posted 0x7004 (w32 i.val) s t ∧ Latched 154 s t ∧ (∀ j, j ≠ i → t.therm.sens[j] = s.therm.sens[j]) ∧
          EdgeFrame { s with therm := t.therm } t)) ∧
  (∀ (i : Fin 12) (s : State),
      s.therm.sens[i].broken = false ∨ s.therm.sens[i].good = false →
      Answers (.sensorHealthy i) s (fun t => t = s)) ∧
  (∀ (m : BitVec 4) (s : State),
      m = 0 ∨ m = 1 ∨ m = 2 ∨ m = 4 ∨ m = 8 ∨ (vgetD {} s.therm.zone 8).latch = true →
      Answers (.dieTrip m) s (fun t => t = { s with therm := { s.therm with dieCmp := m } })) ∧
  (∀ (m : BitVec 4) (s : State),
      m ≠ 0 ∧ m ≠ 1 ∧ m ≠ 2 ∧ m ≠ 4 ∧ m ≠ 8 →
      (vgetD {} s.therm.zone 8).latch = false ∧ s.sys.porActive = false ∧ s.sys.frameRun = true ∧ s.sys.inReset = false ∧
          s.sys.rstnLong = false →
      Answers (.dieTrip m) s (fun t => (vgetD {} t.therm.zone 8).latch = true ∧ t.therm.dieCmp = m ∧ (t.sys.dieStopping = true ∨
          t.sys.regStopped = true) ∧ (∀ r : Rail, railEnabled r t = false) ∧ t.chg.pwm = false ∧ t.path.porSet = true ∧
          Delivered 0x1A0 0x12 0x8000 s t ∧ Posted 0x7003 0x8000000F s t ∧ t.sys.mode = s.sys.mode ∧ t.store = s.store)) ∧
  (∀ (i : Fin 12) (s : State),
      let n := i.val - 4
      shRuns 5 s = true ∧ 4 ≤ i.val →
      Answers (.thresholdRawWrite i) s (fun t => t.therm.sens[i] = { s.therm.sens[i] with
            levels := [pv (Pid.TSNS_WARN n) s, pv (Pid.TSNS_THROT n) s, pv (Pid.TSNS_SHUT n) s, pv (Pid.TSNS_WARN_HYST n) s,
            pv (Pid.TSNS_THROT_HYST n) s, pv (Pid.TSNS_SHUT_HYST n) s] } ∧  (∀ j, j ≠ i → t.therm.sens[j] = s.therm.sens[j]) ∧
          t.therm.zone = s.therm.zone ∧ t = { s with therm := t.therm })) ∧
  (∀ (i : Fin 12) (s : State),
      shRuns 5 s = false →
      Answers (.thresholdRawWrite i) s (fun t => t = s))

/-- While the PD core serves: a dual-role port toggles; an attach enters the attached role with PD_ATTACH, as source with its linked
  channel started at 5000 mV, as sink with a 500 mA limit that follows Rp until a contract; a detach returns to the unattached state of
  PDx.ROLE with PD_DETACH, a source discharging VBUS. The source pair goes on with PG good and VBUS below 0.8 V and the capabilities are
  sent; it goes off once VBUS is discharged. A request for an offered PDO within its current is accepted, any other rejected; PS_RDY within
  5 % makes the contract with PD_CONTRACT. A sink requests the best fixed PDO of its window. A PDO without headroom is withdrawn and
  re-offered with PD_HEADROOM; a missing request, or VLINK below a withdrawn contract's voltage, gives a Hard Reset. Where a clause needs a
  reading of the manual or a choice, it is the model's: log entry 22. [derived: R325; R326; R327; R328; R330; R331; R332; R335; R336; R337;
  R344; R348] -/
def Obligations.TypeCAndContracts : Prop :=
  (∀ (u : Fin 2) (s : State),
      let x := pdPort u s
      pdRuns s = true ∧ pn (Pid.PD_ROLE u.val) s = 0 ∧ pn (Pid.PD_VR u.val) s < 12 ∧ (x.st = .unattachedSnk ∨ x.st = .unattachedSrc) →
      Answers (.drpToggle u) s (fun t => PdOnly u (if x.st = .unattachedSnk then { x with st := .unattachedSrc, cc := .rp } else
          { x with st := .unattachedSnk, cc := .rd }) s t)) ∧
  (∀ (u : Fin 2) (s : State),
      pdRuns s = false ∨ pn (Pid.PD_ROLE u.val) s ≠ 0 ∨ 12 ≤ pn (Pid.PD_VR u.val) s ∨ (pdPort u s).st = .attachedSnk →
      Answers (.drpToggle u) s (fun t => t = s)) ∧
  (∀ (u : Fin 2) (a : Attach) (s : State),
      let x := pdPort u s
      pdRuns s = true ∧ a.source = false ∧ a.settled = true ∧ (x.st = .unattachedSnk ∨ x.st = .attachWaitSnk) ∧ s.sys.inReset = false ∧
          swf {} s.eic.src = true →
      pn (Pid.PD_TRY u.val) s ≠ 1 →
      Answers (.typecAttach u a) s (fun t => pdPort u t = { x with
            st := .attachedSnk, cc := .rd, source := false, dfp := false, vconnSrc := false, vconn := false, rp := .dflt, hardResets := 0,
            hrCount := 0, att0 := (false, false, false) } ∧ (srcAt (usbSrc u) t).limMa = 500 ∧ Posted 0x8001 32 s t ∧ Latched (188 +
          3 * u.val) s t ∧ PdFrame u s t ∧ t.pwr.vr = s.pwr.vr ∧ t.path.dca = s.path.dca)) ∧
  (∀ (u : Fin 2) (c : Fin 12) (a : Attach) (s : State),
      let x := pdPort u s
      pdRuns s = true ∧ a.source = true ∧ a.settled = true ∧ (x.st = .unattachedSrc ∨ x.st = .attachWaitSrc) ∧ s.sys.inReset = false ∧
          swf {} s.eic.src = true →
      pn (Pid.PD_TRY u.val) s ≠ 2 ∧ pn (Pid.PD_VR u.val) s = c.val ∧ vrUsed c s = true ∧ s.sys.regStopped = false ∧
          thermHeld (.vr c) s = false →
      s.pwr.vr[c].st = .off ∧ vrCanStart c s = true ∧ s.pwr.vr[c].outMv = 0 ∧ 0 < pn (Pid.VR_OFF_PCT c.val) s →
      Answers (.typecAttach u a) s (fun t => pdPort u t = { x with
            st := .attachedSrc, cc := .rp, source := true, dfp := true, vconnSrc := true, vconn := a.ra, hardResets := 0, hrCount := 0,
            ra := a.ra, att0 := (true, true, true), chanOn := true } ∧ t.pwr.vr[c].st = .softstart ∧ t.pwr.vr[c].setMv = 5000 ∧ Posted 0x8001 16 s t ∧
          Latched (188 + 3 * u.val) s t ∧ PdFrame u s t ∧ (∀ d, d ≠ c → t.pwr.vr[d] = s.pwr.vr[d]) ∧ t.path = s.path)) ∧
  (∀ (u : Fin 2) (a : Attach) (s : State),
      let x := pdPort u s
      pdRuns s = true ∧ a.settled = false →
      Answers (.typecAttach u a) s (fun t => (x.st = .unattachedSnk → a.source = false → PdOnly u { x with st := .attachWaitSnk } s t) ∧
          (x.st = .unattachedSrc → a.source = true → pn (Pid.PD_VR u.val) s < 12 →
          PdOnly u { x with st := .attachWaitSrc, ra := a.ra } s t) ∧ (x.st ≠ .unattachedSnk → x.st ≠ .unattachedSrc → t = s))) ∧
  (∀ (u : Fin 2) (a : Attach) (s : State),
      let x := pdPort u s
      pdRuns s = true ∧ a.settled = true ∧ pn (Pid.PD_ROLE u.val) s = 0 ∧ pn (Pid.PD_VR u.val) s < 12 →
      Answers (.typecAttach u a) s (fun t => (a.source = false → x.st = .attachWaitSnk → pn (Pid.PD_TRY u.val) s = 1 →
          pdPort u t = { x with st := .trySrc, cc := .rp } ∧ PdFrame u s t) ∧ (a.source = true → x.st = .attachWaitSrc →
          pn (Pid.PD_TRY u.val) s = 2 → pdPort u t = { x with st := .trySnk, cc := .rd } ∧ PdFrame u s t))) ∧
  (∀ (u : Fin 2) (a : Attach) (s : State),
      pdRuns s = false ∨ (pdPort u s).st = .disabled ∨ (pdPort u s).st = .locked ∨ (pdPort u s).st = .errorRecovery →
      Answers (.typecAttach u a) s (fun t => t = s)) ∧
  (∀ (u : Fin 2) (s : State),
      let x := pdPort u s
      pdRuns s = true ∧ x.st = .attachedSnk ∧ x.source = false ∧ x.svc = false ∧ s.sys.inReset = false →
      Answers (.typecDetach u) s (fun t => (pdPort u t).st = (idleState u s).1 ∧ (pdPort u t).cc = (idleState u s).2 ∧ (pdPort u t).pos = 0 ∧
          (pdPort u t).mv = 0 ∧ (pdPort u t).ma = 0 ∧ (pdPort u t).vconn = false ∧ (pdPort u t).hardResets = 0 ∧
          (srcAt (usbSrc u) t).gate = false ∧ Posted 0x8002 32 s t ∧ (∀ v, v ≠ u → pdPort v t = pdPort v s) ∧ t.store.otp = s.store.otp ∧
          t.pwr.ldo = s.pwr.ldo)) ∧
  (∀ (u : Fin 2) (s : State),
      let x := pdPort u s
      pdRuns s = true ∧ (x.st = .attachWaitSnk ∨ x.st = .attachWaitSrc) ∧ x.svc = false →
      Answers (.typecDetach u) s (fun t => (pdPort u t).st = (idleState u s).1 ∧ (pdPort u t).cc = (idleState u s).2 ∧ t.hif = s.hif ∧
          t = { s with pd := t.pd } ∧ ∀ v, v ≠ u → pdPort v t = pdPort v s)) ∧
  (∀ (u : Fin 2) (s : State),
      let x := pdPort u s
      pdRuns s = false ∨ (x.st ≠ .attachedSnk ∧ x.st ≠ .attachedSrc ∧ x.st ≠ .attachWaitSnk ∧ x.st ≠ .attachWaitSrc) →
      Answers (.typecDetach u) s (fun t => t = s)) ∧
  (∀ (u : Fin 2) (rp : RpLevel) (s : State),
      let x := pdPort u s
      pdRuns s = true ∧ x.st = .attachedSnk ∧ x.source = false ∧ x.rp ≠ rp ∧ x.pos = 0 ∧ s.sys.inReset = false →
      Answers (.rpChange u rp) s (fun t => pdPort u t = { x with rp := rp } ∧ (srcAt (usbSrc u) t).limMa = (match rp with
        | .dflt => 500
        | .a15 => 1500
        | .a30 => 3000) ∧ PdFrame u s t ∧ t.pwr.vr = s.pwr.vr)) ∧
  (∀ (u : Fin 2) (rp : RpLevel) (s : State),
      pdRuns s = false ∨ (pdPort u s).source = true ∨ (pdPort u s).rp = rp →
      Answers (.rpChange u rp) s (fun t => t = s)) ∧
  (∀ (u : Fin 2) (v : Nat) (s : State),
      let x := pdPort u s
      pdRuns s = true ∧ x.st = .attachedSrc ∧ x.source = true ∧ x.chanOn = true ∧ x.gsrc = false ∧ x.hrSrc = false ∧ x.swap = none →
      chanPg u s = true ∧ v < 800 ∧ (srcAt (usbSrc u) s).gate = false →
      Answers (.sourcePairOn u v) s (fun t => PdOnly u { x with
            gsrc := true, vbus := v, lowSince := (pdPort u t).lowSince, awaitReq := true, offer := sentPdos u s,
            sent := if x.epr = true then .eprSourceCaps else .sourceCaps } s t)) ∧
  (∀ (u : Fin 2) (v : Nat) (s : State),
      800 ≤ v ∨ chanPg u s = false ∨ (pdPort u s).gsrc = true →
      Answers (.sourcePairOn u v) s (fun t => t = s)) ∧
  (∀ (u : Fin 2) (v : Nat) (s : State),
      let x := pdPort u s
      x.discharging = true ∧ x.swap = none ∧ x.st ≠ .disabled ∧ v < 800 ∧ s.sys.inReset = false ∧ swf {} s.eic.src = true →
      Answers (.vbusDischarged u v) s (fun t => pdPort u t = { x with
            gsrc := false, discharging := false, vbus := v, lowSince := (pdPort u t).lowSince } ∧  Latched (190 + 3 * u.val) s t ∧
          PdFrame u s t ∧ t.path = s.path ∧ t.pwr.vr = s.pwr.vr)) ∧
  (∀ (u : Fin 2) (v : Nat) (s : State),
      800 ≤ v →
      Answers (.vbusDischarged u v) s (fun t => t = s)) ∧
  (∀ (u : Fin 2) (pos ma : Nat) (s : State),
      let x := pdPort u s
      pdRuns s = true ∧ x.st = .attachedSrc ∧ x.source = true ∧ x.gsrc = true ∧ x.hrSrc = false →
      Answers (.pdRequestReceived u pos ma) s (fun t => (∀ top, 1 ≤ pos → offered u (pos - 1) s = some top → ma ≤ top →
          PdOnly u { x with pend := some (pos, pdoMv u (pos - 1) s, top), slewed := false, sent := .accept, awaitReq := false } s t) ∧
          (pos = 0 ∨ offered u (pos - 1) s = none → PdOnly u { x with sent := .reject } s t) ∧ (∀ top, offered u (pos - 1) s = some top →
          top < ma → PdOnly u { x with sent := .reject } s t))) ∧
  (∀ (u : Fin 2) (v : Nat) (c : Nat × Nat × Nat) (s : State),
      let x := pdPort u s
      pdRuns s = true ∧ x.st = .attachedSrc ∧ x.source = true ∧ x.gsrc = true ∧ chanPg u s = true ∧ x.swap = none ∧ s.sys.inReset = false →
      x.pend = some c ∧ x.slewed = true ∧ 95 * c.2.1 ≤ 100 * v ∧ 100 * v ≤ 105 * c.2.1 →
      Answers (.psRdy u v) s (fun t => pdPort u t = { x with
            pos := c.1, mv := c.2.1, ma := c.2.2, pend := none, slewed := false, hrCount := 0, sent := .psRdy, vbus := v,
            lowSince := (pdPort u t).lowSince } ∧ Posted 0x8003 (w32 (c.1 % 16 + 256 * (c.2.1 / 100 % 65536))) s t ∧ PdFrame u s t ∧
          t.path = s.path ∧ t.pwr = s.pwr)) ∧
  (∀ (u : Fin 2) (v : Nat) (c : Nat × Nat × Nat) (s : State),
      let x := pdPort u s
      x.pend = some c ∧ x.swap = none ∧ (x.slewed = false ∨ 100 * v < 95 * c.2.1 ∨ 105 * c.2.1 < 100 * v) →
      Answers (.psRdy u v) s (fun t => t = s)) ∧
  (∀ (u : Fin 2) (o : OfferedPdo) (s : State),
      let x := pdPort u s
      let ma := min o.ma (min (pn (Pid.PD_SNK_IMAX_MA u.val) s) (if x.cable5a = true then 5000 else 3000))
      pdRuns s = true ∧ x.st = .attachedSnk ∧ x.source = false ∧ o.kind = .fixed ∧ o.pos ≤ 7 →
      pn (Pid.PD_SNK_VMIN_MV u.val) s ≤ o.maxMv ∧ o.maxMv ≤ pn (Pid.PD_SNK_VMAX_MV u.val) s →
      Answers (.sourceCapsReceived u [o] false) s (fun t => PdOnly u { x with
            caps := [o], pend := some (o.pos, o.maxMv, ma), mismatch := decide (o.maxMv * ma < pn (Pid.PD_SNK_PMIN_MW u.val) s * 1000),
            pps := false, slewed := false, hrSnk := false, sent := if x.epr = true then .eprRequest else .request } s t)) ∧
  (∀ (u : Fin 2) (l : List OfferedPdo) (epr : Bool) (s : State),
      pdRuns s = false ∨ (pdPort u s).source = true ∨ (epr = true ∧ (pdPort u s).epr = false) →
      Answers (.sourceCapsReceived u l epr) s (fun t => t = s)) ∧
  (∀ (u : Fin 2) (s : State),
      let x := pdPort u s
      pdRuns s = true ∧ x.st = .attachedSnk ∧ x.source = false ∧ x.pps = true ∧ x.pos ≠ 0 →
      Answers (.ppsRerequest u) s (fun t => PdOnly u { x with pend := some (x.pos, x.mv, x.ma), sent := .request } s t)) ∧
  (∀ (u : Fin 2) (s : State),
      (pdPort u s).pps = false ∨ (pdPort u s).pos = 0 →
      Answers (.ppsRerequest u) s (fun t => t = s)) ∧
  (∀ (u : Fin 2) (k : Fin 11) (v : Nat) (s : State),
      let x := pdPort u s
      pdRuns s = true ∧ pn (Pid.PD_VR u.val) s < 12 ∧ k ≠ 0 ∧ pdoValid u k.val s = true ∧ x.withdrawn.getLsbD k.val = false →
      v < pdoMv u k.val s + pn Pid.PD_HR_MV s ∧ x.st ≠ .attachedSrc ∧ x.st ≠ .attachedSnk ∧ s.sys.inReset = false →
      Answers (.headroomWithdraw u k v) s (fun t => pdPort u t = { x with withdrawn := x.withdrawn ||| (1#11 <<< k.val) } ∧
          Raised 0x8004 (w32 (256 * u.val + (k.val + 1) % 16)) s t ∧ t = { s with pd := t.pd, hif := t.hif } ∧ PdFrame u s t ∧
          offered u k.val t = none)) ∧
  (∀ (u : Fin 2) (k : Fin 11) (v : Nat) (s : State),
      let x := pdPort u s
      pdRuns s = true ∧ pn (Pid.PD_VR u.val) s < 12 ∧ k ≠ 0 ∧ pdoValid u k.val s = true ∧ x.withdrawn.getLsbD k.val = false →
      v < pdoMv u k.val s + pn Pid.PD_HR_MV s ∧ v < 9000 + pn Pid.PD_HR_MV s ∧ s.sys.inReset = false →
      x.st = .attachedSrc ∧ x.source = true ∧ x.gsrc = true ∧ x.swap = none ∧ x.partnerDrp = true →
      Answers (.headroomWithdraw u k v) s (fun t => (pdPort u t).withdrawn = x.withdrawn ||| (1#11 <<< k.val) ∧
          (pdPort u t).swap = some .pr ∧ (pdPort u t).swapOk = false ∧ (pdPort u t).sent = .prSwap ∧
          Raised 0x8004 (w32 (256 * u.val + (k.val + 1) % 16)) s t ∧ t = { s with pd := t.pd, hif := t.hif } ∧ PdFrame u s t)) ∧
  (∀ (u : Fin 2) (k : Fin 11) (v : Nat) (s : State),
      k = 0 ∨ pdoValid u k.val s = false ∨ pdoMv u k.val s + pn Pid.PD_HR_MV s ≤ v →
      Answers (.headroomWithdraw u k v) s (fun t => t = s)) ∧
  (∀ (u : Fin 2) (k : Fin 11) (v : Nat) (s : State),
      let x := pdPort u s
      pdRuns s = true ∧ x.withdrawn.getLsbD k.val = true ∧ x.st ≠ .attachedSrc ∧ s.sys.inReset = false →
      pdoMv u k.val s + pn Pid.PD_HR_MV s + pn Pid.PD_HR_HYST_MV s ≤ v →
      Answers (.headroomReoffer u k v) s (fun t => pdPort u t = { x with withdrawn := x.withdrawn &&& ~~~(1#11 <<< k.val) } ∧
          Raised 0x8004 (w32 (256 * u.val + (k.val + 1) % 16)) s t ∧ t = { s with pd := t.pd, hif := t.hif } ∧ PdFrame u s t)) ∧
  (∀ (u : Fin 2) (k : Fin 11) (v : Nat) (s : State),
      (pdPort u s).withdrawn.getLsbD k.val = false ∨ v < pdoMv u k.val s + pn Pid.PD_HR_MV s + pn Pid.PD_HR_HYST_MV s →
      Answers (.headroomReoffer u k v) s (fun t => t = s)) ∧
  (∀ (u : Fin 2) (vlink : Nat) (i : Nat) (s : State),
      let x := pdPort u s
      let c : Instr := if i = 0 then .senderResponseTimeout u else .contractVlinkLow u vlink
      pdRuns s = true ∧ x.st = .attachedSrc ∧ x.source = true ∧ x.swap = none ∧ x.svc = false ∧ x.hrCount < 2 ∧ s.sys.inReset = false →
      (i = 0 ∧ x.awaitReq = true) ∨ (i = 1 ∧ x.pos ≠ 0 ∧ offered u (x.pos - 1) s = none ∧ vlink < x.mv + 1000) →
      Answers c s (fun t => (pdPort u t).sent = .hardReset ∧ (pdPort u t).hardResets = x.hardResets + 1 ∧ (pdPort u t).hrCount = x.hrCount +
          1 ∧ (pdPort u t).hrSrc = true ∧ (pdPort u t).pos = 0 ∧ (pdPort u t).mv = 0 ∧ (pdPort u t).st = .attachedSrc ∧
          (pdPort u t).chanOn = (x.chanOn && (pdChan u s).isNone) ∧ PdFrame u s t)) ∧
  (∀ (u : Fin 2) (s : State),
      (pdPort u s).awaitReq = false →
      Answers (.senderResponseTimeout u) s (fun t => t = s)) ∧
  (∀ (u : Fin 2) (v : Nat) (s : State),
      (pdPort u s).pos = 0 ∨ (pdPort u s).mv + 1000 ≤ v ∨ (offered u ((pdPort u s).pos - 1) s).isSome = true →
      Answers (.contractVlinkLow u v) s (fun t => t = s)) ∧
  (∀ (u : Fin 2) (k : PdTimer) (s : State),
      let x := pdPort u s
      pdRuns s = true ∧ k ≠ .srcTransition ∧ k ≠ .srcRecover →
      Answers (.pdProtocolTimer u k) s (fun t => (k = .tryTimer → x.st = .trySrc → PdOnly u { x with st := .tryWaitSnk, cc := .rd } s t) ∧
          (k = .tryTimer → x.st = .trySnk → PdOnly u { x with st := .tryWaitSrc, cc := .rp } s t) ∧ (x.st ≠ .trySrc → x.st ≠ .trySnk →
          x.st ≠ .tryWaitSnk → x.st ≠ .tryWaitSrc → x.st ≠ .attachWaitSnk → x.st ≠ .attachWaitSrc → t = s))) ∧
  (∀ (u : Fin 2) (k : PdTimer) (s : State),
      let x := pdPort u s
      pdRuns s = true ∧ (x.st = .tryWaitSnk ∧ (k = .pdDebounce ∨ k = .tryWait) ∨ x.st = .tryWaitSrc ∧ k = .tryWait) →
      x.svc = false ∧ pn (Pid.PD_ROLE u.val) s = 0 →
      Answers (.pdProtocolTimer u k) s (fun t => (pdPort u t).st = .unattachedSnk ∧ (pdPort u t).cc = .rd ∧ t = { s with pd := t.pd } ∧
          ∀ v, v ≠ u → pdPort v t = pdPort v s)) ∧
  (∀ (u : Fin 2) (s : State),
      let x := pdPort u s
      pdRuns s = true ∧ x.st = .attachWaitSnk ∧ pn (Pid.PD_TRY u.val) s ≠ 1 ∧ s.sys.inReset = false →
      Answers (.pdProtocolTimer u .ccDebounce) s (fun t => (pdPort u t).st = .attachedSnk ∧ (pdPort u t).source = false ∧
          (srcAt (usbSrc u) t).limMa = 500 ∧ Posted 0x8001 32 s t ∧ PdFrame u s t)) ∧
  (∀ (u : Fin 2) (c : Nat × Nat × Nat) (ch : Fin 12) (s : State),
      let x := pdPort u s
      pdRuns s = true ∧ x.st = .attachedSrc ∧ x.source = true ∧ x.swap = none ∧ x.pend = some c ∧ x.slewed = false ∧ pdChan u s = some ch →
      s.pwr.vr[ch].st = .regulate ∧ s.pwr.vr[ch].slewing = false ∧ s.pwr.vr[ch].setMv ≠ c.2.1 ∧ s.sys.inReset = false →
      Answers (.pdProtocolTimer u .srcTransition) s (fun t => pdPort u t = { x with slewed := true } ∧ t.pwr.vr[ch].setMv = c.2.1 ∧
          t.pwr.vr[ch].slewing = true ∧ t.pwr.vr[ch].st = .regulate ∧ (∀ d, d ≠ ch → t.pwr.vr[d] = s.pwr.vr[d]) ∧ PdFrame u s t ∧
          t.path = s.path)) ∧
  (∀ (u : Fin 2) (s : State),
      let x := pdPort u s
      pdRuns s = true ∧ x.st = .attachedSrc ∧ x.source = true ∧ x.swap = none ∧ x.svc = false ∧ s.sys.inReset = false →
      Answers (.typecDetach u) s (fun t => (pdPort u t).st = (idleState u s).1 ∧ (pdPort u t).cc = (idleState u s).2 ∧
          (pdPort u t).pos = 0 ∧ (pdPort u t).mv = 0 ∧ (pdPort u t).ma = 0 ∧ (pdPort u t).vconn = false ∧
          (pdPort u t).discharging = x.gsrc ∧ (pdPort u t).source = false ∧
          (∀ ch, pdChan u s = some ch → railEnabled (.vr ch) t = false) ∧ Posted 0x8002 16 s t ∧ (∀ v, v ≠ u → pdPort v t = pdPort v s))) ∧
  (∀ (u : Fin 2) (s : State),
      pn (Pid.PD_ROLE u.val) s = 3 ∨ pn (Pid.PD_ROLE u.val) s = 1 →
      idleState u s = if pn (Pid.PD_ROLE u.val) s = 3 then (.disabled, .open_) else (.unattachedSnk, .rd))

/-- A Hard Reset drops the contract and, at a sink, its path, the third since a contract enters error recovery with PD_ERR_RECOVERY; on an
  unattached port nothing happens; error recovery ends unattached. An own swap request met by the partner's gets Wait as source; an incoming
  swap is rejected unless its parameter accepts it, and waits where a source's channel or a sink's only path does not let it go, DR and
  VCONN swaps act at once. Cable discovery sets the cable's ratings as VCONN source, else asks for VCONN. Unsupported messages are answered
  Not_Supported, VDMs of a DFP are ignored, of another SVID refused. A protection turns both gates off, reports its pick and PD_FAULT, and
  locks the port at PDx.FAULT_MAX in 60 s. PD_STATUS returns its words; PD_RESTART waits for the core and fails without an image;
  PD_PORT_RESET fails on a DISABLED or LOCKED port; the core's restart completes the waiting PD_RESTARTs and, with VBUS low in full service,
  presents the terminations. Where a clause needs a reading of the manual or a choice, it is the model's: log entries 3, 22, 23. [derived:
  R334; R338; R339; R340; R341; R342; R344; R345; R347; R348; log entry 3] -/
def Obligations.SwapsResetsAndProtections : Prop :=
  (∀ (u : Fin 2) (sent : Bool) (s : State),
      let x := pdPort u s
      pdRuns s = true ∧ x.st = .attachedSrc ∧ x.source = true ∧ x.swap = none ∧ x.svc = false ∧ s.sys.inReset = false →
      Answers (.hardReset u sent) s (fun t => (x.hrCount < 2 → (pdPort u t).st = .attachedSrc ∧ (pdPort u t).hrSrc = true ∧
          (pdPort u t).hardResets = x.hardResets + 1) ∧ (2 ≤ x.hrCount → (pdPort u t).st = .errorRecovery ∧ (pdPort u t).cc = .open_ ∧
          Delivered (0x1C0 + u.val) 0x14 0 s t ∧ Posted 0x8005 0 s t) ∧ (pdPort u t).pos = 0 ∧ (pdPort u t).mv = 0 ∧
          (pdPort u t).pend = none ∧ PdFrame u s t)) ∧
  (∀ (u : Fin 2) (sent : Bool) (s : State),
      pdRuns s = false ∨ ((pdPort u s).st ≠ .attachedSnk ∧ (pdPort u s).st ≠ .attachedSrc) →
      Answers (.hardReset u sent) s (fun t => t = s)) ∧
  (∀ (u : Fin 2) (s : State),
      let x := pdPort u s
      pdRuns s = true ∧ x.st = .errorRecovery ∧ x.svc = false →
      Answers (.errorRecoveryEnd u) s (fun t => (pdPort u t).st = (idleState u s).1 ∧ (pdPort u t).cc = (idleState u s).2 ∧ (pdPort u t).pos = 0 ∧
          (pdPort u t).faults = x.faults ∧ (∀ v, v ≠ u → pdPort v t = pdPort v s) ∧ t = { s with pd := t.pd })) ∧
  (∀ (u : Fin 2) (s : State),
      (pdPort u s).st ≠ .errorRecovery →
      Answers (.errorRecoveryEnd u) s (fun t => t = s)) ∧
  (∀ (u : Fin 2) (own : Bool) (s : State),
      let x := pdPort u s
      pdRuns s = true ∧ x.st = .attachedSrc ∧ x.source = true ∧ x.hrSrc = false ∧ x.hrSnk = false ∧ x.swap = none →
      Answers (.prSwap u own) s (fun t => (own = true → PdOnly u { x with sent := .wait } s t) ∧ (own = false →
          pb (Pid.PD_PRS_ACCEPT u.val) s = false → PdOnly u { x with sent := .reject } s t) ∧ (own = false →
          pb (Pid.PD_PRS_ACCEPT u.val) s = true → chanAble u s = true →
          PdOnly u { x with sent := .accept, swap := some .pr, swapOk := false } s t) ∧
          (own = false → pb (Pid.PD_PRS_ACCEPT u.val) s = true → chanAble u s = false → PdOnly u { x with sent := .wait } s t))) ∧
  (∀ (u : Fin 2) (own : Bool) (s : State),
      pdRuns s = false →
      Answers (.prSwap u own) s (fun t => t = s)) ∧
  (∀ (u : Fin 2) (own : Bool) (s : State),
      let x := pdPort u s
      pdRuns s = true ∧ (x.st = .attachedSrc ∨ x.st = .attachedSnk) ∧ x.svc = false →
      Answers (.drSwap u own) s (fun t => (own = true → x.source = true → PdOnly u { x with sent := .wait } s t) ∧ ((own = false ∨
          x.source = false) → pb (Pid.PD_DRS_ACCEPT u.val) s = false → PdOnly u { x with sent := .reject, swap := none } s t) ∧
          ((own = false ∨ x.source = false) → pb (Pid.PD_DRS_ACCEPT u.val) s = true →
          PdOnly u { x with sent := .accept, dfp := !x.dfp } s t))) ∧
  (∀ (u : Fin 2) (own : Bool) (s : State),
      let x := pdPort u s
      pdRuns s = true ∧ (x.st = .attachedSrc ∨ x.st = .attachedSnk) ∧ x.swap = none →
      Answers (.vconnSwap u own) s (fun t => (own = true → x.source = true → PdOnly u { x with sent := .wait } s t) ∧ ((own = false ∨
          x.source = false) → pb (Pid.PD_VCS_ACCEPT u.val) s = false → PdOnly u { x with sent := .reject } s t) ∧ ((own = false ∨
          x.source = false) → pb (Pid.PD_VCS_ACCEPT u.val) s = true →
          PdOnly u { x with sent := .accept, vconnSrc := !x.vconnSrc, vconn := !x.vconnSrc && !x.vconnOc } s t))) ∧
  (∀ (u : Fin 2) (r : Option CableVdo) (s : State),
      let x := pdPort u s
      pdRuns s = true ∧ x.st = .attachedSnk ∧ x.source = false →
      Answers (.cableDiscovery u r) s (fun t => (x.vconnSrc = false → x.swap = none →
          PdOnly u { x with swap := some .vconn, sent := .vconnSwap } s t) ∧ (x.vconnSrc = true → x.pos = 0 → PdOnly u { x with
            cable5a := r.any (fun v => v.fiveA), cableEpr := r.any (fun v => v.fiveA && v.fiftyV && v.epr) && !s.sys.service.isLimp } s t))) ∧
  (∀ (u : Fin 2) (m : PdMessage) (s : State),
      let x := pdPort u s
      pdRuns s = true ∧ (x.st = .attachedSrc ∨ x.st = .attachedSnk) →
      m = .getSinkCap ∨ m = .unsupported ∨ m = .softReset ∨ m = .eprKeepAlive →
      Answers (.pdMessageReceived u m) s (fun t => (m = .getSinkCap → PdOnly u { x with sent := .sinkCaps } s t) ∧ (m = .unsupported →
          PdOnly u { x with sent := .notSupported } s t) ∧ (m = .eprKeepAlive → t = s) ∧ (m = .softReset →
          PdOnly u { x with sent := .accept, pend := none, slewed := false, awaitReq := x.source, swap := none } s t))) ∧
  (∀ (u : Fin 2) (c : Nat × Nat × Nat) (s : State),
      let x := pdPort u s
      pdRuns s = true ∧ x.st = .attachedSnk ∧ x.source = false ∧ x.swap = none ∧ x.pend = some c ∧ pb (Pid.PD_EPR_EN u.val) s = false ∧
          x.held = false ∧ s.sys.inReset = false →
      Answers (.pdMessageReceived u .psRdy) s (fun t => pdPort u t = { x with
            pos := c.1, mv := c.2.1, ma := c.2.2, pend := none, slewed := false, hrCount := 0 } ∧ (srcAt (usbSrc u) t).limMa = c.2.2 ∧
          Posted 0x8003 (w32 (c.1 % 16 + 256 * (c.2.1 / 100 % 65536))) s t ∧ PdFrame u s t ∧ t.pwr = s.pwr ∧ t.path.link = s.path.link)) ∧
  (∀ (u : Fin 2) (c : Nat × Nat × Nat) (s : State),
      let x := pdPort u s
      pdRuns s = true ∧ x.st = .attachedSnk ∧ x.source = false ∧ x.swap = none ∧ x.pend = some c ∧ s.sys.inReset = false →
      c.2.1 ≠ (if x.pos = 0 then 5000 else x.mv) →
      Answers (.pdMessageReceived u .accept) s (fun t => pdPort u t = { x with held := true } ∧ (srcAt (usbSrc u) t).gate = false ∧
          (∀ v, v ≠ u → pdPort v t = pdPort v s) ∧ t.pwr.ldo = s.pwr.ldo ∧ t.pwr.en = s.pwr.en)) ∧
  (∀ (u : Fin 2) (m : PdMessage) (d : Bool) (s : State),
      let x := pdPort u s
      pdRuns s = true ∧ (x.st = .attachedSrc ∨ x.st = .attachedSnk) →
      m = .accept ∨ m = .reject ∨ m = .wait ∨ m = .sinkCapabilities d →
      Answers (.pdMessageReceived u m) s (fun t => (m = .sinkCapabilities d → PdOnly u { x with partnerDrp := d } s t) ∧ (m = .accept →
          x.swap = some .pr → x.sent = .prSwap → PdOnly u { x with swapOk := true } s t) ∧ (m = .reject ∨ m = .wait → x.swap = some .pr →
          x.sent = .prSwap → PdOnly u { x with swap := none, swapOk := false } s t) ∧ (m = .reject ∨ m = .wait → x.swap = none →
          x.source = false → PdOnly u { x with pend := none } s t))) ∧
  (∀ (u : Fin 2) (m : PdMessage) (s : State),
      pdRuns s = false →
      Answers (.pdMessageReceived u m) s (fun t => t = s)) ∧
  (∀ (u : Fin 2) (v : Vdm) (s : State),
      let x := pdPort u s
      let svid := bitsOf (sget 0 s.store.otp.shadow 0x082) 16 16
      pdRuns s = true ∧ (x.st = .attachedSrc ∨ x.st = .attachedSnk) →
      v = .unstructured ∨ v = .other ∨ v = .discoverSvids →
      Answers (.vdmRequest u v) s (fun t => (v = .unstructured → PdOnly u { x with sent := .notSupported } s t) ∧ (v ≠ .unstructured →
          x.dfp = true → t = s) ∧ (v = .other → x.dfp = false → PdOnly u { x with sent := .vdmNak, vdo := [] } s t) ∧ (v = .discoverSvids →
          x.dfp = false → PdOnly u { x with
            sent := .vdmAck, vdo := if pb (Pid.PD_SVC_EN u.val) s = true ∧ svid ≠ 0 then [w32 (svid * 65536)] else [] } s t))) ∧
  (∀ (u : Fin 2) (w : BitVec 16) (m : Nat) (s : State),
      let x := pdPort u s
      let svid := bitsOf (sget 0 s.store.otp.shadow 0x082) 16 16
      pdRuns s = true ∧ x.st = .attachedSnk ∧ x.dfp = false ∧ x.svc = false ∧ s.sys.inReset = false →
      Answers (.vdmRequest u (.enterMode w m)) s (fun t => (svid ≠ 0 → w.toNat = svid → m = 1 → pb (Pid.PD_SVC_EN u.val) s = true →
          pdPort u t = { x with svc := true, sent := .vdmAck, vdo := [] } ∧ Raised 0x8007 0x80000000 s t ∧ PdFrame u s t) ∧
          (w.toNat ≠ svid ∨ m ≠ 1 → PdOnly u { x with sent := .vdmNak, vdo := [] } s t))) ∧
  (∀ (u : Fin 2) (v : Nat) (s : State),
      let x := pdPort u s
      pdRuns s = true ∧ x.st = .attachedSnk ∧ x.source = false ∧ x.svc = false ∧ x.pend = none ∧ s.sys.inReset = false →
      115 * (if x.pos = 0 then 5000 else x.mv) ≤ 100 * v ∧ 6000 ≤ v →
      (recentUs 60000000 s.sys.devTime x.faults).length + 1 < pn (Pid.PD_FAULT_MAX u.val) s →
      Answers (.pdOvp u v) s (fun t => (pdPort u t).st = .errorRecovery ∧ (pdPort u t).cc = .open_ ∧ (pdPort u t).gsrc = false ∧
          (pdPort u t).pos = 0 ∧ (pdPort u t).faults = recentUs 60000000 s.sys.devTime x.faults ++ [s.sys.devTime] ∧
          (srcAt (usbSrc u) t).gate = false ∧ Delivered (0x1C0 + u.val) 0x10 0 s t ∧ Posted 0x8005 0 s t ∧ (∀ v, v ≠ u →
          pdPort v t = pdPort v s) ∧ t.store.otp = s.store.otp ∧ t.pwr.ldo = s.pwr.ldo)) ∧
  (∀ (u : Fin 2) (v : Nat) (s : State),
      let x := pdPort u s
      pdRuns s = true ∧ x.st = .attachedSnk ∧ x.source = false ∧ x.svc = false ∧ x.pend = none ∧ s.sys.inReset = false →
      115 * (if x.pos = 0 then 5000 else x.mv) ≤ 100 * v ∧ 6000 ≤ v →
      pn (Pid.PD_FAULT_MAX u.val) s ≤ (recentUs 60000000 s.sys.devTime x.faults).length + 1 →
      Answers (.pdOvp u v) s (fun t => (pdPort u t).st = .locked ∧ (pdPort u t).cc = .open_ ∧ (pdPort u t).gsrc = false ∧
          (pdPort u t).vconn = false ∧ Delivered (0x1C0 + u.val) 0x10 0 s t ∧ Delivered (0x1C0 + u.val) 0x15 0 s t ∧ Posted 0x8006 0 s t ∧
          (∀ v, v ≠ u → pdPort v t = pdPort v s) ∧ t.store.otp = s.store.otp)) ∧
  (∀ (u : Fin 2) (v : Nat) (s : State),
      pdRuns s = false ∨ v < 6000 →
      Answers (.pdOvp u v) s (fun t => t = s)) ∧
  (∀ (u : Fin 2) (ma : Nat) (s : State),
      let x := pdPort u s
      pdRuns s = true ∧ x.st = .attachedSrc ∧ x.source = true ∧ x.gsrc = true ∧ x.svc = false ∧ x.swap = none ∧ x.hrCount < 2 ∧
          s.sys.inReset = false →
      pn (Pid.PD_OCP_PCT u.val) s * (if x.pos = 0 then 500 else x.ma) ≤ 100 * ma →
      (recentUs 60000000 s.sys.devTime x.faults).length + 1 < pn (Pid.PD_FAULT_MAX u.val) s →
      Answers (.pdOcp u ma) s (fun t => (pdPort u t).gsrc = false ∧ (pdPort u t).sent = .hardReset ∧
          (pdPort u t).hardResets = x.hardResets + 1 ∧ Delivered (0x1C0 + u.val) 0x11 0 s t ∧ Posted 0x8005 0 s t ∧ PdFrame u s t)) ∧
  (∀ (u : Fin 2) (ma : Nat) (s : State),
      let x := pdPort u s
      x.source = true ∧ (x.gsrc = false ∨ 100 * ma < pn (Pid.PD_OCP_PCT u.val) s * (if x.pos = 0 then 500 else x.ma)) →
      Answers (.pdOcp u ma) s (fun t => t = s)) ∧
  (∀ (u : Fin 2) (d : ReverseDrop) (s : State),
      let x := pdPort u s
      pdRuns s = true ∧ x.st = .attachedSrc ∧ x.gsrc = true ∧ x.svc = false ∧ s.sys.inReset = false →
      d.sink = false ∧ d.mv ≤ -5 →
      (recentUs 60000000 s.sys.devTime x.faults).length + 1 < pn (Pid.PD_FAULT_MAX u.val) s →
      Answers (.pdReverse u d) s (fun t => (pdPort u t).gsrc = false ∧ (pdPort u t).st = .errorRecovery ∧ Delivered (0x1C0 +
          u.val) 0x12 0 s t ∧ Posted 0x8005 0 s t ∧ PdFrame u s t)) ∧
  (∀ (u : Fin 2) (d : ReverseDrop) (s : State),
      let x := srcAt (usbSrc u) s
      pdRuns s = true ∧ (pdPort u s).st = .attachedSnk ∧ s.sys.inReset = false →
      d.sink = true ∧ d.mv ≤ -5 ∧ x.gate = true ∧ x.inWin = true →
      (recentUs 60000000 s.sys.devTime (pdPort u s).faults).length + 1 < pn (Pid.PD_FAULT_MAX u.val) s →
      Answers (.pdReverse u d) s (fun t => (srcAt (usbSrc u) t).gate = false ∧ (pdPort u t).st = .attachedSnk ∧ Delivered (0x1C0 +
          u.val) 0x12 0 s t ∧ Posted 0x8005 0 s t ∧ PdFrame u s t)) ∧
  (∀ (u : Fin 2) (d : ReverseDrop) (s : State),
      pdRuns s = false ∨ -5 < d.mv ∨ (d.sink = false ∧ (pdPort u s).gsrc = false) ∨ (d.sink = true ∧ (srcAt (usbSrc u) s).gate = false) →
      Answers (.pdReverse u d) s (fun t => t = s)) ∧
  (∀ (u : Fin 2) (s : State),
      let x := pdPort u s
      pdRuns s = true ∧ x.st = .attachedSrc ∧ x.vconn = true ∧ s.sys.inReset = false →
      (recentUs 60000000 s.sys.devTime x.faults).length + 1 < pn (Pid.PD_FAULT_MAX u.val) s →
      Answers (.pdVconnOc u) s (fun t => pdPort u t = { x with
            vconn := false, vconnOc := true, faults := recentUs 60000000 s.sys.devTime x.faults ++ [s.sys.devTime] } ∧  Delivered (0x1C0 +
          u.val) 0x13 0 s t ∧ Posted 0x8005 0 s t ∧ PdFrame u s t ∧ t.path = s.path ∧ t.pwr.vr = s.pwr.vr)) ∧
  (∀ (u : Fin 2) (s : State),
      pdRuns s = false ∨ (pdPort u s).vconn = false →
      Answers (.pdVconnOc u) s (fun t => t = s)) ∧
  (∀ (u : Fin 2) (s : State),
      let i := usbSrc u
      frameOn s = true ∧ (srcAt i s).limiting = true ∧ linkRuns s = true ∧ s.path.link = .battery ∧ s.est.test = none →
      (srcAt i s).st ≠ .quarantined ∧ (srcAt i s).st ≠ .disabled →
      (recentUs 60000000 s.sys.devTime (srcAt i s).exits).length + 1 ≤ pn Pid.SRC_BOUNCE_MAX s →
      Answers (.sinkLimiterExpiry u) s (fun t => (srcAt i t).gate = false ∧ (srcAt i t).st = .qualifying ∧ (srcAt i t).limiting = false ∧
          (srcAt i t).exits = recentUs 60000000 s.sys.devTime (srcAt i s).exits ++ [s.sys.devTime] ∧ t.path.link = .battery ∧ (∀ j, j ≠ i →
          srcAt j t = srcAt j s) ∧ t.pd = s.pd)) ∧
  (∀ (u : Fin 2) (s : State),
      (srcAt (usbSrc u) s).limiting = false →
      Answers (.sinkLimiterExpiry u) s (fun t => t = s)) ∧
  (∀ (u : Fin 2) (p : Port) (tag : Tag) (x : Slot) (s : State),
      let y := pdPort u s
      let d := fun (b : Bool) => if b = true then 1 else 0
      Admitted 0x801 p tag x s →
      CqRoom p s →
      (x.word 1).getLsbD 0 = decide (u = 1) ∧ y.gsrc = false ∧ (srcAt (usbSrc u) s).gate = false →
      Answers (.pdStatus p tag) s (fun t => CompletionOnly p s t ∧ CompletedWith p x 0x00 [w32 (y.st.code + 16 * (if y.st ≠ .attachedSnk ∧
          y.st ≠ .attachedSrc then 0 else if y.source = true then 1 else 2) + 64 * d y.dfp + 128 * d y.vconnSrc + 256 * d y.epr +
          512 * d y.svc + 1024 * y.pos), w32 y.mv, w32 y.ma, w32 y.vbus, 0, w32 (pdFlags u s), w32 y.hardResets] s t)) ∧
  (∀ (p : Port) (tag : Tag) (x : Slot) (s : State),
      Admitted 0x810 p tag x s →
      CqRoom p s →
      s.pd.imageBad = true →
      Answers (.pdRestart p tag) s (fun t => CompletionOnly p s t ∧ CompletedWith p x 0x30 [] s t)) ∧
  (∀ (p : Port) (tag : Tag) (x : Slot) (s : State),
      Admitted 0x810 p tag x s →
      s.pd.imageBad = false ∧ s.sys.inReset = false ∧ s.sys.porActive = false ∧ s.pd.a.st ≠ .attachedSnk ∧ s.pd.b.st ≠ .attachedSnk →
      Answers (.pdRestart p tag) s (fun t => RunsOn p tag x t ∧ t.pd.coreRuns = false ∧ t.pd.waiters = s.pd.waiters ++ [(p, tag)] ∧
          t.pd.a.st = .disabled ∧ t.pd.b.st = .disabled ∧ t.pd.a.cc = .open_ ∧ t.pd.a.gsrc = false ∧ t.pd.b.gsrc = false ∧
          t.pwr.vr = s.pwr.vr ∧ ∀ q, (t.hif.port q).cqTail = (s.hif.port q).cqTail)) ∧
  (∀ (u : Fin 2) (p : Port) (tag : Tag) (x : Slot) (s : State),
      let y := pdPort u s
      Admitted 0x811 p tag x s →
      CqRoom p s →
      (x.word 1).getLsbD 0 = decide (u = 1) ∧ (y.st = .disabled ∨ y.st = .locked) →
      Answers (.pdPortReset p tag) s (fun t => CompletionOnly p s t ∧ CompletedWith p x 0x17 [0] s t)) ∧
  (∀ (u : Fin 2) (p : Port) (tag : Tag) (x : Slot) (s : State),
      let y := pdPort u s
      Admitted 0x811 p tag x s →
      CqRoom p s →
      (x.word 1).getLsbD 0 = decide (u = 1) ∧ (x.word 1).getLsbD 8 = true ∧ y.st ≠ .disabled ∧ y.st ≠ .locked ∧ s.sys.inReset = false →
      Answers (.pdPortReset p tag) s (fun t => Completed p x 0x00 s t ∧ (pdPort u t).st = .errorRecovery ∧ (pdPort u t).cc = .open_ ∧
          (pdPort u t).pos = 0 ∧ (∀ v, v ≠ u → pdPort v t = pdPort v s) ∧ t.store = s.store)) ∧
  (∀ (p : Port) (x : Slot) (s : State),
      s.sys.boot.bootDone = true ∧ s.sys.inReset = false ∧ s.sys.pfHeld = false ∧ s.pd.imageBad = false ∧ s.pd.coreRuns = false →
      s.store.fw.pdVersion.isSome = true ∧ s.sys.dbgHalt.getLsbD 7 = false ∧ s.pd.waiters = [(p, x.tag)] ∧ findSlot p x.tag s = some x →
      CqRoom p s →
      Answers (.pdCoreRestart false) s (fun t => t.pd.coreRuns = true ∧ t.pd.waiters = [] ∧ CompletedWith p x 0x00 [] s t ∧ (∀ u : Fin 2,
          (pdPort u t).st = (pdPort u s).st ∧ (pdPort u t).chanOn = (if (pdChan u s).isSome = true then false else (pdPort u s).chanOn)) ∧
          t.path = s.path ∧ t.store = s.store)) ∧
  (∀ (v : Bool) (s : State),
      s.pd.imageBad = true ∨ s.pd.coreRuns = true ∨ s.sys.boot.bootDone = false ∨ s.sys.inReset = true →
      Answers (.pdCoreRestart v) s (fun t => t = s)) ∧
  (∀ (u : Fin 2) (sent : Bool) (s : State),
      let x := pdPort u s
      pdRuns s = true ∧ x.st = .attachedSnk ∧ x.source = false ∧ x.swap = none ∧ x.svc = false ∧ s.sys.inReset = false →
      Answers (.hardReset u sent) s (fun t => (x.hrCount < 2 → (pdPort u t).st = .attachedSnk ∧ (pdPort u t).hrSnk = true ∧
          (pdPort u t).hardResets = x.hardResets + 1 ∧ (pdPort u t).cc = .rd) ∧
          (2 ≤ x.hrCount → (pdPort u t).st = .errorRecovery ∧ (pdPort u t).cc = .open_) ∧ (pdPort u t).pos = 0 ∧
          (pdPort u t).mv = 0 ∧ (pdPort u t).pend = none ∧ (srcAt (usbSrc u) t).gate = false ∧
          (∀ v, v ≠ u → pdPort v t = pdPort v s))) ∧
  (∀ (u : Fin 2) (own : Bool) (s : State),
      let x := pdPort u s
      pdRuns s = true ∧ x.st = .attachedSnk ∧ x.source = false ∧ x.hrSrc = false ∧ x.hrSnk = false ∧ x.swap = none →
      pb (Pid.PD_PRS_ACCEPT u.val) s = false ∨ canSource u s = false ∨ onlyPath u s = true →
      Answers (.prSwap u own) s (fun t => PdOnly u { x with
          sent := if pb (Pid.PD_PRS_ACCEPT u.val) s = true ∧ canSource u s = true then .wait else .reject } s t)) ∧
  (∀ (u : Fin 2) (own : Bool) (s : State),
      let x := pdPort u s
      pdRuns s = true ∧ x.st = .attachedSnk ∧ x.source = false ∧ x.hrSrc = false ∧ x.hrSnk = false ∧ x.swap = none →
      pb (Pid.PD_PRS_ACCEPT u.val) s = true ∧ canSource u s = true ∧ onlyPath u s = false →
      Answers (.prSwap u own) s (fun t => (pdPort u t).sent = .accept ∧ (pdPort u t).swap = some .pr ∧ (pdPort u t).swapOk = false ∧
          (pdPort u t).st = .attachedSnk ∧ (srcAt (usbSrc u) t).gate = false ∧ (srcAt (usbSrc u) t).inWin = false ∧
          (∀ v, v ≠ u → pdPort v t = pdPort v s))) ∧
  (∀ (u : Fin 2) (p : Port) (tag : Tag) (x : Slot) (s : State),
      let y := pdPort u s
      let i := usbSrc u
      Admitted 0x801 p tag x s →
      CqRoom p s →
      (x.word 1).getLsbD 0 = decide (u = 1) ∧ y.gsrc = false ∧ (srcAt i s).gate = true →
      Answers (.pdStatus p tag) s (fun t => CompletionOnly p s t ∧ Completed p x 0x00 s t ∧
          cqWord p (s.hif.port p).cqTail 8 t =
            wInt (tquot (((y.vbus : Int) - s.path.vlink) * 1000000) (pn (Pid.PD_RPATH_SNK_UOHM u.val) s)))) ∧
  (∀ (s : State),
      s.sys.boot.bootDone = true ∧ s.sys.inReset = false ∧ s.sys.pfHeld = false ∧ s.pd.imageBad = false ∧ s.pd.coreRuns = false →
      s.store.fw.pdVersion.isSome = true ∧ s.sys.dbgHalt.getLsbD 7 = false ∧ s.pd.waiters = [] →
      s.sys.boot.full = true ∧ s.est.cutDown = none →
      s.pd.a.st = .disabled ∧ s.pd.b.st = .disabled ∧ s.pd.a.svc = false ∧ s.pd.b.svc = false →
      Answers (.pdCoreRestart true) s (fun t => t.pd.coreRuns = true ∧
          (∀ u : Fin 2, (pdPort u t).st = (idleState u s).1 ∧ (pdPort u t).cc = (idleState u s).2) ∧ t.hif = s.hif ∧ t.store = s.store))

/-- POWER_STATE with word 1 [1:0] of 1 or 2, in a state in which R67 does not refuse it, is DONE, and the save of R411 has begun with
  that state to follow; the remaining bits of word 1 do not matter. Any other value completes OUT_OF_RANGE and changes nothing else.
  [stated: R464] -/
def Obligations.PowerStateSelects : Prop :=
  (∀ (p : Port) (tag : Tag) (x : Slot) (s : State),
      let k := bitsOf (x.word 1) 0 2
      Admitted 0x010 p tag x s →
      CqRoom p s →
      k ≠ 1 ∧ k ≠ 2 →
      Answers (.powerState p tag) s (fun t => CompletionOnly p s t ∧ CompletedWith p x 0x14 [0] s t)) ∧
  (∀ (p : Port) (tag : Tag) (x : Slot) (s : State),
      let k := bitsOf (x.word 1) 0 2
      Admitted 0x010 p tag x s →
      CqRoom p s →
      (k = 1 ∨ k = 2) ∧ s.sys.mode ≠ .test ∧ s.heddle.safeHold = false ∧ allGroupsDown s = true ∧ s.pd.a.pos = 0 ∧ s.pd.b.pos = 0 →
      Answers (.powerState p tag) s (fun t => CompletedWith p x 0x00 [] s t ∧ t.sys.saving = true ∧ t.sys.sleepReq = some (if k = 1 then
          .deepSleep else .ship) ∧ t.sys.power = s.sys.power ∧ t.pwr = s.pwr ∧ t.path = s.path ∧ t.chg = s.chg ∧ t.pd = s.pd ∧
          t.store.nvm.kettle = s.store.nvm.kettle ∧ t.store.nvm.params = s.store.nvm.params))

/-- POWER_STATE is WRONG_STATE in TEST, in Safe Hold, with a group that is not DOWN or with a PD contract. A power failure switches the
  reserve on, holds the Shuttles, the PD core and the acquisition, and starts a save when the reserve is ready; when the supply returns the
  blocks run again. KETTLE_CHECK estimates the capacitance as 10 000 over the droop, a free value where no droop is measured; KETTLE_LOW is
  reported by pick, event and EIC source 217. A completed save is the newest kettle set, EIC source 214 follows, also with a page that
  fails, and a requested DEEP SLEEP or SHIP begins, with the Power Frame and the digital domain stopped and the ledger accumulator counting
  on. DEEP SLEEP ends as a chip reset of cause DEEP_SLEEP, by GPIO only on an input of FUNC 6; SHIP ends with a POR. Where a clause needs a
  reading of the manual or a choice, it is the model's: log entries 3, 4, 8, 24, 39, 46, 47. [derived: R64; R67; R68; R358; R411; R412;
  R471; log entry 3; log entry 4] -/
def Obligations.SleepAndKettle : Prop :=
  (∀ (p : Port) (tag : Tag) (x : Slot) (s : State),
      let k := bitsOf (x.word 1) 0 2
      Admitted 0x010 p tag x s →
      CqRoom p s →
      (k = 1 ∨ k = 2) ∧ (s.sys.mode = .test ∨ s.heddle.safeHold = true ∨ allGroupsDown s = false ∨ s.pd.a.pos ≠ 0 ∨ s.pd.b.pos ≠ 0) →
      Answers (.powerState p tag) s (fun t => CompletionOnly p s t ∧ CompletedWith p x 0x17 [0] s t)) ∧
  (∀ (s : State),
      awake s = true ∧ s.sys.porActive = false ∧ s.store.res.switched = false ∧ s.sys.inReset = false ∧ swf {} s.eic.src = true →
      s.pd.a.st ≠ .attachedSnk ∧ s.pd.b.st ≠ .attachedSnk →
      Answers .powerFailTrigger s (fun t => t.store.res = { s.store.res with switched := true } ∧ t.sys.pfHeld = true ∧
          t.sys.saving = (s.sys.saving || (s.store.res.ready && procsRun s)) ∧ Latched 218 s t ∧ t.pd.coreRuns = false ∧ t.chg.pwm = false ∧
          t.acq.running = false ∧ t.pwr.vr = s.pwr.vr ∧ t.pwr.ldo = s.pwr.ldo ∧ t.pwr.en = s.pwr.en ∧ t.store.otp = s.store.otp ∧
          t.store.nvm.kettle = s.store.nvm.kettle ∧ (∀ i : Fin 9, 1 ≤ i.val → i.val ≤ 7 → t.heddle.w[i].armed = false ∧
          t.heddle.w[i].boot = none))) ∧
  (∀ (s : State),
      awake s = false ∨ s.sys.porActive = true ∨ s.store.res.switched = true →
      Answers .powerFailTrigger s (fun t => t = s)) ∧
  (∀ (s : State),
      s.store.res.switched = true ∧ s.sys.pfHeld = true ∧ s.sys.porActive = false →
      Answers .powerReturn s (fun t => t.store.res = { s.store.res with switched := false } ∧ t.sys.pfHeld = false ∧ t.pwr.ldo = s.pwr.ldo ∧
          t.pwr.en = s.pwr.en ∧ t.store.otp = s.store.otp ∧ t.store.nvm.kettle = s.store.nvm.kettle ∧ t.sys.saving = s.sys.saving)) ∧
  (∀ (s : State),
      s.store.res.switched = false →
      Answers .powerReturn s (fun t => t = s)) ∧
  (∀ (s : State),
      Answers .kettleReady s (fun t => (awake s = true ∧ s.sys.porActive = false →
          t = { s with store := { s.store with res := { s.store.res with ready := true, lowVolt := false } } }) ∧ (awake s = false ∨
          s.sys.porActive = true → t = s))) ∧
  (∀ (d q : Nat) (s : State),
      cmdRuns s = true ∧ d ≠ 0 ∧ q * d ≤ 10000 ∧ 10000 < (q + 1) * d ∧ q < 65535 →
      Answers (.kettleCheck d) s (fun t => t = { s with
            store := { s.store with res := { s.store.res with cEst := t.store.res.cEst } } } ∧  (t.store.res.cEst = q ∨
          t.store.res.cEst = q + 1) ∧ (q * d = 10000 → t.store.res.cEst = q))) ∧
  (∀ (s : State),
      cmdRuns s = true →
      Answers (.kettleCheck 0) s (fun t => t = { s with
            sys := { s.sys with free := s.sys.free + 1 },
            store := { s.store with res := { s.store.res with cEst := (Config.freeWord s.sys.free).toNat % 65536 } } })) ∧
  (∀ (d : Nat) (s : State),
      cmdRuns s = false →
      Answers (.kettleCheck d) s (fun t => t = s)) ∧
  (∀ (w : KettleLowCause) (s : State),
      let c : Bool := if w = .voltage then s.store.res.ready && !s.store.res.lowVolt else decide (s.store.res.cEst < pn Pid.KETTLE_C_MIN_UF s)
      let n : Nat := if w = .voltage then 1 else 2
      c = true ∧ s.sys.inReset = false ∧ swf {} s.eic.src = true →
      Answers (.kettleLow w) s (fun t => Delivered 0x201 0x18 n s t ∧ Posted 0xB002 (w32 n) s t ∧ Latched 217 s t ∧
          t.store.res.lowVolt = (if w = .voltage then true else s.store.res.lowVolt) ∧ t.sys = s.sys ∧ t.path = s.path ∧ t.pd = s.pd ∧
          t.chg = s.chg ∧ t.store.nvm = s.store.nvm)) ∧
  (∀ (s : State),
      s.store.res.ready = false ∨ s.store.res.lowVolt = true →
      Answers (.kettleLow .voltage) s (fun t => t = s)) ∧
  (∀ (s : State),
      pn Pid.KETTLE_C_MIN_UF s ≤ s.store.res.cEst →
      Answers (.kettleLow .capacitance) s (fun t => t = s)) ∧
  (∀ (s : State),
      s.sys.saving = true ∧ s.sys.sleepReq = none ∧ s.sys.inReset = false ∧ swf {} s.eic.src = true →
      Answers (.kettleSaveComplete none) s (fun t => t.sys = { s.sys with saving := false } ∧ newestKettle t = some (kettleNow true s) ∧
          Latched 214 s t ∧ t.path = s.path ∧ t.chg = s.chg ∧ t.est = s.est ∧ t.pd = s.pd ∧ t.pwr = { s.pwr with grp := t.pwr.grp } ∧
          t.store.otp = s.store.otp ∧ t.store.nvm.learned = s.store.nvm.learned)) ∧
  (∀ (k : SleepKind) (s : State),
      s.sys.saving = true ∧ s.sys.sleepReq = some k →
      Answers (.kettleSaveComplete none) s (fun t => t.sys.power = (if k = .ship then .ship else .deepSleep) ∧ t.sys.saving = false ∧
          t.sys.frameRun = false ∧ t.sys.inReset = true ∧ newestKettle t = some (kettleNow true s) ∧ t.est.led.accIn = s.est.led.accIn ∧
          t.est.led.accOut = s.est.led.accOut ∧ t.pwr = {} ∧ t.chg = {} ∧ t.selv.ring = [] ∧ t.hif.slots = [] ∧
          t.heddle.violations = s.heddle.violations ∧ t.store.otp = s.store.otp ∧ t.store.rtc = s.store.rtc)) ∧
  (∀ (b : Option (BitVec 8)) (s : State),
      s.sys.saving = false →
      Answers (.kettleSaveComplete b) s (fun t => t = s)) ∧
  (∀ (w : WakeCause) (s : State),
      s.sys.power = .deepSleep ∧ (∀ n, w = .gpio n → pn (Pid.GPIO_CFG n.val) s % 16 = 6) ∧ s.sys.saving = false ∧ s.sys.rstnLong = false →
      Answers (.deepSleepWake w) s (fun t => t.sys.power = .run ∧ t.sys.frameRun = true ∧ t.sys.inReset = true ∧ t.sys.mode = .recovery ∧
          t.sys.rstLast = 0xB ∧ t.sys.rstBits = s.sys.rstBits ||| 0x4000 ∧ t.est.led.accIn = s.est.led.accIn ∧ t.store.otp = s.store.otp ∧
          t.store.nvm.kettle = s.store.nvm.kettle ∧ t.sys.devTime = s.sys.devTime)) ∧
  (∀ (w : WakeCause) (s : State),
      s.sys.power ≠ .deepSleep ∨ (∃ n : Fin 16, w = .gpio n ∧ pn (Pid.GPIO_CFG n.val) s % 16 ≠ 6) →
      Answers (.deepSleepWake w) s (fun t => t = s)) ∧
  (∀ (w : WakeCause) (s : State),
      (w = .wakePin ∨ w = .rtcAlarm) ∧ s.sys.power = .ship →
      Answers (.shipWake w) s (fun t => t.sys.porActive = true ∧ t.sys.porCause = 0xC ∧ t.store.nvm.kettle = s.store.nvm.kettle ∧
          t.store.nvm.params = s.store.nvm.params ∧ t.store.otp.words = s.store.otp.words)) ∧
  (∀ (w : WakeCause) (s : State),
      (w ≠ .wakePin ∧ w ≠ .rtcAlarm) ∨ s.sys.power ≠ .ship →
      Answers (.shipWake w) s (fun t => t = s)) ∧
  (∀ (pg : BitVec 8) (s : State),
      s.sys.saving = true ∧ s.sys.sleepReq = none ∧ s.sys.inReset = false ∧ swf {} s.eic.src = true →
      Answers (.kettleSaveComplete (some pg)) s (fun t => t.sys.saving = false ∧ t.path = s.path ∧ t.chg = s.chg ∧ t.est = s.est ∧
          t.pd = s.pd ∧ t.store.otp = s.store.otp))

/-- A pick that some source sends enters the intake, counted, and is dropped and counted when 16 wait; in reset only a Power Frame trip
  is kept, as a flag. The Selvedge takes the oldest pick: it merges into the newest ring record, counts as dropped at REPEAT 255, or
  makes a new record with the pick's time; a FAULT pick sets its status bit, and the reaction set latches its line, ERR_N or begins a
  chip reset. FAULT_READ and FAULT_LOG_READ return their words; FAULT_CLEAR clears the set bits whose cause is gone and counts each
  refused one, the ERR latch as R367 states; with EIC.STORM_AUTO a held STORM is cleared each second. FAULT_INJECT arms an injection
  where R368 allows it. A change of SELV.DROPPED is posted once per second. Where a clause needs a reading of the manual or a choice, it
  is the model's: log entries 38, 41, 42. [derived: R354; R355; R356; R357; R359; R360; R362; R363; R364; R365; R369; R384] -/
def Obligations.SelvedgePicksAndClears : Prop :=
  (∀ (p : Port) (tag : Tag) (x : Slot) (s : State),
      let k := bitsOf (x.word 1) 0 8
      let a := (x.word 2).toNat
      let v := s.selv
      Admitted 0x901 p tag x s →
      CqRoom p s →
      k = 0 ∨ (k = 1 ∧ a ≤ 0x21F) ∨ (k = 2 ∧ a ≤ 15) ∨ (k = 3 ∧ a ≤ 63) ∨ k = 4 →
      Answers (.faultRead p tag) s (fun t => CompletionOnly p s t ∧ CompletedWith p x 0x00 (if k = 0 then [stickySummary s, w32 v.received,
          w32 v.stored, w32 v.dropped, w32 v.clearRefused, w32 v.frozen.length, w32 v.ringIdx.toNat, w32 (b01 v.errLatch +
          2 * b01 (errN s))] else if k = 1 then [(sget 0 v.status a).setWidth 32, (sget 0 v.status a >>> 32).setWidth 32,
          w32 (sget 0 v.refused a)] else if k = 2 then ((v.frozen.drop a).take 3).flatMap SelvRec.words else if k = 3 then
          ((v.ring.reverse.drop a).take 3).flatMap SelvRec.words else [s.sys.overrun.setWidth 32, w32 (sget 0 s.sys.overrunCount 2),
          w32 (sget 0 s.sys.overrunCount 5), w32 (sget 0 s.sys.overrunCount 8), w32 (sget 0 s.sys.overrunCount 12)]) s t)) ∧
  (∀ (p : Port) (tag : Tag) (x : Slot) (s : State),
      let k := bitsOf (x.word 1) 0 8
      let a := (x.word 2).toNat
      Admitted 0x901 p tag x s →
      CqRoom p s →
      4 < k ∨ (k = 1 ∧ 0x21F < a) ∨ (k = 2 ∧ 15 < a) ∨ (k = 3 ∧ 63 < a) →
      Answers (.faultRead p tag) s (fun t => CompletionOnly p s t ∧ CompletedWith p x 0x14 [if 4 < k then 0 else 1] s t)) ∧
  (∀ (p : Port) (tag : Tag) (x : Slot) (s : State),
      let a := bitsOf (x.word 1) 0 10
      let m : BitVec 64 := x.word 3 ++ x.word 2
      let b := sget 0 s.selv.status a
      let no := (List.range 64).countP (fun k => m.getLsbD k && b.getLsbD k && !causeGone a k s)
      Admitted 0x902 p tag x s →
      CqRoom p s →
      a ≠ 0x3FF ∧ swf 0 s.selv.status = true ∧ swf 0 s.selv.refused = true ∧ s.sys.inReset = false ∧ sget 0 s.selv.refused a ≤ 255 →
      Answers (.faultClear p tag) s (fun t => Completed p x (if no = 0 then 0x00 else 0x01) s t ∧ (∀ k : Fin 64,
          (sget 0 t.selv.status a).getLsbD k.val = (b.getLsbD k.val && !(m.getLsbD k.val && causeGone a k.val s))) ∧ (∀ c : Fin 544,
          c.val ≠ a → sget 0 t.selv.status c.val = sget 0 s.selv.status c.val) ∧
          sget 0 t.selv.refused a = min 255 (sget 0 s.selv.refused a + no) ∧ t.selv.ring = s.selv.ring ∧ t.selv.frozen = s.selv.frozen ∧
          t.store.otp = s.store.otp)) ∧
  (∀ (p : Port) (tag : Tag) (x : Slot) (s : State),
      Admitted 0x902 p tag x s →
      CqRoom p s →
      bitsOf (x.word 1) 0 10 = 0x3FF →
      Answers (.faultClear p tag) s (fun t => Completed p x (if s.selv.errLatch = true ∧ errClearable s = false then 0x01 else 0x00) s t ∧
          t.selv = { s.selv with errLatch := s.selv.errLatch && !errClearable s, clearRefused := t.selv.clearRefused } ∧
          t.selv.clearRefused = (if s.selv.errLatch = true ∧ errClearable s = false then satAdd max32 s.selv.clearRefused 1 else
          s.selv.clearRefused) ∧ t = { s with hif := t.hif, selv := t.selv, sys := t.sys } ∧ t.sys = { s.sys with free := t.sys.free })) ∧
  (∀ (p : Port) (tag : Tag) (x : Slot) (s : State),
      let off := (x.word 2).toNat
      let n := s.store.nvm.faultSets[bitsOf (x.word 1) 0 2]?
      Admitted 0x903 p tag x s →
      CqRoom p s →
      Answers (.faultLogRead p tag) s (fun t => CompletionOnly p s t ∧ (n = none → CompletedWith p x 0x13 [0] s t) ∧ (n ≠ none →
          (off % 4 ≠ 0 ∨ 1344 ≤ off) → CompletedWith p x 0x14 [1] s t) ∧ (∀ f, n = some f → off % 4 = 0 → off < 1344 →
          Completed p x (if f.2.complete = true then 0x00 else 0x01) s t))) ∧
  (∀ (p : Port) (tag : Tag) (x : Slot) (s : State),
      let k := bitsOf (x.word 1) 0 10
      let m : Byte := (x.word 2).setWidth 8
      let off := (x.word 3).toNat
      Admitted 0x904 p tag x s →
      CqRoom p s →
      Answers (.faultInject p tag) s (fun t => (injectAllowed s = false → CompletionOnly p s t ∧ CompletedWith p x 0x17 [0] s t) ∧
          (injectAllowed s = true → knownChecker k = false ∨ 1 < bitsOf (x.word 1) 16 2 → CompletionOnly p s t ∧
          CompletedWith p x 0x14 [0] s t) ∧ (injectAllowed s = true → knownChecker k = true → bitsOf (x.word 1) 16 2 ≤ 1 → m = 0 →
          CompletionOnly p s t ∧ CompletedWith p x 0x14 [1] s t) ∧ (injectAllowed s = true → memChecker k = true →
          bitsOf (x.word 1) 16 2 ≤ 1 → m ≠ 0 → off % 8 ≠ 0 ∨ memSize k ≤ off → CompletionOnly p s t ∧ CompletedWith p x 0x14 [2] s t) ∧
          (injectAllowed s = true → knownChecker k = true → bitsOf (x.word 1) 16 2 ≤ 1 → m ≠ 0 → memChecker k = false ∨ (off % 8 = 0 ∧
          off < memSize k) → CompletedWith p x 0x00 [w32 (s.selv.injections.length + 1)] s t ∧ t = { s with hif := t.hif, selv := t.selv } ∧
          t.selv = { s.selv with injections := s.selv.injections ++ [⟨k, m, (x.word 1).getLsbD 16, x.word 3⟩] }))) ∧
  (∀ (a : BitVec 10) (k : BitVec 6) (d : BitVec 16) (s : State),
      let sent := pickClass a.toNat k.toNat ≠ none
      let q : Pick := ⟨a, k, d⟩
      Answers (.pickIntake a k d) s (fun t => t = { s with selv := t.selv } ∧ (¬ sent → t = s) ∧ (sent → s.sys.inReset = false →
          s.selv.intake.length < 16 →
          t.selv = { s.selv with intake := s.selv.intake ++ [⟨q, false, s.sys.devTime⟩], received := satAdd max32 s.selv.received 1 }) ∧
          (sent → s.sys.inReset = false → 16 ≤ s.selv.intake.length →
          t.selv = { s.selv with dropped := satAdd max32 s.selv.dropped 1, received := satAdd max32 s.selv.received 1 }) ∧ (sent →
          s.sys.inReset = true → frameSource a.toNat = true → t.selv = { s.selv with frameFlags := s.selv.frameFlags ++ [⟨q, none⟩] }) ∧
          (s.sys.inReset = true → frameSource a.toNat = false → t = s))) ∧
  (∀ (q : IntakePick) (l : List IntakePick) (s : State),
      s.selv.intake = q :: l ∧ s.sys.inReset = false ∧ merges q s = false →
      Answers .pickStore s (fun t => t.selv.ring.getLast?.map (fun r => (r.pick, r.rpt, r.carried, r.time, r.note)) = some (q.pick, 0,
          q.carried, q.time, q.pick.isNote) ∧ t.selv.ring.dropLast = newest 63 s.selv.ring ∧ t.selv.ringIdx = s.selv.ringIdx + 1 ∧
          t.selv.stored = satAdd max32 s.selv.stored 1 ∧ (16 ≤ s.selv.frozen.length → t.selv.frozen = s.selv.frozen) ∧
          (s.selv.frozen.length < 16 → t.selv.frozen.length = s.selv.frozen.length + 1) ∧ (q.pick.mild = true →
          t.selv.status = s.selv.status) ∧ t.store.otp = s.store.otp)) ∧
  (∀ (q : IntakePick) (l : List IntakePick) (s : State),
      let r := reactSet q.pick s
      s.selv.intake = q :: l ∧ s.sys.inReset = false ∧ merges q s = false ∧ selvOver s = false →
      q.pick.mild = false ∧ 0x080 ≤ q.pick.src.toNat ∧ q.carried = false ∧ swf 0 s.selv.status = true ∧ swf {} s.eic.src = true ∧
          r.testBit 3 = false →
      Answers .pickStore s (fun t => statusBit q.pick.src.toNat q.pick.kind.toNat t = true ∧ (r.testBit 0 = true → Latched (224 +
          (r / 64) % 4) s t ∧ Posted 0x9001 q.pick.word s t) ∧ t.selv.errLatch = (s.selv.errLatch || r.testBit 5) ∧ (r.testBit 4 = true →
          s.sys.resetBegun = none → s.sys.porActive = false → t.sys.resetBegun = some .selvedge) ∧ (r.testBit 4 = false →
          t = { s with selv := t.selv, hif := t.hif, eic := t.eic, pwr := t.pwr } ∧ t.pwr = { s.pwr with grp := t.pwr.grp }))) ∧
  (∀ (q : IntakePick) (l : List IntakePick) (r : SelvRec) (s : State),
      s.selv.intake = q :: l ∧ s.sys.inReset = false ∧ s.selv.ring.getLast? = some r →
      r.pick = q.pick ∧ q.time ≤ r.time + pn Pid.SELV_MERGE_US s ∧ pn Pid.SELV_MERGE_US s ≠ 0 →
      Answers .pickStore s (fun t => t.selv.ring.length = s.selv.ring.length ∧ t.selv.ringIdx = s.selv.ringIdx ∧
          t.selv.ring.dropLast = s.selv.ring.dropLast ∧ (r.rpt ≠ 255 → t.selv.ring.getLast? = some { r with rpt := r.rpt + 1 } ∧
          t.selv.dropped = s.selv.dropped ∧ t.selv.stored = satAdd max32 s.selv.stored 1) ∧ (r.rpt = 255 → t.selv.ring = s.selv.ring ∧
          t.selv.frozen = s.selv.frozen ∧ t.selv.dropped = satAdd max32 s.selv.dropped 1 ∧ t.selv.stored = s.selv.stored))) ∧
  (∀ (s : State),
      s.selv.intake = [] ∨ s.sys.inReset = true →
      Answers .pickStore s (fun t => t = s)) ∧
  (∀ (s : State),
      let n := nextTick 8 1000000 s
      let on := pb Pid.EIC_STORM_AUTO s && cmdRuns s && s.eic.src.any (fun e => e.2.storm) && statusBit 0x01C 0x08 s
      swf 0 s.selv.status = true →
      Answers .stormAutoClear s (fun t => t.sys.devTime = n ∧ (on = false → t = { s with sys := t.sys }) ∧ (on = true →
          stormOver { s with sys := t.sys } = true → statusBit 0x01C 0x08 t = false ∧ t.eic.src.all (fun e => !e.2.storm) = true ∧
          t = { s with sys := t.sys, selv := t.selv, eic := t.eic }) ∧ (on = true → stormOver { s with sys := t.sys } = false →
          statusBit 0x01C 0x08 t = true ∧ t.selv.clearRefused = satAdd max32 s.selv.clearRefused 1 ∧
          t = { s with sys := t.sys, selv := t.selv }))) ∧
  (∀ (s : State),
      Answers .pickDropped s (fun t => t.sys.devTime = nextTick 1 1000000 s ∧ t = { s with sys := t.sys, hif := t.hif, selv := t.selv } ∧
          (s.selv.dropped = s.selv.droppedPosted ∨ s.sys.inReset = true → t = { s with sys := t.sys }) ∧
          (s.selv.dropped ≠ s.selv.droppedPosted → s.sys.inReset = false → t.selv = { s.selv with droppedPosted := s.selv.dropped } ∧
          t.hif.events = s.hif.events ++ [⟨0x9002, w32 s.selv.dropped, t.sys.devTime⟩])))

/-- An edge of a source that is not reserved is latched and counted; in reset it is not. A pending source goes to the target that routing
  names, which is notified of its best source; a claim takes the assigned source, clears its pending bit and raises the running priority,
  and a completion restores it, while one of a source not claimed raises BAD_COMPLETE. EVENT_INJECT acts as an edge with INJECTED set,
  SW0 to SW15 in every mode, others only in TEST; EVENT_READ returns the counters and with CLEAR clears them. A GPIO edge is latched and
  acts by its FUNC when CMD receives it; MAINS_FAIL and FIRE_ALARM end as their inputs clear. Where a clause needs a reading of the
  manual or a choice, it is the model's: log entries 35, 43. [derived: R371; R372; R374; R376; R377; R378; R383; R384; R472; log entry 3]
  -/
def Obligations.EventControllerAndInputs : Prop :=
  (∀ (n : BitVec 8) (s : State),
      s.sys.inReset = false ∧ eicReserved n.toNat = false ∧ swf {} s.eic.src = true →
      Answers (.eicEdge n) s (fun t => Latched n.toNat s t ∧ EdgeFrame s t ∧ NoPickBut n.toNat s t ∧
          (t.eic.get n.toNat).sat = ((s.eic.get n.toNat).sat || decide (255 ≤ (s.eic.get n.toNat).count)) ∧
          (t.eic.get n.toNat).injected = (s.eic.get n.toNat).injected ∧ t.eic.tgt = s.eic.tgt ∧ (∀ m : Fin 256, m.val ≠ n.toNat →
          t.eic.get m.val = s.eic.get m.val))) ∧
  (∀ (n : BitVec 8) (s : State),
      s.sys.inReset = true ∨ eicReserved n.toNat = true →
      Answers (.eicEdge n) s (fun t => t = s)) ∧
  (∀ (n : BitVec 8) (k : Fin 9) (s : State),
      route n.toNat s = some k.val →
      Answers (.eicDeliver n) s (fun t => t.eic.tgt[k].assigned = some (betterSource (assignedStill k.val s) n.toNat s) ∧
          t.eic.tgt[k].running = s.eic.tgt[k].running ∧ t.eic.tgt[k].claims = s.eic.tgt[k].claims ∧ (∀ j, j ≠ k →
          t.eic.tgt[j] = s.eic.tgt[j]) ∧ t.eic.src = s.eic.src ∧ t = { s with eic := t.eic })) ∧
  (∀ (n : BitVec 8) (s : State),
      (s.eic.get n.toNat).pending = false ∨ (s.eic.get n.toNat).storm = true ∨ eicPrio n.toNat s = 0 →
      Answers (.eicDeliver n) s (fun t => t = s)) ∧
  (∀ (n : Nat) (k : Fin 9) (s : State),
      let y := s.eic.tgt[k]
      y.assigned = some n ∧ route n s = some k.val ∧ swf {} s.eic.src = true →
      Answers (.eicClaim k) s (fun t => t.eic.tgt[k] = ⟨eicPrio n s, (n, y.running) :: y.claims, none⟩ ∧ (t.eic.get n).pending = false ∧
          (t.eic.get n).count = (s.eic.get n).count ∧ (∀ j, j ≠ k → t.eic.tgt[j] = s.eic.tgt[j]) ∧ (∀ m : Fin 256, m.val ≠ n →
          t.eic.get m.val = s.eic.get m.val) ∧ t = { s with eic := t.eic })) ∧
  (∀ (k : Fin 9) (s : State),
      (∀ n, s.eic.tgt[k].assigned = some n → route n s ≠ some k.val) →
      Answers (.eicClaim k) s (fun t => t.eic.tgt[k] = { s.eic.tgt[k] with assigned := none } ∧ (∀ j, j ≠ k → t.eic.tgt[j] = s.eic.tgt[j]) ∧
          t.eic.src = s.eic.src ∧ t = { s with eic := t.eic })) ∧
  (∀ (k : Fin 9) (n : BitVec 8) (r : Nat) (l : List (Nat × Nat)) (s : State),
      let y := s.eic.tgt[k]
      y.claims = (n.toNat, r) :: l →
      Answers (.eicComplete k n) s (fun t => t.eic.tgt[k] = { y with running := r, claims := l } ∧ (∀ j, j ≠ k →
          t.eic.tgt[j] = s.eic.tgt[j]) ∧ t.eic.src = s.eic.src ∧ t = { s with eic := t.eic })) ∧
  (∀ (k : Fin 9) (n : BitVec 8) (s : State),
      s.eic.tgt[k].claims.all (fun c => c.1 != n.toNat) = true ∧ s.sys.inReset = false →
      Answers (.eicComplete k n) s (fun t => t = { s with selv := t.selv } ∧ Picked 0x01C 0x09 n.toNat s t)) ∧
  (∀ (p : Port) (tag : Tag) (x : Slot) (s : State),
      let n := bitsOf (x.word 1) 0 8
      Admitted 0x910 p tag x s →
      CqRoom p s →
      s.sys.inReset = false ∧ swf {} s.eic.src = true →
      Answers (.eventInject p tag) s (fun t => (eicReserved n = true → CompletionOnly p s t ∧ CompletedWith p x 0x14 [0] s t) ∧
          (eicReserved n = false → (n < 232 ∨ 247 < n) → s.sys.mode ≠ .test → CompletionOnly p s t ∧ CompletedWith p x 0x17 [0] s t) ∧
          (eicReserved n = false → (232 ≤ n ∧ n ≤ 247) ∨ s.sys.mode = .test → CompletedWith p x 0x00 [] s t ∧ Latched n s t ∧
          (t.eic.get n).injected = true ∧ t.eic.tgt = s.eic.tgt ∧ t = { s with hif := t.hif, eic := t.eic, pwr := t.pwr, selv := t.selv } ∧
          t.pwr = { s.pwr with grp := t.pwr.grp } ∧ (∀ g : Fin 8, s.pwr.grp[g].evSrc = some n → t.pwr.grp[g].evLatch = true)))) ∧
  (∀ (p : Port) (tag : Tag) (x : Slot) (s : State),
      let a := bitsOf (x.word 1) 0 8
      let n := bitsOf (x.word 1) 8 8
      Admitted 0x911 p tag x s →
      CqRoom p s →
      swf {} s.eic.src = true →
      Answers (.eventRead p tag) s (fun t => (n = 0 ∨ 12 < n ∨ 256 < a + n → CompletionOnly p s t ∧ CompletedWith p x 0x14 [0] s t) ∧
          (1 ≤ n → n ≤ 12 → a + n ≤ 256 → CompletedWith p x 0x00 ((List.range n).map (fun i => eventReadWord (a + i) s)) s t ∧
          t = { s with hif := t.hif, eic := t.eic } ∧ t.eic.tgt = s.eic.tgt ∧ (∀ m : Fin 256,
          t.eic.get m.val = (if (x.word 1).getLsbD 16 = true ∧ a ≤ m.val ∧ m.val < a + n then
          { s.eic.get m.val with count := 0, sat := false, injected := false } else s.eic.get m.val))))) ∧
  (∀ (n : Fin 16) (s : State),
      gpioRuns s = false ∨ gpioFunc n s = 0 ∨ gpioFunc n s = 5 →
      Answers (.gpioEdge n) s (fun t => t = s)) ∧
  (∀ (n : Fin 16) (s : State),
      let f := gpioFunc n s
      gpioRuns s = true ∧ f ≠ 0 ∧ f ≠ 5 ∧ s.gpio[n].fresh = false ∧ swf {} s.eic.src = true ∧ s.est.test = none ∧
          (s.eic.get n.val).storm = false →
      0 < eicPrio n.val s ∧ (eicTargets n.val s).testBit 0 = true ∧ cmdRuns s = true ∧ eicExempt n.val s = true ∧ f ≠ 4 →
      Answers (.gpioEdge n) s (fun t => Latched n.val s t ∧ (f = 1 → Posted 0x9010 (w32 n.val) s t) ∧ (f = 2 → s.gpio[n].alarmed = false →
          Posted 0x9011 0 s t ∧ t.gpio[n].alarmed = true) ∧ (f = 2 →
          t.path = { s.path with dca := { s.path.dca with expectFail := true }, dcb := { s.path.dcb with expectFail := true } }) ∧ (f = 3 →
          s.gpio[n].alarmed = false → Posted 0x9013 0x80000000 s t ∧ t.gpio[n].alarmed = true) ∧ (∀ m, m ≠ n → t.gpio[m] = s.gpio[m]) ∧
          t.pwr = { s.pwr with grp := t.pwr.grp } ∧ t.store = s.store ∧ t.pd = s.pd)) ∧
  (∀ (n : Fin 16) (s : State),
      gpioRuns s = true ∧ gpioFunc n s ≠ 0 ∧ gpioFunc n s ≠ 5 ∧ swf {} s.eic.src = true ∧ (eicTargets n.val s).testBit 0 = false →
      Answers (.gpioEdge n) s (fun t => Latched n.val s t ∧ t.gpio[n] = { s.gpio[n] with fresh := false } ∧ (∀ m, m ≠ n →
          t.gpio[m] = s.gpio[m]) ∧ t.path = s.path ∧ t.est = s.est ∧ t.store = s.store)) ∧
  (∀ (n : Fin 16) (s : State),
      gpioRuns s = true ∧ gpioFunc n s = 2 ∧ s.gpio[n].alarmed = true →
      Answers (.mainsBack n) s (fun t => Raised 0x9012 0 s t ∧ t.gpio[n] = { s.gpio[n] with alarmed := false } ∧ (∀ m, m ≠ n →
          t.gpio[m] = s.gpio[m]) ∧
          t.path = { s.path with dca := { s.path.dca with expectFail := false }, dcb := { s.path.dcb with expectFail := false } } ∧
          t = { s with gpio := t.gpio, path := t.path, hif := t.hif })) ∧
  (∀ (n : Fin 16) (s : State),
      gpioRuns s = true ∧ gpioFunc n s = 3 ∧ s.gpio[n].alarmed = true →
      Answers (.fireAlarmClear n) s (fun t => Raised 0x9013 0 s t ∧ t.gpio[n] = { s.gpio[n] with alarmed := false } ∧ (∀ m, m ≠ n →
          t.gpio[m] = s.gpio[m]) ∧ t = { s with gpio := t.gpio, hif := t.hif })) ∧
  (∀ (n : Fin 16) (s : State),
      s.gpio[n].alarmed = false ∨ gpioRuns s = false ∨ gpioFunc n s ≠ 2 →
      Answers (.mainsBack n) s (fun t => t = s)) ∧
  (∀ (n : Fin 16) (s : State),
      s.gpio[n].alarmed = false ∨ gpioRuns s = false ∨ gpioFunc n s ≠ 3 →
      Answers (.fireAlarmClear n) s (fun t => t = s))

/-- A check-in at the opening cycle or later and before the closing cycle counts once for its thread; a service in time with every thread
  checked in starts the next window, with an accepted registration in force, and one with a thread missing changes nothing. Too early, a
  thread twice or not registered, a late service, a missing thread or a boot window that closes are violations: pick, host event,
  evidence, strike and the ladder's step, which begins a chip reset at step 2 and Safe Hold at step 3. SAF's keepalives move its fixed
  window. After a chip reset has begun no violation is acted on, and a processor that is not watched has none. A strike clears when its
  time has run, the chip-reset count with the last one. WDG_READ returns the ladder, the strikes and the evidence. Where a clause needs a
  reading of the manual or a choice, it is the model's: log entries 4, 38, 44, 45. [derived: R387; R388; R389; R390; R391; R392; R393;
  R394; R395; R396; R398; R402] -/
def Obligations.HeddleWindowsAndLadder : Prop :=
  (∀ (w : Proc) (d : Fin 16) (c : Nat) (pc : W) (s : State),
      let i := procCode w
      let x := watch i s
      watching i s = true ∧ x.armed = true ∧ i ≠ 8 ∧ s.sys.resetBegun = none →
      openCycle i x ≤ c ∧ c < closeCycle i x ∧ (threadsOf x).getLsbD d.val = true ∧ x.checked.getLsbD d.val = false →
      Answers (.wdgCheckIn w d c pc) s (fun t => t.heddle.w[i] = { x with checked := x.checked ||| (1#16 <<< d.val) } ∧ (∀ j, j ≠ i →
          t.heddle.w[j] = s.heddle.w[j]) ∧ t = { s with heddle := { s.heddle with w := t.heddle.w } })) ∧
  (∀ (w : Proc) (d : Fin 16) (c : Nat) (pc : W) (s : State),
      let i := procCode w
      let x := watch i s
      watching i s = true ∧ x.armed = true ∧ i ≠ 8 ∧ s.sys.resetBegun = none ∧ s.sys.boot.bootDone = true ∧ s.sys.bootErr ≠ 2 →
      Answers (.wdgCheckIn w d c pc) s (fun t => (c < openCycle i x → Violated i 4 0 s t) ∧ (openCycle i x ≤ c → c ≤ closeCycle i x →
          (threadsOf x).getLsbD d.val = false → Violated i 1 (1#16 <<< d.val) s t) ∧ (openCycle i x ≤ c → c < closeCycle i x →
          x.checked.getLsbD d.val = true → Violated i 1 (1#16 <<< d.val) s t) ∧ (closeCycle i x ≤ c → openCycle i x ≤ c →
          (threadsOf x).getLsbD d.val = true ∨ closeCycle i x < c → missingThreads x ≠ 0 → Violated i 2 (missingThreads x) s t) ∧ (closeCycle i x ≤ c →
          openCycle i x ≤ c → (threadsOf x).getLsbD d.val = true ∨ closeCycle i x < c → missingThreads x = 0 → Violated i 3 0 s t))) ∧
  (∀ (w : Proc) (d : Fin 16) (c : Nat) (pc : W) (s : State),
      watching (procCode w) s = false ∨ (watch (procCode w) s).armed = false →
      Answers (.wdgCheckIn w d c pc) s (fun t => t = s)) ∧
  (∀ (w : Proc) (c : Nat) (r : Option Registration) (pc : W) (s : State),
      let i := procCode w
      let x := watch i s
      watching i s = true ∧ i ≠ 8 ∧ x.boot = none ∧ x.armed = true ∧ openCycle i x ≤ c ∧ c < closeCycle i x ∧ missingThreads x = 0 ∧
          (∀ q, r = some q → regOk q = true) →
      Answers (.wdgService w c r pc) s (fun t => t.heddle.w[i] = { x with
            start := c, checked := 0, last := s.sys.devTime, reg := t.heddle.w[i].reg } ∧  (∀ q, r = some q → regOk q = true →
          t.heddle.w[i].reg = some q) ∧ (r = none →
          t.heddle.w[i].reg = x.reg) ∧ (∀ j, j ≠ i → t.heddle.w[j] = s.heddle.w[j]) ∧
          t = { s with heddle := { s.heddle with w := t.heddle.w } })) ∧
  (∀ (w : Proc) (c : Nat) (q : Registration) (pc : W) (s : State),
      let i := procCode w
      let x := watch i s
      watching i s = true ∧ i ≠ 8 ∧ x.boot = none ∧ x.armed = true ∧ openCycle i x ≤ c ∧ c < closeCycle i x ∧ regOk q = false →
      Answers (.wdgService w c (some q) pc) s (fun t => t = s)) ∧
  (∀ (w : Proc) (c : Nat) (r : Option Registration) (pc : W) (s : State),
      let i := procCode w
      let x := watch i s
      watching i s = true ∧ i ≠ 8 ∧ x.boot = none ∧ x.armed = true ∧ s.sys.resetBegun = none ∧ s.sys.boot.bootDone = true ∧
          s.sys.bootErr ≠ 2 →
      Answers (.wdgService w c r pc) s (fun t => (c < openCycle i x → Violated i 4 0 s t) ∧ (openCycle i x ≤ c → c < closeCycle i x →
          missingThreads x ≠ 0 → t = s) ∧ (openCycle i x ≤ c → closeCycle i x ≤ c → missingThreads x ≠ 0 →
          Violated i 2 (missingThreads x) s t) ∧ (openCycle i x ≤ c → closeCycle i x ≤ c → missingThreads x = 0 → Violated i 3 0 s t))) ∧
  (∀ (w : Proc) (c : Nat) (q : Registration) (pc : W) (s : State),
      let i := procCode w
      let x := watch i s
      watching i s = true ∧ i ≠ 8 ∧ x.boot.isSome = true ∧ regOk q = true →
      Answers (.wdgService w c (some q) pc) s (fun t => t.heddle.w[i] = { x with
            boot := none, armed := true, start := c, checked := 0, last := s.sys.devTime, reg := some q, good := t.heddle.w[i].good } ∧
          (x.strike = true → x.good = none → t.heddle.w[i].good = some (pn Pid.WDG_GOOD_S s * 1000000, s.sys.devTime)) ∧ (x.strike = false ∨
          x.good.isSome = true → t.heddle.w[i].good = x.good) ∧ (∀ j, j ≠ i → t.heddle.w[j] = s.heddle.w[j]) ∧
          t = { s with heddle := { s.heddle with w := t.heddle.w } })) ∧
  (∀ (w : Proc) (c : Nat) (r : Option Registration) (pc : W) (s : State),
      let i := procCode w
      let x := watch i s
      watching i s = false ∨ (x.boot.isSome = true ∧ r.any regOk = false) ∨ (x.boot = none ∧ x.armed = false) →
      Answers (.wdgService w c r pc) s (fun t => t = s)) ∧
  (∀ (c : Nat) (pc : W) (s : State),
      let x := watch 8 s
      watching 8 s = true ∧ (x.boot.isSome = true ∨ (x.armed = true ∧ x.start + 120000 ≤ c ∧ c < x.start + 960000)) →
      Answers (.wdgKeepalive c pc) s (fun t => t.heddle.w[(8 : Fin 9)] = { x with
            boot := none, armed := true, start := c, checked := 0, last := s.sys.devTime, good := t.heddle.w[(8 : Fin 9)].good } ∧
          (∀ j : Fin 9, j ≠ 8 → t.heddle.w[j] = s.heddle.w[j]) ∧ t = { s with heddle := { s.heddle with w := t.heddle.w } })) ∧
  (∀ (c : Nat) (pc : W) (s : State),
      let x := watch 8 s
      watching 8 s = true ∧ x.boot = none ∧ x.armed = true ∧ s.sys.resetBegun = none ∧ s.sys.boot.bootDone = true ∧ s.sys.bootErr ≠ 2 →
      c < x.start + 120000 ∨ x.start + 960000 ≤ c →
      Answers (.wdgKeepalive c pc) s (fun t => (c < x.start + 120000 → Violated 8 6 4 s t) ∧ (x.start + 960000 ≤ c → Violated 8 6 3 s t))) ∧
  (∀ (c : Nat) (pc : W) (s : State),
      watching 8 s = false ∨ ((watch 8 s).boot = none ∧ (watch 8 s).armed = false) →
      Answers (.wdgKeepalive c pc) s (fun t => t = s)) ∧
  (∀ (w : Proc) (pc : W) (s : State),
      let i := procCode w
      let x := watch i s
      watching i s = true ∧ x.armed = true ∧ s.sys.resetBegun = none ∧ s.sys.boot.bootDone = true ∧ s.sys.bootErr ≠ 2 →
      Answers (.wdgWindowClose w pc) s (fun t => (i = 8 → Violated i 6 3 s t) ∧ (i ≠ 8 → missingThreads x ≠ 0 →
          Violated i 2 (missingThreads x) s t) ∧ (i ≠ 8 → missingThreads x = 0 → Violated i 3 0 s t))) ∧
  (∀ (w : Proc) (pc : W) (s : State),
      let i := procCode w
      watching i s = true ∧ (watch i s).boot.isSome = true ∧ s.sys.resetBegun = none ∧ s.sys.boot.bootDone = true ∧ s.sys.bootErr ≠ 2 →
      Answers (.wdgBootWindowClose w pc) s (fun t => (i = 8 → Violated i 6 5 s t) ∧ (i ≠ 8 → Violated i 5 0 s t ∧
          t.heddle.recent.getLast?.map (fun e => e.pc) = some 0))) ∧
  (∀ (w : Proc) (pc : W) (s : State),
      let i := procCode w
      watching i s = false ∨ s.sys.resetBegun.isSome = true ∨ (watch i s).armed = false →
      Answers (.wdgWindowClose w pc) s (fun t => t = s)) ∧
  (∀ (w : Proc) (pc : W) (s : State),
      let i := procCode w
      watching i s = false ∨ s.sys.resetBegun.isSome = true ∨ (watch i s).boot = none →
      Answers (.wdgBootWindowClose w pc) s (fun t => t = s)) ∧
  (∀ (w : Proc) (s : State),
      let i := procCode w
      let x := watch i s
      x.strike = true ∧ x.good.isSome = true ∧ s.sys.inReset = false ∧ swf {} s.eic.src = true →
      Answers (.strikeClear w) s (fun t => t.heddle.w[i] = { x with strike := false, good := none } ∧ (∀ j, j ≠ i →
          t.heddle.w[j] = s.heddle.w[j]) ∧ t.heddle.count = (if (∀ j, j ≠ i → s.heddle.w[j].strike = false) then 0 else s.heddle.count) ∧
          Latched 209 s t ∧ t.heddle.violations = s.heddle.violations ∧ t.heddle.recent = s.heddle.recent ∧ t.sys = s.sys ∧
          t.path = s.path ∧ t.store = s.store)) ∧
  (∀ (w : Proc) (s : State),
      (watch (procCode w) s).strike = false ∨ (watch (procCode w) s).good = none ∨ s.sys.inReset = true →
      Answers (.strikeClear w) s (fun t => t = s)) ∧
  (∀ (p : Port) (tag : Tag) (x : Slot) (s : State),
      let k := bitsOf (x.word 1) 0 8
      let h := s.heddle
      Admitted 0xA01 p tag x s →
      CqRoom p s →
      Answers (.wdgRead p tag) s (fun t => CompletionOnly p s t ∧ (k = 0 → CompletedWith p x 0x00 ([w32 (wdgLadder s),
          w32 h.violations] ++ (allFin 9).map (fun i => strikeLeft i s)) s t) ∧ (k = 1 →
          CompletedWith p x 0x00 (evidenceWords h.first ++ evidenceWords h.recent[0]?) s t) ∧ (k = 2 →
          CompletedWith p x 0x00 (evidenceWords h.recent[1]? ++ evidenceWords h.recent[2]?) s t) ∧ (2 < k → CompletedWith p x 0x14 [0] s t)))

/-- For every command and every state that is in Safe Hold and in RECOVERY: a next state is again in Safe Hold and in RECOVERY, or a
  power-on reset has begun, or the command is SAFE_EXIT. Full service, a chip reset, a violation, DEEP SLEEP and every other command keep
  both. [stated: R36] -/
def Obligations.SafeHoldIsLeftOnlyByItsExit : Prop :=
  ∀ (c : Instr) (s t : State),
      s.heddle.safeHold = true ∧ s.sys.mode = .recovery →
      exec c s = .next t →
      (t.heddle.safeHold = true ∧ t.sys.mode = .recovery) ∨ t.sys.porActive = true ∨ ∃ p tag, c = .safeExit p tag

/-- FW_WRITE erases up to 16 sectors of its target or programs whole words; bytes programmed since their erasure take free values and
  give FAILED_HW, a range outside the target OUT_OF_RANGE, and no other flash byte changes. FW_ACTIVATE of the inactive bank is
  WRONG_STATE during a trial, a duration test or a sequence, FAILED_HW 1, 2 or 3 for the Horto, PD or configuration image, else it writes
  a trial record of the next SEQ and begins a chip reset; of the unselected PD slot it starts the PD core on it. FW_STATUS returns its
  words. A confirmed trial posts FW_IMAGE and burns the counters; a due burn is retried. Where a clause needs a reading of the manual or
  a choice, it is the model's: log entries 3, 7, 37. [derived: R424; R426; R427; R430; R431; R432; R433; R440; log entry 3] -/
def Obligations.FirmwareBanksAndTrials : Prop :=
  (∀ (p : Port) (tag : Tag) (x : Slot) (s : State),
      let r := fwTarget (bitsOf (x.word 1) 0 2) s
      let off := (x.word 2).toNat
      let a := r.1 + off / 4096 * 4096
      let n := min 65536 (r.1 + r.2 - a)
      Admitted 0xB10 p tag x s →
      CqRoom p s →
      (x.word 1).getLsbD 8 = true →
      Answers (.fwWriteErase p tag) s (fun t => (r.2 ≤ off → CompletionOnly p s t ∧ CompletedWith p x 0x14 [1] s t) ∧ (off < r.2 →
          CompletedWith p x 0x00 [] s t ∧ FlashKept a n s t ∧ (∀ b, a ≤ b → b < a + n → Memory.read .flash t.store.fw.flash b = 0xFF) ∧
          t = { s with
            hif := t.hif,
            store := { s.store with fw := { s.store.fw with flash := t.store.fw.flash, prog := t.store.fw.prog, written := t.store.fw.written } } }))) ∧
  (∀ (p : Port) (tag : Tag) (x : Slot) (s : State),
      let r := fwTarget (bitsOf (x.word 1) 0 2) s
      let off := (x.word 2).toNat
      let ws := x.payload.drop 2
      let n := 4 * ws.length
      Admitted 0xB10 p tag x s →
      CqRoom p s →
      (x.word 1).getLsbD 8 = false ∧ Memory.wf .flash s.store.fw.flash = true →
      Answers (.fwWriteProgram p tag) s (fun t => (off % 4 ≠ 0 ∨ r.2 < off + n → CompletionOnly p s t ∧ CompletedWith p x 0x14 [1] s t) ∧
          (off % 4 = 0 → off + n ≤ r.2 → FlashKept (r.1 + off) n s t ∧ (∀ k, k < n → sget false s.store.fw.prog (r.1 + off + k) = false →
          Memory.read .flash t.store.fw.flash (r.1 + off + k) = (wordsLe ws).getD k 0) ∧ ((∀ k, k < n → sget false s.store.fw.prog (r.1 +
          off + k) = false) → Completed p x 0x00 s t) ∧ ((∃ k, k < n ∧ sget false s.store.fw.prog (r.1 + off + k) = true) →
          Completed p x 0x30 s t) ∧ t = { s with
            hif := t.hif, sys := { s.sys with free := t.sys.free },
            store := { s.store with fw := { s.store.fw with flash := t.store.fw.flash, prog := t.store.fw.prog, written := t.store.fw.written } } }))) ∧
  (∀ (p : Port) (tag : Tag) (f : BankFacts) (x : Slot) (s : State),
      let busy := s.store.fw.trial || s.est.test.any (fun t => t.kind == .duration) || seqBusy s
      let cfg := cfgOk f.cfg f.horto.version s && f.cfgRulesOk
      Admitted 0xB11 p tag x s →
      CqRoom p s →
      (x.word 1).getLsbD 0 = false →
      Answers (.fwActivateBank p tag f) s (fun t => (busy = true → CompletionOnly p s t ∧ CompletedWith p x 0x17 [0] s t) ∧ (busy = false →
          hortoOk f.horto s = false → CompletionOnly p s t ∧ CompletedWith p x 0x30 [1] s t) ∧ (busy = false → hortoOk f.horto s = true →
          pdOk f.pd s = false → CompletionOnly p s t ∧ CompletedWith p x 0x30 [2] s t) ∧ (busy = false → hortoOk f.horto s = true →
          pdOk f.pd s = true → cfg = false → CompletionOnly p s t ∧ CompletedWith p x 0x30 [3] s t))) ∧
  (∀ (p : Port) (tag : Tag) (f : BankFacts) (x : Slot) (s : State),
      let b := actBank s
      Admitted 0xB11 p tag x s →
      CqRoom p s →
      (x.word 1).getLsbD 0 = false ∧ s.store.fw.trial = false ∧ s.est.test = none ∧ seqBusy s = false ∧ hortoOk f.horto s = true ∧
          pdOk f.pd s = true →
      cfgOk f.cfg f.horto.version s = true ∧ f.cfgRulesOk = true ∧ Memory.wf .flash s.store.fw.flash = true →
      s.sys.inReset = false ∧ s.sys.porActive = false ∧ s.sys.resetBegun = none →
      Answers (.fwActivateBank p tag f) s (fun t => CompletedWith p x 0x00 [] s t ∧ t.sys = { s.sys with resetBegun := some .fwActivate } ∧
          recAt (!b) t 0 = some { seq := (newestRec b s).elim 0 (fun r => r.seq) + 1, st := 1, pdSel := false, pdTrial := false } ∧
          FlashKept (bankBase (!b)) 4096 s t ∧ t = { s with
            hif := t.hif, sys := t.sys,
            store := { s.store with fw := { s.store.fw with flash := t.store.fw.flash, prog := t.store.fw.prog } } })) ∧
  (∀ (p : Port) (tag : Tag) (f : ImgFacts) (x : Slot) (s : State),
      Admitted 0xB11 p tag x s →
      CqRoom p s →
      (x.word 1).getLsbD 0 = true →
      Answers (.fwActivatePdSlot p tag f) s (fun t => (64 ≤ usedRecs (actBank s) s → CompletionOnly p s t ∧
          CompletedWith p x 0x17 [0] s t) ∧ (usedRecs (actBank s) s < 64 → pdOk f s = false → CompletionOnly p s t ∧
          CompletedWith p x 0x30 [2] s t))) ∧
  (∀ (p : Port) (tag : Tag) (f : ImgFacts) (x : Slot) (s : State),
      let b := actBank s
      Admitted 0xB11 p tag x s →
      (x.word 1).getLsbD 0 = true ∧ usedRecs b s < 64 ∧ pdOk f s = true →
      s.sys.inReset = false ∧ s.sys.porActive = false ∧ s.pd.a.st ≠ .attachedSnk ∧ s.pd.b.st ≠ .attachedSnk →
      Answers (.fwActivatePdSlot p tag f) s (fun t => RunsOn p tag x t ∧ t.store.fw.pdSel = !s.store.fw.pdSel ∧ t.store.fw.pdTrial = true ∧
          t.pd.waiters = s.pd.waiters ++ [(p, tag)] ∧ t.pd.coreRuns = false ∧ FlashKept (bankBase b) 4096 s t ∧ t.store.otp = s.store.otp ∧
          t.store.nvm.kettle = s.store.nvm.kettle ∧ ∀ q, (t.hif.port q).cqTail = (s.hif.port q).cqTail)) ∧
  (∀ (p : Port) (tag : Tag) (x : Slot) (f : BootFacts) (s : State),
      let w := s.store.fw
      let o := bankOf f (!actBank s)
      Admitted 0xB12 p tag x s →
      CqRoom p s →
      w.facts = some f ∧ w.written = false →
      Answers (.fwStatus p tag) s (fun t => t = { s with hif := t.hif, sys := { s.sys with free := s.sys.free + 1 } } ∧
          CompletedWith p x 0x00 [w32 (b01 (actBank s) + 2 * b01 w.trial + 4 * b01 w.reverted + 16 * b01 w.pdSel + 32 * b01 w.pdTrial +
          64 * b01 (decide (o.horto.rollback < hortoCounter s))), if s.sys.hortoRuns = true then s.sys.hortoVer else 0,
          if hortoOk o.horto s = true then o.horto.version else 0, o.cfg.version, w32 (hortoCounter s % 256 + 256 * pdCounter s),
          w32 (usedRecs (actBank s) s)] s t)) ∧
  (∀ (p : Port) (tag : Tag) (x : Slot) (s : State),
      Admitted 0xB12 p tag x s →
      CqRoom p s →
      Answers (.fwStatus p tag) s (fun t => Completed p x 0x00 s t ∧
          t = { s with hif := t.hif, sys := { s.sys with free := s.sys.free + 1 } })) ∧
  (∀ (h : OtpBench) (s : State),
      s.store.fw.trial = true ∧ s.sys.boot.full = true ∧ cmdRuns s = true ∧ anyStrike s = false ∧ s.sys.resetBegun = none →
      Answers (.trialConfirm h) s (fun t => t.store.fw.trial = false ∧ Posted 0xB001 2 s t ∧ otpKept s t ∧ (s.store.fw.facts = none ∨
          benchRow h s ≠ 0 → t.store.otp = s.store.otp) ∧ (∀ f, s.store.fw.facts = some f → benchRow h s = 0 → h.failAfter = none →
          h.badBit = none → t.store.fw.burnDue = false ∧ ∀ i : Fin 256, i.val < (bankOf f s.store.fw.bankB).horto.rollback →
          (otpWord (0x1A1 + i.val / 32) t).getLsbD (i.val % 32) = true) ∧ FlashKept (bankBase s.store.fw.bankB) 4096 s t ∧ t.path = s.path ∧
          t.sys = s.sys ∧ t.store.nvm = s.store.nvm)) ∧
  (∀ (h : OtpBench) (s : State),
      s.store.fw.trial = false ∨ cmdRuns s = false ∨ anyStrike s = true ∨ s.sys.boot.full = false →
      Answers (.trialConfirm h) s (fun t => t = s)) ∧
  (∀ (h : OtpBench) (s : State),
      s.store.fw.pdTrial = true ∧ s.pd.coreRuns = true ∧ cmdRuns s = true ∧ s.heddle.w[(7 : Fin 9)].strike = false ∧
          s.sys.resetBegun = none →
      Answers (.pdTrialConfirm h) s (fun t => t.store.fw.pdTrial = false ∧ t.store.fw.trial = s.store.fw.trial ∧ Posted 0xB001 0x102 s t ∧
          otpKept s t ∧ (∀ a : Fin 9, otpWord (0x1A0 + a.val) t = otpWord (0x1A0 + a.val) s) ∧
          FlashKept (bankBase s.store.fw.bankB) 4096 s t ∧ t.path = s.path ∧ t.sys = s.sys ∧ t.store.nvm = s.store.nvm)) ∧
  (∀ (h : OtpBench) (s : State),
      s.store.fw.pdTrial = false ∨ s.pd.coreRuns = false ∨ cmdRuns s = false ∨ s.heddle.w[(7 : Fin 9)].strike = true →
      Answers (.pdTrialConfirm h) s (fun t => t = s)) ∧
  (∀ (h : OtpBench) (f : BootFacts) (s : State),
      let x := bankOf f s.store.fw.bankB
      s.store.fw.burnDue = true ∧ cmdRuns s = true ∧ s.store.fw.pdTrial = false ∧ s.store.fw.facts = some f →
      Answers (.rollbackBurnRetry h) s (fun t => otpKept s t ∧ (benchRow h s ≠ 0 → t.store.otp = s.store.otp) ∧ (benchRow h s = 0 →
          h.failAfter = none → h.badBit = none → t.store.fw.burnDue = false ∧ (s.store.fw.trial = false → ∀ i : Fin 256,
          i.val < x.horto.rollback → (otpWord (0x1A1 + i.val / 32) t).getLsbD (i.val % 32) = true) ∧ (∀ i : Fin 192,
          i.val < (pdImg x s.store.fw.pdSel).rollback → (otpWord (0x1A9 + i.val / 32) t).getLsbD (i.val % 32) = true)) ∧
          t.store.fw.flash = s.store.fw.flash ∧ t.store.nvm = s.store.nvm ∧ t.sys = s.sys ∧ t.path = s.path)) ∧
  (∀ (h : OtpBench) (s : State),
      s.store.fw.burnDue = false ∨ cmdRuns s = false ∨ s.store.fw.pdTrial = true →
      Answers (.rollbackBurnRetry h) s (fun t => t = s))

/-- OTP_READ returns the programmed words. OTP_PROGRAM and OTP_FINALISE refuse words or regions that the life cycle locks and conditions
  of R417 that fail, by row; else they only set bits, and the words read back are the old ones with the data, or the region's digest. A
  bit that does not program raises OTP_PROG_FAIL and gives FAILED_HW. LC_ADVANCE needs its confirmation, an allowed next state and its
  preconditions; it then burns the state and begins a chip reset. NVM_LOCK_PAGE burns ID_LOCK; the identity page is read, noted while its
  ECC fails, and written until then. EVLOG_READ returns the entry of a SEQ. The staged log entries and the learned data reach the NVM.
  Where a clause needs a reading of the manual or a choice, it is the model's: log entries 9, 52. [derived: R404; R406; R407; R413; R414;
  R415; R416; R417; R418; R420; R422; R440] -/
def Obligations.OtpLifeCycleAndLogs : Prop :=
  (∀ (p : Port) (tag : Tag) (x : Slot) (s : State),
      let a := bitsOf (x.word 1) 0 9
      let n := bitsOf (x.word 1) 12 4
      Admitted 0xB20 p tag x s →
      CqRoom p s →
      Answers (.otpRead p tag) s (fun t => CompletionOnly p s t ∧ (1 ≤ n → n ≤ 12 → a + n ≤ 512 →
          CompletedWith p x 0x00 ((List.range n).map (fun i => otpWord (a + i) s)) s t) ∧ (n = 0 ∨ 12 < n ∨ 512 < a + n →
          CompletedWith p x 0x14 [0] s t))) ∧
  (∀ (p : Port) (tag : Tag) (h : OtpBench) (x : Slot) (s : State),
      let a := bitsOf (x.word 1) 0 9
      let n := bitsOf (x.word 1) 12 4
      let bad := n == 0 || decide (8 < n) || decide (512 < a + n)
      let open_ := (List.range n).all (fun i => otpAllowed (a + i) s)
      let want := wantedBits a ((List.range n).map (fun i => x.word (2 + i))) s
      Admitted 0xB21 p tag x s →
      CqRoom p s →
      Answers (.otpProgram p tag h) s (fun t => (bad = true → CompletionOnly p s t ∧ CompletedWith p x 0x14 [0] s t) ∧ (bad = false →
          open_ = false → CompletionOnly p s t ∧ CompletedWith p x 0x16 [0] s t) ∧ (bad = false → open_ = true → want ≠ [] →
          benchRow h s ≠ 0 → CompletionOnly p s t ∧ CompletedWith p x 0x17 [benchRow h s] s t))) ∧
  (∀ (p : Port) (tag : Tag) (h : OtpBench) (x : Slot) (s : State),
      let a := bitsOf (x.word 1) 0 9
      let n := bitsOf (x.word 1) 12 4
      Admitted 0xB21 p tag x s →
      CqRoom p s →
      1 ≤ n ∧ n ≤ 8 ∧ a + n ≤ 512 ∧ (∀ i, i < n → otpAllowed (a + i) s = true) ∧ benchRow h s = 0 ∧ swf 0 s.store.otp.words = true →
      s.sys.inReset = false →
      Answers (.otpProgram p tag h) s (fun t => otpKept s t ∧ (∀ b : Fin 512, (b.val < a ∨ a + n ≤ b.val) →
          otpWord b.val t = otpWord b.val s) ∧ (h.failAfter = none → h.badBit = none → Completed p x 0x00 s t ∧ ∀ i, i < n → otpWord (a +
          i) t = otpWord (a + i) s ||| x.word (2 + i)) ∧ (∀ i, i < n → otpWord (a + i) t &&& ~~~(otpWord (a + i) s ||| x.word (2 +
          i)) = 0) ∧ t.store.otp.shadow = s.store.otp.shadow ∧ t.sys = s.sys ∧ t.path = s.path ∧ t.store.nvm = s.store.nvm)) ∧
  (∀ (p : Port) (tag : Tag) (h : OtpBench) (x : Slot) (s : State),
      let a := bitsOf (x.word 1) 0 9
      Admitted 0xB21 p tag x s →
      CqRoom p s →
      bitsOf (x.word 1) 12 4 = 1 ∧ otpAllowed a s = true ∧ benchRow h s = 0 ∧ h.failAfter = none ∧ h.badBit = some 0 ∧
          s.sys.inReset = false →
      x.word 2 &&& ~~~(otpWord a s) ≠ 0 ∧ a < 432 →
      Answers (.otpProgram p tag h) s (fun t => Completed p x 0x30 s t ∧ (∀ b : Fin 512, otpWord b.val t = otpWord b.val s) ∧
          Delivered 0x208 0x20 a s t)) ∧
  (∀ (p : Port) (tag : Tag) (h : OtpBench) (x : Slot) (s : State),
      let r := bitsOf (x.word 1) 0 3
      let fin := finalised r (fun a => otpWord a s)
      Admitted 0xB22 p tag x s →
      CqRoom p s →
      0 = r ∨ 4 < r ∨ fin = true ∨ finaliseAllowed r s = false →
      Answers (.otpFinalise p tag h) s (fun t => CompletionOnly p s t ∧ (r = 0 ∨ 4 < r → CompletedWith p x 0x14 [0] s t) ∧ (1 ≤ r → r ≤ 4 →
          fin = true → CompletedWith p x 0x17 [0] s t) ∧ (1 ≤ r → r ≤ 4 → fin = false → finaliseAllowed r s = false →
          CompletedWith p x 0x16 [0] s t))) ∧
  (∀ (p : Port) (tag : Tag) (h : OtpBench) (x : Slot) (d : Nat × Nat × Nat) (s : State),
      let r := bitsOf (x.word 1) 0 3
      let g := regionDigest r (fun a => otpWord a s)
      Admitted 0xB22 p tag x s →
      CqRoom p s →
      otpRegion r = some d ∧ finalised r (fun a => otpWord a s) = false ∧ finaliseAllowed r s = true ∧ benchRow h s = 0 →
      h.failAfter = none ∧ h.badBit = none ∧ swf 0 s.store.otp.words = true ∧ s.sys.inReset = false →
      Answers (.otpFinalise p tag h) s (fun t => Completed p x 0x00 s t ∧ otpWord d.2.2 t = g.1 ∧ otpWord (d.2.2 + 1) t = g.2 ∧
          (∀ b : Fin 512, b.val ≠ d.2.2 → b.val ≠ d.2.2 + 1 → otpWord b.val t = otpWord b.val s) ∧ t.store.otp.shadow = s.store.otp.shadow ∧
          t.sys = s.sys ∧ t.store.nvm = s.store.nvm)) ∧
  (∀ (p : Port) (tag : Tag) (h : OtpBench) (x : Slot) (s : State),
      let c := bitsOf (x.word 1) 0 8
      let go := c == 1 || c == 3 || c == 7 || c == 0x0F || c == 0x1F
      Admitted 0xB23 p tag x s →
      CqRoom p s →
      Answers (.lcAdvance p tag h) s (fun t => (x.word 2 ≠ 0x4C430000 → CompletionOnly p s t ∧ CompletedWith p x 0x14 [1] s t) ∧
          (x.word 2 = 0x4C430000 → (go = false ∨ (∀ l, lcTarget c = some l → lcNextOk (lcNow s) l = false)) → CompletionOnly p s t ∧
          CompletedWith p x 0x17 [0] s t) ∧ (∀ l, x.word 2 = 0x4C430000 → lcTarget c = some l → lcNextOk (lcNow s) l = true →
          benchRow h s ≠ 0 → CompletionOnly p s t ∧ CompletedWith p x 0x17 [benchRow h s] s t) ∧ (∀ l, x.word 2 = 0x4C430000 →
          lcTarget c = some l → lcNextOk (lcNow s) l = true → benchRow h s = 0 → lcUnmet l s ≠ 0 → CompletionOnly p s t ∧
          CompletedWith p x 0x17 [lcUnmet l s] s t))) ∧
  (∀ (p : Port) (tag : Tag) (h : OtpBench) (l : Lc) (x : Slot) (s : State),
      Admitted 0xB23 p tag x s →
      CqRoom p s →
      x.word 2 = 0x4C430000 ∧ lcTarget (bitsOf (x.word 1) 0 8) = some l ∧ lcNextOk (lcNow s) l = true ∧ benchRow h s = 0 ∧ lcUnmet l s = 0 →
      h.failAfter = none ∧ h.badBit = none ∧ swf 0 s.store.otp.words = true ∧ s.sys.inReset = false ∧ s.sys.resetBegun = none →
      Answers (.lcAdvance p tag h) s (fun t => CompletedWith p x 0x00 [] s t ∧ otpWord 0x1A0 t = otpWord 0x1A0 s ||| w32 l.code ∧
          (∀ b : Fin 512, b.val ≠ 0x1A0 → otpWord b.val t = otpWord b.val s) ∧ t.sys.resetBegun = some .lcAdvance ∧ (l ≠ .fieldReturn →
          t.store.nvm = s.store.nvm ∧ t.store.fw = s.store.fw) ∧ (l = .fieldReturn → t.store.nvm.kettle = [] ∧ t.store.nvm.params = [] ∧
          t.store.nvm.event.entries = [] ∧ t.store.nvm.idPage = s.store.nvm.idPage) ∧ t.store.otp.shadow = s.store.otp.shadow)) ∧
  (∀ (p : Port) (tag : Tag) (h : OtpBench) (x : Slot) (s : State),
      let lc := lcNow s == .provisioned || lcNow s == .customerLocked
      Admitted 0xB30 p tag x s →
      CqRoom p s →
      x.word 1 ≠ 0 ∨ x.word 2 ≠ 0x4C4B0000 ∨ lc = false ∨ s.store.nvm.idBad = true →
      Answers (.nvmLockPage p tag h) s (fun t => CompletionOnly p s t ∧ (x.word 1 ≠ 0 → CompletedWith p x 0x14 [0] s t) ∧ (x.word 1 = 0 →
          x.word 2 ≠ 0x4C4B0000 → CompletedWith p x 0x14 [1] s t) ∧ (x.word 1 = 0 → x.word 2 = 0x4C4B0000 → lc = false →
          CompletedWith p x 0x16 [0] s t) ∧ (x.word 1 = 0 → x.word 2 = 0x4C4B0000 → lc = true → CompletedWith p x 0x17 [0] s t))) ∧
  (∀ (p : Port) (tag : Tag) (h : OtpBench) (x : Slot) (s : State),
      Admitted 0xB30 p tag x s →
      CqRoom p s →
      x.word 1 = 0 ∧ x.word 2 = 0x4C4B0000 ∧ (lcNow s = .provisioned ∨ lcNow s = .customerLocked) ∧ s.store.nvm.idBad = false →
      benchRow h s = 0 ∧ h.failAfter = none ∧ h.badBit = none ∧ swf 0 s.store.otp.words = true ∧ s.sys.inReset = false →
      Answers (.nvmLockPage p tag h) s (fun t => CompletedWith p x 0x00 [] s t ∧ idLocked t = true ∧ (∀ b : Fin 512, b.val ≠ 0x1AF →
          otpWord b.val t = otpWord b.val s) ∧ t.store.nvm = s.store.nvm ∧ t.sys = s.sys)) ∧
  (∀ (p : Port) (tag : Tag) (x : Slot) (s : State),
      let o := (x.word 1).toNat
      Admitted 0xB31 p tag x s →
      CqRoom p s →
      Answers (.nvmIdRead p tag) s (fun t => CompletionOnly p s t ∧ (63 < o → CompletedWith p x 0x14 [0] s t) ∧ (o ≤ 63 →
          CompletedWith p x (if s.store.nvm.idBad = true then 0x01 else
          0x00) ((List.range (min 12 (64 - o))).map (fun i => sget 0 s.store.nvm.idPage (o + i))) s t))) ∧
  (∀ (p : Port) (tag : Tag) (x : Slot) (s : State),
      let o := (x.word 1).toNat
      let n := x.payload.length - 1
      Admitted 0xB32 p tag x s →
      CqRoom p s →
      swf 0 s.store.nvm.idPage = true →
      Answers (.nvmIdWrite p tag) s (fun t => (idLocked s = true → CompletionOnly p s t ∧ CompletedWith p x 0x16 [0] s t) ∧
          (idLocked s = false → 64 < o + n → CompletionOnly p s t ∧ CompletedWith p x 0x14 [0] s t) ∧ (idLocked s = false → o + n ≤ 64 →
          CompletedWith p x 0x00 [] s t ∧ t.store.nvm.idBad = false ∧ (∀ k : Fin 64, sget 0 t.store.nvm.idPage k.val = (if o ≤ k.val ∧
          k.val < o + n then x.word (2 + (k.val - o)) else sget 0 s.store.nvm.idPage k.val)) ∧ t = { s with
            hif := t.hif, store := { s.store with nvm := { s.store.nvm with idPage := t.store.nvm.idPage, idBad := false } } }))) ∧
  (∀ (p : Port) (tag : Tag) (x : Slot) (s : State),
      let e := s.store.nvm.event.find (eventCap s) ((x.word 1).setWidth 16)
      Admitted 0xB33 p tag x s →
      CqRoom p s →
      Answers (.evlogRead p tag) s (fun t => CompletionOnly p s t ∧ (e = none → CompletedWith p x 0x13 [0] s t) ∧ (∀ ws, e = some ws →
          CompletedWith p x 0x00 ws s t ∧ (ws.getD 0 0) >>> 16 = ((x.word 1).setWidth 16).setWidth 32))) ∧
  (∀ (s : State),
      let n := s.store.nvm.test.stagedPages + s.store.nvm.caddy.stagedPages + s.store.nvm.event.stagedPages
      nvmFree s = true →
      Answers (.nvmLogWrite none) s (fun t => t.store.nvm.test.staged = 0 ∧ t.store.nvm.caddy.staged = 0 ∧ t.store.nvm.event.staged = 0 ∧
          t.store.nvm.test.entries = s.store.nvm.test.entries ∧ t.store.nvm.caddy.entries = s.store.nvm.caddy.entries ∧
          t.store.nvm.event.entries = s.store.nvm.event.entries ∧ t.store.nvm.event.written = s.store.nvm.event.written +
          s.store.nvm.event.staged ∧ t.store.nvm.kettle = s.store.nvm.kettle ∧ t = { s with
            store := { s.store with nvm := t.store.nvm },
            sys := { s.sys with nvmBusy := if n = 0 then s.sys.nvmBusy else max s.sys.nvmBusy s.sys.devTime + 200 * n } })) ∧
  (∀ (b : BitVec 8) (s : State),
      nvmFree s = true ∧ swf {} s.eic.src = true →
      Answers (.nvmLogWrite (some b)) s (fun t => t.store.nvm.event.staged = 0 ∧ Latched 215 s t ∧ (s.store.nvm.spares.length < 17 →
          t.store.nvm.spares = s.store.nvm.spares ++ [areaPage b.toNat s] ∧ Delivered 0x200 0x11 b.toNat s t ∧
          t.store.nvm.lost = s.store.nvm.lost) ∧ (17 ≤ s.store.nvm.spares.length →
          t.store.nvm.lost = s.store.nvm.lost ++ [areaPage b.toNat s] ∧ Delivered 0x200 0x12 b.toNat s t ∧
          t.store.nvm.spares = s.store.nvm.spares) ∧ t.store.nvm.kettle = s.store.nvm.kettle ∧ t.path = s.path ∧ t.store.otp = s.store.otp)) ∧
  (∀ (s : State),
      nvmFree s = true ∧ s.store.nvm.learnedDirty = true →
      Answers (.learnedDataWrite none) s (fun t => t.store.nvm.learned.head?.map (fun c => c.2) = some (learnedNow s) ∧
          t.store.nvm.learnedDirty = false ∧
          t = { s with
            store := { s.store with nvm := { s.store.nvm with learned := t.store.nvm.learned, learnedDirty := false } },
            sys := { s.sys with nvmBusy := max s.sys.nvmBusy s.sys.devTime + 800 } })) ∧
  (∀ (b : Option (BitVec 8)) (s : State),
      nvmFree s = false →
      Answers (.nvmLogWrite b) s (fun t => t = s)) ∧
  (∀ (b : Option (BitVec 8)) (s : State),
      nvmFree s = false ∨ s.store.nvm.learnedDirty = false →
      Answers (.learnedDataWrite b) s (fun t => t = s)) ∧
  (∀ (b : BitVec 8) (s : State),
      nvmFree s = true ∧ s.store.nvm.learnedDirty = true →
      Answers (.learnedDataWrite (some b)) s (fun t => t.store.nvm.learnedDirty = false ∧ (s.store.nvm.spares.length < 17 →
          t.store.nvm.spares = s.store.nvm.spares ++ [areaPage b.toNat s] ∧ t.store.nvm.lost = s.store.nvm.lost) ∧
          (17 ≤ s.store.nvm.spares.length →
          t.store.nvm.lost = s.store.nvm.lost ++ [areaPage b.toNat s] ∧ t.store.nvm.spares = s.store.nvm.spares) ∧
          t.store.nvm.event = s.store.nvm.event ∧ t.store.nvm.kettle = s.store.nvm.kettle ∧ t.path = s.path ∧
          t.store.otp = s.store.otp))

/-- A read of RTC_SUBSEC takes the calendar into the port's shadows, a read of RTC_YEAR or the timeout releases them. Time writes set the
  fields that are in range, WR_ERR for others; a write of SEC starts counting with VALID, also as part of a write of all seven fields, any
  other field holds it until the timeout resumes it with SET_TIMEOUT. A second advances the calendar and each matching alarm raises
  RTC_ALARM; an alarm of Horto's is not written. In lock-out every write is ignored with LOCKOUT_WR and its pick; lock-out starts and ends
  with RTC_LOCKOUT. With the RC and its trim on, the correction is the negative of the measured gain. DBG_HALT is written where the life
  cycle opens it, else ADDR_ERR is set. Where a clause needs a reading of the manual or a choice, it is the model's: log entries 4, 30, 50.
  [derived: R79; R423; R434; R435; R436; R437; R438; R439; log entry 4] -/
def Obligations.CalendarAndDebugWindow : Prop :=
  (∀ (p : HPort) (s : State),
      hifOpen s = true ∧ s.sys.power = .run →
      Answers (.rtcSubsecRead p) s (fun t => (t.store.rtc.port p).shadow = some s.store.rtc.cal ∧
          t.store.rtc = { s.store.rtc with spia := t.store.rtc.spia, spib := t.store.rtc.spib, i2c := t.store.rtc.i2c } ∧ (∀ q : HPort,
          q ≠ p → t.store.rtc.port q = s.store.rtc.port q) ∧ t = { s with
            store := { s.store with rtc := t.store.rtc },
            hif := { s.hif with i2cPtr := if p = .i2c then 0x0104 else s.hif.i2cPtr } })) ∧
  (∀ (p : HPort) (s : State),
      hifOpen s = true ∧ s.sys.power = .run →
      Answers (.rtcYearRead p) s (fun t => (t.store.rtc.port p).shadow = none ∧
          t.store.rtc = { s.store.rtc with spia := t.store.rtc.spia, spib := t.store.rtc.spib, i2c := t.store.rtc.i2c } ∧ (∀ q : HPort,
          q ≠ p → t.store.rtc.port q = s.store.rtc.port q) ∧ t = { s with
            store := { s.store with rtc := t.store.rtc },
            hif := { s.hif with i2cPtr := if p = .i2c then 0x0120 else s.hif.i2cPtr } })) ∧
  (∀ (p : HPort) (s : State),
      hifOpen s = false →
      Answers (.rtcSubsecRead p) s (fun t => t = s)) ∧
  (∀ (p : HPort) (s : State),
      hifOpen s = false →
      Answers (.rtcYearRead p) s (fun t => t = s)) ∧
  (∀ (p : HPort) (s : State),
      Answers (.rtcFreezeTimeout p) s (fun t => (t.store.rtc.port p).shadow = none ∧
          t.store.rtc = { s.store.rtc with spia := t.store.rtc.spia, spib := t.store.rtc.spib, i2c := t.store.rtc.i2c } ∧ (∀ q : HPort,
          q ≠ p → t.store.rtc.port q = s.store.rtc.port q) ∧ t = { s with store := { s.store with rtc := t.store.rtc } })) ∧
  (∀ (p : HPort) (v : W) (s : State),
      let x := bitsOf v 0 6
      let c := s.store.rtc.cal
      hifOpen s = true ∧ s.sys.power = .run ∧ s.store.rtc.locked = false →
      Answers (.rtcTimeWrite p 0x104 [v]) s (fun t => (59 < x →
          t = { s with store := { s.store with rtc := { s.store.rtc with wrErr := true } } }) ∧ (x ≤ 59 → t.store.rtc.cal.sec = x ∧
          t.store.rtc.cal.min = c.min ∧ t.store.rtc.cal.hour = c.hour ∧ t.store.rtc.cal.wday = c.wday ∧ t.store.rtc.cal.month = c.month ∧
          t.store.rtc.cal.year = c.year ∧ t.store.rtc.cal.day = min c.day (monthDays c.year c.month) ∧
          t.store.rtc.wrErr = (s.store.rtc.wrErr || decide (monthDays c.year c.month < c.day)) ∧ t.store.rtc.held = false ∧
          t.store.rtc.valid = true ∧ t.store.rtc.subsec = 0 ∧ t = { s with store := { s.store with rtc := t.store.rtc } }))) ∧
  (∀ (p : HPort) (a : BitVec 16) (v : W) (s : State),
      let c := s.store.rtc.cal
      hifOpen s = true ∧ s.sys.power = .run ∧ s.store.rtc.locked = false ∧ (a = 0x108 ∨ a = 0x118 ∨ a = 0x11C) →
      Answers (.rtcTimeWrite p a [v]) s (fun t => (a = 0x108 → t.store.rtc = (if bitsOf v 0 6 ≤ 59 then
          { s.store.rtc with cal := { c with min := bitsOf v 0 6 }, held := true } else { s.store.rtc with wrErr := true })) ∧ (a = 0x118 →
          t.store.rtc = (if 1 ≤ bitsOf v 0 4 ∧ bitsOf v 0 4 ≤ 12 then
          { s.store.rtc with cal := { c with month := bitsOf v 0 4 }, held := true } else { s.store.rtc with wrErr := true })) ∧
          (a = 0x11C → t.store.rtc = (if bitsOf v 0 7 ≤ 99 then
          { s.store.rtc with cal := { c with year := bitsOf v 0 7 }, held := true } else { s.store.rtc with wrErr := true })) ∧
          t = { s with store := { s.store with rtc := t.store.rtc } })) ∧
  (∀ (p : HPort) (ws : List W) (n : Fin 2) (v : W) (i : Fin 2) (s : State),
      let c : Instr := if i = 0 then .rtcTimeWrite p 0x104 ws else .rtcAlarmWrite p n v
      hifOpen s = true ∧ s.sys.power = .run ∧ s.store.rtc.locked = true ∧ ws ≠ [] ∧ s.sys.inReset = false →
      Answers c s (fun t => Picked 0x218 0x30 0 s t ∧ t.store = { s.store with rtc := { s.store.rtc with lockoutWr := true } } ∧
          t = { s with selv := t.selv, store := t.store })) ∧
  (∀ (p : HPort) (a : BitVec 16) (ws : List W) (s : State),
      hifOpen s = false ∨ (ws = [] ∧ s.sys.power = .run) ∨ (s.sys.power = .run ∧ a = 0x100 ∧ ws.length = 1) →
      Answers (.rtcTimeWrite p a ws) s (fun t => t = s)) ∧
  (∀ (s : State),
      let c := s.store.rtc.cal
      let d := monthDays c.year c.month
      Answers .rtcHoldTimeout s (fun t => (s.store.rtc.held = false → t = s) ∧ (s.store.rtc.held = true → t = { s with
            store := { s.store with rtc := { s.store.rtc with held := false, setTimeout := true, cal := { c with day := min c.day d }, wrErr := s.store.rtc.wrErr || decide (d < c.day) } } }))) ∧
  (∀ (p : HPort) (n : Fin 2) (v : W) (s : State),
      hifOpen s = true ∧ s.sys.power = .run ∧ s.store.rtc.locked = false →
      Answers (.rtcAlarmWrite p n v) s (fun t => (s.store.rtc.own n = true →
          t = { s with store := { s.store with rtc := { s.store.rtc with wrErr := true } } }) ∧ (s.store.rtc.own n = false →
          t.store.rtc.alm n = v.setWidth 31 ∧ (∀ m, m ≠ n → t.store.rtc.alm m = s.store.rtc.alm m) ∧
          t = { s with store := { s.store with rtc := { s.store.rtc with alm0 := t.store.rtc.alm0, alm1 := t.store.rtc.alm1 } } }))) ∧
  (∀ (s : State),
      let c := s.store.rtc.cal
      let d := monthDays c.year c.month
      let last := c.min = 59 ∧ c.hour = 23
      s.store.rtc.held = false ∧ c.sec ≤ 59 ∧ c.min ≤ 59 ∧ c.hour ≤ 23 ∧ 1 ≤ c.day ∧ c.day ≤ d ∧ c.wday ≤ 7 ∧ c.month ≤ 12 ∧ c.year ≤ 99 →
      Answers .rtcSecond s (fun t => t.store.rtc.subsec = 0 ∧ (c.sec < 59 → t.store.rtc.cal = { c with sec := c.sec + 1 }) ∧ (c.sec = 59 →
          c.min < 59 → t.store.rtc.cal = { c with sec := 0, min := c.min + 1 }) ∧ (c.sec = 59 → c.min = 59 → c.hour < 23 →
          t.store.rtc.cal = { c with sec := 0, min := 0, hour := c.hour + 1 }) ∧ (c.sec = 59 → last → c.day < d → t.store.rtc.cal = ⟨0, 0,
          0, c.day + 1, c.wday % 7 + 1, c.month, c.year⟩) ∧ (c.sec = 59 → last → c.day = d → c.month < 12 → t.store.rtc.cal = ⟨0, 0, 0, 1,
          c.wday % 7 + 1, c.month + 1, c.year⟩) ∧ (c.sec = 59 → last → c.day = d → c.month = 12 → t.store.rtc.cal = ⟨0, 0, 0, 1,
          c.wday % 7 + 1, 1, (c.year + 1) % 100⟩))) ∧
  (∀ (n : Fin 2) (s : State),
      let x := if n = 0 then s.store.rtc.alm0 else s.store.rtc.alm1
      let other := if n = 0 then s.store.rtc.alm1 else s.store.rtc.alm0
      s.store.rtc.held = false ∧ almMatch x s.store.rtc.cal.tick = true ∧ other = 0 ∧ s.sys.inReset = false ∧ swf {} s.eic.src = true →
      Answers .rtcSecond s (fun t => (if n = 0 then t.store.rtc.alm0F else t.store.rtc.alm1F) = true ∧ Posted 0xC001 (w32 n.val) s t ∧
          Latched (212 + n.val) s t ∧ t.sys = s.sys ∧ t.path = s.path ∧ t.est = s.est ∧ t.store.nvm = s.store.nvm)) ∧
  (∀ (s : State),
      s.store.rtc.held = true →
      Answers .rtcSecond s (fun t => t = s)) ∧
  (∀ (d q : Int) (s : State),
      s.store.rtc.rc = true ∧ pb Pid.RTC_RC_TRIM_EN s = true ∧ s.sys.inReset = false ∧ s.sys.power = .run ∧
          s.store.rtc.locked = false ∧ -(d * 1000000) = q * 327680 →
      Answers (.rcCorrection d) s (fun t => t = { s with store := { s.store with rtc := { s.store.rtc with rcPpm := q } } })) ∧
  (∀ (d : Int) (s : State),
      s.store.rtc.rc = false ∨ pb Pid.RTC_RC_TRIM_EN s = false ∨ s.sys.inReset = true →
      Answers (.rcCorrection d) s (fun t => t = s)) ∧
  (∀ (w : LockoutSupply) (s : State),
      s.store.rtc.locked = false ∧ s.sys.inReset = false ∧ swf {} s.eic.src = true →
      Answers (.rtcLockoutStart w) s (fun t => t.store.rtc = { s.store.rtc with
            lockVcc5 := decide (w = .vcc5), lockVddio := decide (w = .vddio) } ∧  Posted 0xC002 0x80000000 s t ∧ Latched 219 s t ∧
          t.sys = s.sys ∧ t.path = s.path ∧ t.store.nvm = s.store.nvm)) ∧
  (∀ (w : LockoutSupply) (s : State),
      s.store.rtc.locked = true →
      Answers (.rtcLockoutStart w) s (fun t => t = { s with
            store := { s.store with rtc := { s.store.rtc with lockVcc5 := s.store.rtc.lockVcc5 || decide (w = .vcc5), lockVddio := s.store.rtc.lockVddio || decide (w = .vddio) } } })) ∧
  (∀ (w : LockoutSupply) (s : State),
      let a := s.store.rtc.lockVcc5 && decide (w ≠ .vcc5)
      let b := s.store.rtc.lockVddio && decide (w ≠ .vddio)
      s.sys.inReset = false ∧ swf {} s.eic.src = true →
      Answers (.rtcLockoutEnd w) s (fun t => t.store.rtc = { s.store.rtc with lockVcc5 := a, lockVddio := b } ∧ (s.store.rtc.locked = true →
          a = false → b = false → Posted 0xC002 0 s t ∧ Latched 219 s t) ∧ (s.store.rtc.locked = false ∨ a = true ∨ b = true →
          t = { s with store := { s.store with rtc := t.store.rtc } }) ∧ t.sys = s.sys ∧ t.path = s.path)) ∧
  (∀ (low : Bool) (s : State),
      Answers (.bkupLow low) s (fun t => t = { s with store := { s.store with rtc := { s.store.rtc with bkupLow := low } } })) ∧
  (∀ (p : HPort) (v : W) (s : State),
      hifOpen s = true ∧ s.sys.power = .run →
      Answers (.dbgHaltWrite p v) s (fun t => (debugOpen s = true → t = { s with sys := { s.sys with dbgHalt := v.setWidth 9 } }) ∧
          (debugOpen s = false → (t.hif.port (hport p)).addrErr = true ∧ PortOnly (hport p) s t))) ∧
  (∀ (p : HPort) (a : BitVec 16) (v : W) (s : State),
      let c := s.store.rtc.cal
      hifOpen s = true ∧ s.sys.power = .run ∧ s.store.rtc.locked = false ∧ (a = 0x10C ∨ a = 0x110 ∨ a = 0x114) →
      Answers (.rtcTimeWrite p a [v]) s (fun t => (a = 0x10C → t.store.rtc = (if bitsOf v 0 5 ≤ 23 then
          { s.store.rtc with cal := { c with hour := bitsOf v 0 5 }, held := true } else { s.store.rtc with wrErr := true })) ∧ (a = 0x110 →
          t.store.rtc = (if 1 ≤ bitsOf v 0 5 then
          { s.store.rtc with cal := { c with day := bitsOf v 0 5 }, held := true } else { s.store.rtc with wrErr := true })) ∧
          (a = 0x114 → t.store.rtc = (if 1 ≤ bitsOf v 0 3 then
          { s.store.rtc with cal := { c with wday := bitsOf v 0 3 }, held := true } else { s.store.rtc with wrErr := true })) ∧
          t = { s with store := { s.store with rtc := t.store.rtc } })) ∧
  (∀ (p : HPort) (a b h d e f g : W) (s : State),
      hifOpen s = true ∧ s.sys.power = .run ∧ s.store.rtc.locked = false →
      bitsOf a 0 6 ≤ 59 ∧ bitsOf b 0 6 ≤ 59 ∧ bitsOf h 0 5 ≤ 23 ∧ 1 ≤ bitsOf d 0 5 ∧ 1 ≤ bitsOf e 0 3 →
      1 ≤ bitsOf f 0 4 ∧ bitsOf f 0 4 ≤ 12 ∧ bitsOf g 0 7 ≤ 99 ∧ bitsOf d 0 5 ≤ monthDays (bitsOf g 0 7) (bitsOf f 0 4) →
      Answers (.rtcTimeWrite p 0x104 [a, b, h, d, e, f, g]) s (fun t => t.store.rtc = { s.store.rtc with
            cal := { sec := bitsOf a 0 6, min := bitsOf b 0 6, hour := bitsOf h 0 5, day := bitsOf d 0 5, wday := bitsOf e 0 3,
                     month := bitsOf f 0 4, year := bitsOf g 0 7 }, held := false, valid := true, subsec := 0 } ∧
          t = { s with store := { s.store with rtc := t.store.rtc } }))
end

