-- ==== Sys2Proof/Laws/Memory.lean ====
section
/-! SUPPORT. Sparse maps and byte memories: reading after writing, writes elsewhere, and the canonical form that every operation keeps. -/

namespace Sys2Proof.Machine

/-! ### Sparse maps -/

theorem sget_sput_same {α : Type} (d v : α) (k : Nat) (m : Sparse α) : sget d (sput k v m) k = v := by
  induction m with
  | nil => simp [sput, sget]
  | cons e m ih =>
    obtain ⟨i, u⟩ := e
    unfold sput
    split
    · simp [sget]
    · split
      · simp [sget]
      · rename_i h1 h2
        simp [sget, ih, Ne.symm h2]

theorem sget_sput_other {α : Type} (d v : α) (k j : Nat) (m : Sparse α) (h : j ≠ k) : sget d (sput k v m) j = sget d m j := by
  induction m with
  | nil => simp [sput, sget, Ne.symm h]
  | cons e m ih =>
    obtain ⟨i, u⟩ := e
    unfold sput
    split
    · simp [sget, Ne.symm h]
    · split
      · rename_i h1 h2
        subst h2
        simp [sget, Ne.symm h]
      · simp [sget, ih]

theorem sget_sdel_other {α : Type} (d : α) (k j : Nat) (m : Sparse α) (h : j ≠ k) : sget d (sdel k m) j = sget d m j := by
  induction m with
  | nil => simp [sdel]
  | cons e m ih =>
    obtain ⟨i, u⟩ := e
    unfold sdel
    split
    · rename_i h1
      simp [sget, h1, Ne.symm h]
    · simp [sget, ih]

theorem sget_below {α : Type} [DecidableEq α] (d : α) (k : Nat) (m : Sparse α) (b : Nat) (h : swfFrom d (some b) m = true) (hk : k ≤ b) :
    sget d m k = d := by
  induction m generalizing b with
  | nil => simp [sget]
  | cons e m ih =>
    obtain ⟨i, u⟩ := e
    simp [swfFrom] at h
    have : i ≠ k := by omega
    simp [sget, this, ih i h.2 (by omega)]

theorem sget_sdel_same {α : Type} [DecidableEq α] (d : α) (k : Nat) (m : Sparse α) (b : Option Nat) (h : swfFrom d b m = true) :
    sget d (sdel k m) k = d := by
  induction m generalizing b with
  | nil => simp [sdel, sget]
  | cons e m ih =>
    obtain ⟨i, u⟩ := e
    simp [swfFrom] at h
    unfold sdel
    split
    · rename_i h1
      subst h1
      exact sget_below d i m i h.2 (Nat.le_refl i)
    · rename_i h1
      simp [sget, h1, ih _ h.2]

theorem swfFrom_weaken {α : Type} [DecidableEq α] (d : α) (m : Sparse α) (b c : Option Nat) (hc : ∀ y, c = some y → ∃ x, b = some x ∧ y ≤ x)
    (h : swfFrom d b m = true) : swfFrom d c m = true := by
  cases m with
  | nil => simp [swfFrom]
  | cons e m =>
    obtain ⟨i, u⟩ := e
    simp only [swfFrom, Bool.and_eq_true, decide_eq_true_eq] at h ⊢
    refine ⟨⟨?_, h.1.2⟩, h.2⟩
    cases c with
    | none => simp
    | some y =>
      obtain ⟨x, hx, hy⟩ := hc y rfl
      subst hx
      have h1 : x < i := by simpa using h.1.1
      simpa using Nat.lt_of_le_of_lt hy h1

theorem swfFrom_sdel {α : Type} [DecidableEq α] (d : α) (k : Nat) (m : Sparse α) (b : Option Nat) (h : swfFrom d b m = true) :
    swfFrom d b (sdel k m) = true := by
  induction m generalizing b with
  | nil => simp [sdel, swfFrom]
  | cons e m ih =>
    obtain ⟨i, u⟩ := e
    simp only [swfFrom, Bool.and_eq_true, decide_eq_true_eq] at h
    unfold sdel
    split
    · refine swfFrom_weaken d m (some i) b ?_ h.2
      intro y hy
      subst hy
      have h1 : y < i := by simpa using h.1.1
      exact ⟨i, rfl, by omega⟩
    · simp only [swfFrom, Bool.and_eq_true, decide_eq_true_eq]
      exact ⟨h.1, ih _ h.2⟩

theorem swfFrom_sput {α : Type} [DecidableEq α] (d v : α) (hv : v ≠ d) (k : Nat) (m : Sparse α) (b : Option Nat)
    (hb : b.all (· < k) = true) (h : swfFrom d b m = true) : swfFrom d b (sput k v m) = true := by
  induction m generalizing b with
  | nil => simp [sput, swfFrom, hb, hv]
  | cons e m ih =>
    obtain ⟨i, u⟩ := e
    have h0 := h
    simp only [swfFrom, Bool.and_eq_true, decide_eq_true_eq] at h
    unfold sput
    split
    · rename_i h1
      simp only [swfFrom, Bool.and_eq_true, decide_eq_true_eq]
      exact ⟨⟨hb, hv⟩, ⟨by simpa using h1, h.1.2⟩, h.2⟩
    · split
      · rename_i h1 h2
        subst h2
        simp only [swfFrom, Bool.and_eq_true, decide_eq_true_eq]
        exact ⟨⟨hb, hv⟩, h.2⟩
      · rename_i h1 h2
        simp only [swfFrom, Bool.and_eq_true, decide_eq_true_eq]
        exact ⟨h.1, ih (some i) (by simp; omega) h.2⟩

/-- A write keeps the canonical form. -/
theorem swf_sset {α : Type} [DecidableEq α] (d : α) (m : Sparse α) (k : Nat) (v : α) (h : swf d m = true) : swf d (sset d m k v) = true := by
  unfold sset
  split
  · exact swfFrom_sdel d k m none h
  · rename_i hv
    exact swfFrom_sput d v hv k m none (by simp) h

/-- Reading the key just written gives the value, in a map in canonical form. -/
theorem sget_sset_same {α : Type} [DecidableEq α] (d : α) (m : Sparse α) (k : Nat) (v : α) (h : swf d m = true) :
    sget d (sset d m k v) k = v := by
  unfold sset
  split
  · rename_i hv
    rw [sget_sdel_same d k m none h, hv]
  · exact sget_sput_same d v k m

/-- Reading the key just written gives the value, when it is not the default. -/
theorem sget_sset_new {α : Type} [DecidableEq α] (d : α) (m : Sparse α) (k : Nat) (v : α) (h : v ≠ d) : sget d (sset d m k v) k = v := by
  simp [sset, h, sget_sput_same]

/-- A write leaves every other key alone. -/
theorem sget_sset_other {α : Type} [DecidableEq α] (d : α) (m : Sparse α) (k j : Nat) (v : α) (h : j ≠ k) :
    sget d (sset d m k v) j = sget d m j := by
  unfold sset
  split
  · exact sget_sdel_other d k j m h
  · exact sget_sput_other d v k j m h

theorem swfFrom_filter {α : Type} [DecidableEq α] (d : α) (f : Nat × α → Bool) (m : Sparse α) (b : Option Nat) (h : swfFrom d b m = true) :
    swfFrom d b (m.filter f) = true := by
  induction m generalizing b with
  | nil => simp [swfFrom]
  | cons e m ih =>
    obtain ⟨i, u⟩ := e
    simp only [swfFrom, Bool.and_eq_true, decide_eq_true_eq] at h
    simp only [List.filter_cons]
    split
    · simp only [swfFrom, Bool.and_eq_true, decide_eq_true_eq]
      exact ⟨h.1, ih _ h.2⟩
    · refine ih b (swfFrom_weaken d m (some i) b ?_ h.2)
      intro y hy
      subst hy
      have h1 : y < i := by simpa using h.1.1
      exact ⟨i, rfl, by omega⟩

/-- Dropping entries keeps the canonical form. -/
theorem swf_filter {α : Type} [DecidableEq α] (d : α) (f : Nat × α → Bool) (m : Sparse α) (h : swf d m = true) : swf d (m.filter f) = true :=
  swfFrom_filter d f m none h

@[simp] theorem swf_nil {α : Type} [DecidableEq α] (d : α) : swf d ([] : Sparse α) = true := rfl

@[simp] theorem sget_nil {α : Type} (d : α) (k : Nat) : sget d ([] : Sparse α) k = d := rfl

/-! ### Byte memories -/

/-- A byte write keeps the canonical form. -/
theorem Memory.wf_write (r : Region) (m : Mem) (a : Nat) (b : Byte) (h : Memory.wf r m = true) : Memory.wf r (Memory.write r m a b) = true :=
  swf_sset _ m a b h

/-- A byte read after a write of the same address gives the byte written. -/
theorem Memory.read_write_same (r : Region) (m : Mem) (a : Nat) (b : Byte) (h : Memory.wf r m = true) :
    Memory.read r (Memory.write r m a b) a = b := sget_sset_same _ m a b h

/-- A byte write leaves every other byte alone. -/
theorem Memory.read_write_other (r : Region) (m : Mem) (a c : Nat) (b : Byte) (h : c ≠ a) :
    Memory.read r (Memory.write r m a b) c = Memory.read r m c := sget_sset_other _ m a c b h

theorem Memory.wf_writeW (r : Region) (m : Mem) (a : Nat) (w : W) (h : Memory.wf r m = true) : Memory.wf r (Memory.writeW r m a w) = true := by
  unfold Memory.writeW
  exact wf_write _ _ _ _ (wf_write _ _ _ _ (wf_write _ _ _ _ (wf_write _ _ _ _ h)))

theorem Memory.wf_writeWs (r : Region) (ws : List W) (m : Mem) (a : Nat) (h : Memory.wf r m = true) :
    Memory.wf r (Memory.writeWs r m a ws) = true := by
  induction ws generalizing m a with
  | nil => exact h
  | cons w ws ih => exact ih _ _ (wf_writeW r m a w h)

/-- A word write leaves every byte outside the word alone. -/
theorem Memory.read_writeW_other (r : Region) (m : Mem) (a c : Nat) (w : W) (h : c < a ∨ a + 4 ≤ c) :
    Memory.read r (Memory.writeW r m a w) c = Memory.read r m c := by
  unfold Memory.writeW
  rw [read_write_other _ _ _ _ _ (by omega), read_write_other _ _ _ _ _ (by omega), read_write_other _ _ _ _ _ (by omega),
    read_write_other _ _ _ _ _ (by omega)]

/-- A word read after a write of the same address gives the word written. -/
theorem Memory.readW_writeW_same (r : Region) (m : Mem) (a : Nat) (w : W) (h : Memory.wf r m = true) :
    Memory.readW r (Memory.writeW r m a w) a = w := by
  unfold Memory.readW Memory.writeW
  have h1 := wf_write r m a (w.extractLsb' 0 8) h
  have h2 := wf_write r _ (a + 1) (w.extractLsb' 8 8) h1
  have h3 := wf_write r _ (a + 2) (w.extractLsb' 16 8) h2
  rw [read_write_same _ _ _ _ h3, read_write_other _ _ _ _ _ (by omega), read_write_same _ _ _ _ h2,
    read_write_other _ _ _ _ _ (by omega), read_write_other _ _ _ _ _ (by omega), read_write_same _ _ _ _ h1,
    read_write_other _ _ _ _ _ (by omega), read_write_other _ _ _ _ _ (by omega), read_write_other _ _ _ _ _ (by omega),
    read_write_same _ _ _ _ h]
  ext i hi
  simp only [BitVec.getElem_append, BitVec.getElem_extractLsb']
  repeat' split
  all_goals rw [BitVec.getLsbD_eq_getElem (by omega)]; congr 1; omega

theorem Memory.readW_eq (r : Region) (m m' : Mem) (a : Nat) (h : ∀ c, a ≤ c → c < a + 4 → Memory.read r m' c = Memory.read r m c) :
    Memory.readW r m' a = Memory.readW r m a := by
  unfold Memory.readW
  rw [h a (by omega) (by omega), h (a + 1) (by omega) (by omega), h (a + 2) (by omega) (by omega), h (a + 3) (by omega) (by omega)]

/-- Writing words leaves every byte outside them alone. -/
theorem Memory.read_writeWs_other (r : Region) (ws : List W) (m : Mem) (a c : Nat) (h : c < a ∨ a + 4 * ws.length ≤ c) :
    Memory.read r (Memory.writeWs r m a ws) c = Memory.read r m c := by
  induction ws generalizing m a with
  | nil => rfl
  | cons w ws ih =>
    simp only [List.length_cons] at h
    unfold Memory.writeWs
    rw [ih _ _ (by omega), read_writeW_other _ _ _ _ _ (by omega)]

/-- Word `k` of words just written reads as written. -/
theorem Memory.readW_writeWs (r : Region) (ws : List W) (m : Mem) (a k : Nat) (hk : k < ws.length) (h : Memory.wf r m = true) :
    Memory.readW r (Memory.writeWs r m a ws) (a + 4 * k) = ws.getD k 0 := by
  induction ws generalizing m a k with
  | nil => simp at hk
  | cons w ws ih =>
    unfold Memory.writeWs
    cases k with
    | zero =>
      show readW r (writeWs r (writeW r m a w) (a + 4) ws) a = _
      rw [readW_eq r _ _ a (fun c h1 h2 => read_writeWs_other r ws _ (a + 4) c (Or.inl (by omega))),
        readW_writeW_same r m a w h]
      simp
    | succ k =>
      have := ih (Memory.writeW r m a w) (a + 4) k (by simpa using hk) (wf_writeW r m a w h)
      rw [show a + 4 * (k + 1) = a + 4 + 4 * k by omega, this]
      simp

end Sys2Proof.Machine
end

