-- ==== Sys2Proof/Laws/State.lean ====
section
/-! SUPPORT. One lemma per field of State per update of one of its parts: the part changes, every other part stays. -/

namespace Sys2Proof.Machine

@[simp] theorem State.onSys_sys (f : Sys → Sys) (s : State) : (s.onSys f).sys = f s.sys := rfl
@[simp] theorem State.onSys_hif (f : Sys → Sys) (s : State) : (s.onSys f).hif = s.hif := rfl
@[simp] theorem State.onSys_path (f : Sys → Sys) (s : State) : (s.onSys f).path = s.path := rfl
@[simp] theorem State.onSys_chg (f : Sys → Sys) (s : State) : (s.onSys f).chg = s.chg := rfl
@[simp] theorem State.onSys_pwr (f : Sys → Sys) (s : State) : (s.onSys f).pwr = s.pwr := rfl
@[simp] theorem State.onSys_est (f : Sys → Sys) (s : State) : (s.onSys f).est = s.est := rfl
@[simp] theorem State.onSys_acq (f : Sys → Sys) (s : State) : (s.onSys f).acq = s.acq := rfl
@[simp] theorem State.onSys_therm (f : Sys → Sys) (s : State) : (s.onSys f).therm = s.therm := rfl
@[simp] theorem State.onSys_pd (f : Sys → Sys) (s : State) : (s.onSys f).pd = s.pd := rfl
@[simp] theorem State.onSys_selv (f : Sys → Sys) (s : State) : (s.onSys f).selv = s.selv := rfl
@[simp] theorem State.onSys_eic (f : Sys → Sys) (s : State) : (s.onSys f).eic = s.eic := rfl
@[simp] theorem State.onSys_gpio (f : Sys → Sys) (s : State) : (s.onSys f).gpio = s.gpio := rfl
@[simp] theorem State.onSys_heddle (f : Sys → Sys) (s : State) : (s.onSys f).heddle = s.heddle := rfl
@[simp] theorem State.onSys_store (f : Sys → Sys) (s : State) : (s.onSys f).store = s.store := rfl
@[simp] theorem State.onSys_pending (f : Sys → Sys) (s : State) : (s.onSys f).pending = s.pending := rfl

@[simp] theorem State.onHif_sys (f : Hif → Hif) (s : State) : (s.onHif f).sys = s.sys := rfl
@[simp] theorem State.onHif_hif (f : Hif → Hif) (s : State) : (s.onHif f).hif = f s.hif := rfl
@[simp] theorem State.onHif_path (f : Hif → Hif) (s : State) : (s.onHif f).path = s.path := rfl
@[simp] theorem State.onHif_chg (f : Hif → Hif) (s : State) : (s.onHif f).chg = s.chg := rfl
@[simp] theorem State.onHif_pwr (f : Hif → Hif) (s : State) : (s.onHif f).pwr = s.pwr := rfl
@[simp] theorem State.onHif_est (f : Hif → Hif) (s : State) : (s.onHif f).est = s.est := rfl
@[simp] theorem State.onHif_acq (f : Hif → Hif) (s : State) : (s.onHif f).acq = s.acq := rfl
@[simp] theorem State.onHif_therm (f : Hif → Hif) (s : State) : (s.onHif f).therm = s.therm := rfl
@[simp] theorem State.onHif_pd (f : Hif → Hif) (s : State) : (s.onHif f).pd = s.pd := rfl
@[simp] theorem State.onHif_selv (f : Hif → Hif) (s : State) : (s.onHif f).selv = s.selv := rfl
@[simp] theorem State.onHif_eic (f : Hif → Hif) (s : State) : (s.onHif f).eic = s.eic := rfl
@[simp] theorem State.onHif_gpio (f : Hif → Hif) (s : State) : (s.onHif f).gpio = s.gpio := rfl
@[simp] theorem State.onHif_heddle (f : Hif → Hif) (s : State) : (s.onHif f).heddle = s.heddle := rfl
@[simp] theorem State.onHif_store (f : Hif → Hif) (s : State) : (s.onHif f).store = s.store := rfl
@[simp] theorem State.onHif_pending (f : Hif → Hif) (s : State) : (s.onHif f).pending = s.pending := rfl

@[simp] theorem State.onPath_sys (f : Path → Path) (s : State) : (s.onPath f).sys = s.sys := rfl
@[simp] theorem State.onPath_hif (f : Path → Path) (s : State) : (s.onPath f).hif = s.hif := rfl
@[simp] theorem State.onPath_path (f : Path → Path) (s : State) : (s.onPath f).path = f s.path := rfl
@[simp] theorem State.onPath_chg (f : Path → Path) (s : State) : (s.onPath f).chg = s.chg := rfl
@[simp] theorem State.onPath_pwr (f : Path → Path) (s : State) : (s.onPath f).pwr = s.pwr := rfl
@[simp] theorem State.onPath_est (f : Path → Path) (s : State) : (s.onPath f).est = s.est := rfl
@[simp] theorem State.onPath_acq (f : Path → Path) (s : State) : (s.onPath f).acq = s.acq := rfl
@[simp] theorem State.onPath_therm (f : Path → Path) (s : State) : (s.onPath f).therm = s.therm := rfl
@[simp] theorem State.onPath_pd (f : Path → Path) (s : State) : (s.onPath f).pd = s.pd := rfl
@[simp] theorem State.onPath_selv (f : Path → Path) (s : State) : (s.onPath f).selv = s.selv := rfl
@[simp] theorem State.onPath_eic (f : Path → Path) (s : State) : (s.onPath f).eic = s.eic := rfl
@[simp] theorem State.onPath_gpio (f : Path → Path) (s : State) : (s.onPath f).gpio = s.gpio := rfl
@[simp] theorem State.onPath_heddle (f : Path → Path) (s : State) : (s.onPath f).heddle = s.heddle := rfl
@[simp] theorem State.onPath_store (f : Path → Path) (s : State) : (s.onPath f).store = s.store := rfl
@[simp] theorem State.onPath_pending (f : Path → Path) (s : State) : (s.onPath f).pending = s.pending := rfl

@[simp] theorem State.onChg_sys (f : Chg → Chg) (s : State) : (s.onChg f).sys = s.sys := rfl
@[simp] theorem State.onChg_hif (f : Chg → Chg) (s : State) : (s.onChg f).hif = s.hif := rfl
@[simp] theorem State.onChg_path (f : Chg → Chg) (s : State) : (s.onChg f).path = s.path := rfl
@[simp] theorem State.onChg_chg (f : Chg → Chg) (s : State) : (s.onChg f).chg = f s.chg := rfl
@[simp] theorem State.onChg_pwr (f : Chg → Chg) (s : State) : (s.onChg f).pwr = s.pwr := rfl
@[simp] theorem State.onChg_est (f : Chg → Chg) (s : State) : (s.onChg f).est = s.est := rfl
@[simp] theorem State.onChg_acq (f : Chg → Chg) (s : State) : (s.onChg f).acq = s.acq := rfl
@[simp] theorem State.onChg_therm (f : Chg → Chg) (s : State) : (s.onChg f).therm = s.therm := rfl
@[simp] theorem State.onChg_pd (f : Chg → Chg) (s : State) : (s.onChg f).pd = s.pd := rfl
@[simp] theorem State.onChg_selv (f : Chg → Chg) (s : State) : (s.onChg f).selv = s.selv := rfl
@[simp] theorem State.onChg_eic (f : Chg → Chg) (s : State) : (s.onChg f).eic = s.eic := rfl
@[simp] theorem State.onChg_gpio (f : Chg → Chg) (s : State) : (s.onChg f).gpio = s.gpio := rfl
@[simp] theorem State.onChg_heddle (f : Chg → Chg) (s : State) : (s.onChg f).heddle = s.heddle := rfl
@[simp] theorem State.onChg_store (f : Chg → Chg) (s : State) : (s.onChg f).store = s.store := rfl
@[simp] theorem State.onChg_pending (f : Chg → Chg) (s : State) : (s.onChg f).pending = s.pending := rfl

@[simp] theorem State.onPwr_sys (f : Pwr → Pwr) (s : State) : (s.onPwr f).sys = s.sys := rfl
@[simp] theorem State.onPwr_hif (f : Pwr → Pwr) (s : State) : (s.onPwr f).hif = s.hif := rfl
@[simp] theorem State.onPwr_path (f : Pwr → Pwr) (s : State) : (s.onPwr f).path = s.path := rfl
@[simp] theorem State.onPwr_chg (f : Pwr → Pwr) (s : State) : (s.onPwr f).chg = s.chg := rfl
@[simp] theorem State.onPwr_pwr (f : Pwr → Pwr) (s : State) : (s.onPwr f).pwr = f s.pwr := rfl
@[simp] theorem State.onPwr_est (f : Pwr → Pwr) (s : State) : (s.onPwr f).est = s.est := rfl
@[simp] theorem State.onPwr_acq (f : Pwr → Pwr) (s : State) : (s.onPwr f).acq = s.acq := rfl
@[simp] theorem State.onPwr_therm (f : Pwr → Pwr) (s : State) : (s.onPwr f).therm = s.therm := rfl
@[simp] theorem State.onPwr_pd (f : Pwr → Pwr) (s : State) : (s.onPwr f).pd = s.pd := rfl
@[simp] theorem State.onPwr_selv (f : Pwr → Pwr) (s : State) : (s.onPwr f).selv = s.selv := rfl
@[simp] theorem State.onPwr_eic (f : Pwr → Pwr) (s : State) : (s.onPwr f).eic = s.eic := rfl
@[simp] theorem State.onPwr_gpio (f : Pwr → Pwr) (s : State) : (s.onPwr f).gpio = s.gpio := rfl
@[simp] theorem State.onPwr_heddle (f : Pwr → Pwr) (s : State) : (s.onPwr f).heddle = s.heddle := rfl
@[simp] theorem State.onPwr_store (f : Pwr → Pwr) (s : State) : (s.onPwr f).store = s.store := rfl
@[simp] theorem State.onPwr_pending (f : Pwr → Pwr) (s : State) : (s.onPwr f).pending = s.pending := rfl

@[simp] theorem State.onEst_sys (f : Est → Est) (s : State) : (s.onEst f).sys = s.sys := rfl
@[simp] theorem State.onEst_hif (f : Est → Est) (s : State) : (s.onEst f).hif = s.hif := rfl
@[simp] theorem State.onEst_path (f : Est → Est) (s : State) : (s.onEst f).path = s.path := rfl
@[simp] theorem State.onEst_chg (f : Est → Est) (s : State) : (s.onEst f).chg = s.chg := rfl
@[simp] theorem State.onEst_pwr (f : Est → Est) (s : State) : (s.onEst f).pwr = s.pwr := rfl
@[simp] theorem State.onEst_est (f : Est → Est) (s : State) : (s.onEst f).est = f s.est := rfl
@[simp] theorem State.onEst_acq (f : Est → Est) (s : State) : (s.onEst f).acq = s.acq := rfl
@[simp] theorem State.onEst_therm (f : Est → Est) (s : State) : (s.onEst f).therm = s.therm := rfl
@[simp] theorem State.onEst_pd (f : Est → Est) (s : State) : (s.onEst f).pd = s.pd := rfl
@[simp] theorem State.onEst_selv (f : Est → Est) (s : State) : (s.onEst f).selv = s.selv := rfl
@[simp] theorem State.onEst_eic (f : Est → Est) (s : State) : (s.onEst f).eic = s.eic := rfl
@[simp] theorem State.onEst_gpio (f : Est → Est) (s : State) : (s.onEst f).gpio = s.gpio := rfl
@[simp] theorem State.onEst_heddle (f : Est → Est) (s : State) : (s.onEst f).heddle = s.heddle := rfl
@[simp] theorem State.onEst_store (f : Est → Est) (s : State) : (s.onEst f).store = s.store := rfl
@[simp] theorem State.onEst_pending (f : Est → Est) (s : State) : (s.onEst f).pending = s.pending := rfl

@[simp] theorem State.onAcq_sys (f : Acq → Acq) (s : State) : (s.onAcq f).sys = s.sys := rfl
@[simp] theorem State.onAcq_hif (f : Acq → Acq) (s : State) : (s.onAcq f).hif = s.hif := rfl
@[simp] theorem State.onAcq_path (f : Acq → Acq) (s : State) : (s.onAcq f).path = s.path := rfl
@[simp] theorem State.onAcq_chg (f : Acq → Acq) (s : State) : (s.onAcq f).chg = s.chg := rfl
@[simp] theorem State.onAcq_pwr (f : Acq → Acq) (s : State) : (s.onAcq f).pwr = s.pwr := rfl
@[simp] theorem State.onAcq_est (f : Acq → Acq) (s : State) : (s.onAcq f).est = s.est := rfl
@[simp] theorem State.onAcq_acq (f : Acq → Acq) (s : State) : (s.onAcq f).acq = f s.acq := rfl
@[simp] theorem State.onAcq_therm (f : Acq → Acq) (s : State) : (s.onAcq f).therm = s.therm := rfl
@[simp] theorem State.onAcq_pd (f : Acq → Acq) (s : State) : (s.onAcq f).pd = s.pd := rfl
@[simp] theorem State.onAcq_selv (f : Acq → Acq) (s : State) : (s.onAcq f).selv = s.selv := rfl
@[simp] theorem State.onAcq_eic (f : Acq → Acq) (s : State) : (s.onAcq f).eic = s.eic := rfl
@[simp] theorem State.onAcq_gpio (f : Acq → Acq) (s : State) : (s.onAcq f).gpio = s.gpio := rfl
@[simp] theorem State.onAcq_heddle (f : Acq → Acq) (s : State) : (s.onAcq f).heddle = s.heddle := rfl
@[simp] theorem State.onAcq_store (f : Acq → Acq) (s : State) : (s.onAcq f).store = s.store := rfl
@[simp] theorem State.onAcq_pending (f : Acq → Acq) (s : State) : (s.onAcq f).pending = s.pending := rfl

@[simp] theorem State.onTherm_sys (f : Therm → Therm) (s : State) : (s.onTherm f).sys = s.sys := rfl
@[simp] theorem State.onTherm_hif (f : Therm → Therm) (s : State) : (s.onTherm f).hif = s.hif := rfl
@[simp] theorem State.onTherm_path (f : Therm → Therm) (s : State) : (s.onTherm f).path = s.path := rfl
@[simp] theorem State.onTherm_chg (f : Therm → Therm) (s : State) : (s.onTherm f).chg = s.chg := rfl
@[simp] theorem State.onTherm_pwr (f : Therm → Therm) (s : State) : (s.onTherm f).pwr = s.pwr := rfl
@[simp] theorem State.onTherm_est (f : Therm → Therm) (s : State) : (s.onTherm f).est = s.est := rfl
@[simp] theorem State.onTherm_acq (f : Therm → Therm) (s : State) : (s.onTherm f).acq = s.acq := rfl
@[simp] theorem State.onTherm_therm (f : Therm → Therm) (s : State) : (s.onTherm f).therm = f s.therm := rfl
@[simp] theorem State.onTherm_pd (f : Therm → Therm) (s : State) : (s.onTherm f).pd = s.pd := rfl
@[simp] theorem State.onTherm_selv (f : Therm → Therm) (s : State) : (s.onTherm f).selv = s.selv := rfl
@[simp] theorem State.onTherm_eic (f : Therm → Therm) (s : State) : (s.onTherm f).eic = s.eic := rfl
@[simp] theorem State.onTherm_gpio (f : Therm → Therm) (s : State) : (s.onTherm f).gpio = s.gpio := rfl
@[simp] theorem State.onTherm_heddle (f : Therm → Therm) (s : State) : (s.onTherm f).heddle = s.heddle := rfl
@[simp] theorem State.onTherm_store (f : Therm → Therm) (s : State) : (s.onTherm f).store = s.store := rfl
@[simp] theorem State.onTherm_pending (f : Therm → Therm) (s : State) : (s.onTherm f).pending = s.pending := rfl

@[simp] theorem State.onPd_sys (f : Pd → Pd) (s : State) : (s.onPd f).sys = s.sys := rfl
@[simp] theorem State.onPd_hif (f : Pd → Pd) (s : State) : (s.onPd f).hif = s.hif := rfl
@[simp] theorem State.onPd_path (f : Pd → Pd) (s : State) : (s.onPd f).path = s.path := rfl
@[simp] theorem State.onPd_chg (f : Pd → Pd) (s : State) : (s.onPd f).chg = s.chg := rfl
@[simp] theorem State.onPd_pwr (f : Pd → Pd) (s : State) : (s.onPd f).pwr = s.pwr := rfl
@[simp] theorem State.onPd_est (f : Pd → Pd) (s : State) : (s.onPd f).est = s.est := rfl
@[simp] theorem State.onPd_acq (f : Pd → Pd) (s : State) : (s.onPd f).acq = s.acq := rfl
@[simp] theorem State.onPd_therm (f : Pd → Pd) (s : State) : (s.onPd f).therm = s.therm := rfl
@[simp] theorem State.onPd_pd (f : Pd → Pd) (s : State) : (s.onPd f).pd = f s.pd := rfl
@[simp] theorem State.onPd_selv (f : Pd → Pd) (s : State) : (s.onPd f).selv = s.selv := rfl
@[simp] theorem State.onPd_eic (f : Pd → Pd) (s : State) : (s.onPd f).eic = s.eic := rfl
@[simp] theorem State.onPd_gpio (f : Pd → Pd) (s : State) : (s.onPd f).gpio = s.gpio := rfl
@[simp] theorem State.onPd_heddle (f : Pd → Pd) (s : State) : (s.onPd f).heddle = s.heddle := rfl
@[simp] theorem State.onPd_store (f : Pd → Pd) (s : State) : (s.onPd f).store = s.store := rfl
@[simp] theorem State.onPd_pending (f : Pd → Pd) (s : State) : (s.onPd f).pending = s.pending := rfl

@[simp] theorem State.onSelv_sys (f : Selv → Selv) (s : State) : (s.onSelv f).sys = s.sys := rfl
@[simp] theorem State.onSelv_hif (f : Selv → Selv) (s : State) : (s.onSelv f).hif = s.hif := rfl
@[simp] theorem State.onSelv_path (f : Selv → Selv) (s : State) : (s.onSelv f).path = s.path := rfl
@[simp] theorem State.onSelv_chg (f : Selv → Selv) (s : State) : (s.onSelv f).chg = s.chg := rfl
@[simp] theorem State.onSelv_pwr (f : Selv → Selv) (s : State) : (s.onSelv f).pwr = s.pwr := rfl
@[simp] theorem State.onSelv_est (f : Selv → Selv) (s : State) : (s.onSelv f).est = s.est := rfl
@[simp] theorem State.onSelv_acq (f : Selv → Selv) (s : State) : (s.onSelv f).acq = s.acq := rfl
@[simp] theorem State.onSelv_therm (f : Selv → Selv) (s : State) : (s.onSelv f).therm = s.therm := rfl
@[simp] theorem State.onSelv_pd (f : Selv → Selv) (s : State) : (s.onSelv f).pd = s.pd := rfl
@[simp] theorem State.onSelv_selv (f : Selv → Selv) (s : State) : (s.onSelv f).selv = f s.selv := rfl
@[simp] theorem State.onSelv_eic (f : Selv → Selv) (s : State) : (s.onSelv f).eic = s.eic := rfl
@[simp] theorem State.onSelv_gpio (f : Selv → Selv) (s : State) : (s.onSelv f).gpio = s.gpio := rfl
@[simp] theorem State.onSelv_heddle (f : Selv → Selv) (s : State) : (s.onSelv f).heddle = s.heddle := rfl
@[simp] theorem State.onSelv_store (f : Selv → Selv) (s : State) : (s.onSelv f).store = s.store := rfl
@[simp] theorem State.onSelv_pending (f : Selv → Selv) (s : State) : (s.onSelv f).pending = s.pending := rfl

@[simp] theorem State.onEic_sys (f : Eic → Eic) (s : State) : (s.onEic f).sys = s.sys := rfl
@[simp] theorem State.onEic_hif (f : Eic → Eic) (s : State) : (s.onEic f).hif = s.hif := rfl
@[simp] theorem State.onEic_path (f : Eic → Eic) (s : State) : (s.onEic f).path = s.path := rfl
@[simp] theorem State.onEic_chg (f : Eic → Eic) (s : State) : (s.onEic f).chg = s.chg := rfl
@[simp] theorem State.onEic_pwr (f : Eic → Eic) (s : State) : (s.onEic f).pwr = s.pwr := rfl
@[simp] theorem State.onEic_est (f : Eic → Eic) (s : State) : (s.onEic f).est = s.est := rfl
@[simp] theorem State.onEic_acq (f : Eic → Eic) (s : State) : (s.onEic f).acq = s.acq := rfl
@[simp] theorem State.onEic_therm (f : Eic → Eic) (s : State) : (s.onEic f).therm = s.therm := rfl
@[simp] theorem State.onEic_pd (f : Eic → Eic) (s : State) : (s.onEic f).pd = s.pd := rfl
@[simp] theorem State.onEic_selv (f : Eic → Eic) (s : State) : (s.onEic f).selv = s.selv := rfl
@[simp] theorem State.onEic_eic (f : Eic → Eic) (s : State) : (s.onEic f).eic = f s.eic := rfl
@[simp] theorem State.onEic_gpio (f : Eic → Eic) (s : State) : (s.onEic f).gpio = s.gpio := rfl
@[simp] theorem State.onEic_heddle (f : Eic → Eic) (s : State) : (s.onEic f).heddle = s.heddle := rfl
@[simp] theorem State.onEic_store (f : Eic → Eic) (s : State) : (s.onEic f).store = s.store := rfl
@[simp] theorem State.onEic_pending (f : Eic → Eic) (s : State) : (s.onEic f).pending = s.pending := rfl

@[simp] theorem State.onGpio_sys (f : Vector Gpio 16 → Vector Gpio 16) (s : State) : (s.onGpio f).sys = s.sys := rfl
@[simp] theorem State.onGpio_hif (f : Vector Gpio 16 → Vector Gpio 16) (s : State) : (s.onGpio f).hif = s.hif := rfl
@[simp] theorem State.onGpio_path (f : Vector Gpio 16 → Vector Gpio 16) (s : State) : (s.onGpio f).path = s.path := rfl
@[simp] theorem State.onGpio_chg (f : Vector Gpio 16 → Vector Gpio 16) (s : State) : (s.onGpio f).chg = s.chg := rfl
@[simp] theorem State.onGpio_pwr (f : Vector Gpio 16 → Vector Gpio 16) (s : State) : (s.onGpio f).pwr = s.pwr := rfl
@[simp] theorem State.onGpio_est (f : Vector Gpio 16 → Vector Gpio 16) (s : State) : (s.onGpio f).est = s.est := rfl
@[simp] theorem State.onGpio_acq (f : Vector Gpio 16 → Vector Gpio 16) (s : State) : (s.onGpio f).acq = s.acq := rfl
@[simp] theorem State.onGpio_therm (f : Vector Gpio 16 → Vector Gpio 16) (s : State) : (s.onGpio f).therm = s.therm := rfl
@[simp] theorem State.onGpio_pd (f : Vector Gpio 16 → Vector Gpio 16) (s : State) : (s.onGpio f).pd = s.pd := rfl
@[simp] theorem State.onGpio_selv (f : Vector Gpio 16 → Vector Gpio 16) (s : State) : (s.onGpio f).selv = s.selv := rfl
@[simp] theorem State.onGpio_eic (f : Vector Gpio 16 → Vector Gpio 16) (s : State) : (s.onGpio f).eic = s.eic := rfl
@[simp] theorem State.onGpio_gpio (f : Vector Gpio 16 → Vector Gpio 16) (s : State) : (s.onGpio f).gpio = f s.gpio := rfl
@[simp] theorem State.onGpio_heddle (f : Vector Gpio 16 → Vector Gpio 16) (s : State) : (s.onGpio f).heddle = s.heddle := rfl
@[simp] theorem State.onGpio_store (f : Vector Gpio 16 → Vector Gpio 16) (s : State) : (s.onGpio f).store = s.store := rfl
@[simp] theorem State.onGpio_pending (f : Vector Gpio 16 → Vector Gpio 16) (s : State) : (s.onGpio f).pending = s.pending := rfl

@[simp] theorem State.onHeddle_sys (f : Heddle → Heddle) (s : State) : (s.onHeddle f).sys = s.sys := rfl
@[simp] theorem State.onHeddle_hif (f : Heddle → Heddle) (s : State) : (s.onHeddle f).hif = s.hif := rfl
@[simp] theorem State.onHeddle_path (f : Heddle → Heddle) (s : State) : (s.onHeddle f).path = s.path := rfl
@[simp] theorem State.onHeddle_chg (f : Heddle → Heddle) (s : State) : (s.onHeddle f).chg = s.chg := rfl
@[simp] theorem State.onHeddle_pwr (f : Heddle → Heddle) (s : State) : (s.onHeddle f).pwr = s.pwr := rfl
@[simp] theorem State.onHeddle_est (f : Heddle → Heddle) (s : State) : (s.onHeddle f).est = s.est := rfl
@[simp] theorem State.onHeddle_acq (f : Heddle → Heddle) (s : State) : (s.onHeddle f).acq = s.acq := rfl
@[simp] theorem State.onHeddle_therm (f : Heddle → Heddle) (s : State) : (s.onHeddle f).therm = s.therm := rfl
@[simp] theorem State.onHeddle_pd (f : Heddle → Heddle) (s : State) : (s.onHeddle f).pd = s.pd := rfl
@[simp] theorem State.onHeddle_selv (f : Heddle → Heddle) (s : State) : (s.onHeddle f).selv = s.selv := rfl
@[simp] theorem State.onHeddle_eic (f : Heddle → Heddle) (s : State) : (s.onHeddle f).eic = s.eic := rfl
@[simp] theorem State.onHeddle_gpio (f : Heddle → Heddle) (s : State) : (s.onHeddle f).gpio = s.gpio := rfl
@[simp] theorem State.onHeddle_heddle (f : Heddle → Heddle) (s : State) : (s.onHeddle f).heddle = f s.heddle := rfl
@[simp] theorem State.onHeddle_store (f : Heddle → Heddle) (s : State) : (s.onHeddle f).store = s.store := rfl
@[simp] theorem State.onHeddle_pending (f : Heddle → Heddle) (s : State) : (s.onHeddle f).pending = s.pending := rfl

@[simp] theorem State.onPar_sys (f : Params → Params) (s : State) : (s.onPar f).sys = s.sys := rfl
@[simp] theorem State.onPar_hif (f : Params → Params) (s : State) : (s.onPar f).hif = s.hif := rfl
@[simp] theorem State.onPar_path (f : Params → Params) (s : State) : (s.onPar f).path = s.path := rfl
@[simp] theorem State.onPar_chg (f : Params → Params) (s : State) : (s.onPar f).chg = s.chg := rfl
@[simp] theorem State.onPar_pwr (f : Params → Params) (s : State) : (s.onPar f).pwr = s.pwr := rfl
@[simp] theorem State.onPar_est (f : Params → Params) (s : State) : (s.onPar f).est = s.est := rfl
@[simp] theorem State.onPar_acq (f : Params → Params) (s : State) : (s.onPar f).acq = s.acq := rfl
@[simp] theorem State.onPar_therm (f : Params → Params) (s : State) : (s.onPar f).therm = s.therm := rfl
@[simp] theorem State.onPar_pd (f : Params → Params) (s : State) : (s.onPar f).pd = s.pd := rfl
@[simp] theorem State.onPar_selv (f : Params → Params) (s : State) : (s.onPar f).selv = s.selv := rfl
@[simp] theorem State.onPar_eic (f : Params → Params) (s : State) : (s.onPar f).eic = s.eic := rfl
@[simp] theorem State.onPar_gpio (f : Params → Params) (s : State) : (s.onPar f).gpio = s.gpio := rfl
@[simp] theorem State.onPar_heddle (f : Params → Params) (s : State) : (s.onPar f).heddle = s.heddle := rfl
@[simp] theorem State.onPar_pending (f : Params → Params) (s : State) : (s.onPar f).pending = s.pending := rfl
@[simp] theorem State.onPar_par (f : Params → Params) (s : State) : (s.onPar f).store.par = f s.store.par := rfl
@[simp] theorem State.onPar_nvm (f : Params → Params) (s : State) : (s.onPar f).store.nvm = s.store.nvm := rfl
@[simp] theorem State.onPar_otp (f : Params → Params) (s : State) : (s.onPar f).store.otp = s.store.otp := rfl
@[simp] theorem State.onPar_fw (f : Params → Params) (s : State) : (s.onPar f).store.fw = s.store.fw := rfl
@[simp] theorem State.onPar_res (f : Params → Params) (s : State) : (s.onPar f).store.res = s.store.res := rfl
@[simp] theorem State.onPar_rtc (f : Params → Params) (s : State) : (s.onPar f).store.rtc = s.store.rtc := rfl

@[simp] theorem State.onNvm_sys (f : Nvm → Nvm) (s : State) : (s.onNvm f).sys = s.sys := rfl
@[simp] theorem State.onNvm_hif (f : Nvm → Nvm) (s : State) : (s.onNvm f).hif = s.hif := rfl
@[simp] theorem State.onNvm_path (f : Nvm → Nvm) (s : State) : (s.onNvm f).path = s.path := rfl
@[simp] theorem State.onNvm_chg (f : Nvm → Nvm) (s : State) : (s.onNvm f).chg = s.chg := rfl
@[simp] theorem State.onNvm_pwr (f : Nvm → Nvm) (s : State) : (s.onNvm f).pwr = s.pwr := rfl
@[simp] theorem State.onNvm_est (f : Nvm → Nvm) (s : State) : (s.onNvm f).est = s.est := rfl
@[simp] theorem State.onNvm_acq (f : Nvm → Nvm) (s : State) : (s.onNvm f).acq = s.acq := rfl
@[simp] theorem State.onNvm_therm (f : Nvm → Nvm) (s : State) : (s.onNvm f).therm = s.therm := rfl
@[simp] theorem State.onNvm_pd (f : Nvm → Nvm) (s : State) : (s.onNvm f).pd = s.pd := rfl
@[simp] theorem State.onNvm_selv (f : Nvm → Nvm) (s : State) : (s.onNvm f).selv = s.selv := rfl
@[simp] theorem State.onNvm_eic (f : Nvm → Nvm) (s : State) : (s.onNvm f).eic = s.eic := rfl
@[simp] theorem State.onNvm_gpio (f : Nvm → Nvm) (s : State) : (s.onNvm f).gpio = s.gpio := rfl
@[simp] theorem State.onNvm_heddle (f : Nvm → Nvm) (s : State) : (s.onNvm f).heddle = s.heddle := rfl
@[simp] theorem State.onNvm_pending (f : Nvm → Nvm) (s : State) : (s.onNvm f).pending = s.pending := rfl
@[simp] theorem State.onNvm_par (f : Nvm → Nvm) (s : State) : (s.onNvm f).store.par = s.store.par := rfl
@[simp] theorem State.onNvm_nvm (f : Nvm → Nvm) (s : State) : (s.onNvm f).store.nvm = f s.store.nvm := rfl
@[simp] theorem State.onNvm_otp (f : Nvm → Nvm) (s : State) : (s.onNvm f).store.otp = s.store.otp := rfl
@[simp] theorem State.onNvm_fw (f : Nvm → Nvm) (s : State) : (s.onNvm f).store.fw = s.store.fw := rfl
@[simp] theorem State.onNvm_res (f : Nvm → Nvm) (s : State) : (s.onNvm f).store.res = s.store.res := rfl
@[simp] theorem State.onNvm_rtc (f : Nvm → Nvm) (s : State) : (s.onNvm f).store.rtc = s.store.rtc := rfl

@[simp] theorem State.onOtp_sys (f : Otp → Otp) (s : State) : (s.onOtp f).sys = s.sys := rfl
@[simp] theorem State.onOtp_hif (f : Otp → Otp) (s : State) : (s.onOtp f).hif = s.hif := rfl
@[simp] theorem State.onOtp_path (f : Otp → Otp) (s : State) : (s.onOtp f).path = s.path := rfl
@[simp] theorem State.onOtp_chg (f : Otp → Otp) (s : State) : (s.onOtp f).chg = s.chg := rfl
@[simp] theorem State.onOtp_pwr (f : Otp → Otp) (s : State) : (s.onOtp f).pwr = s.pwr := rfl
@[simp] theorem State.onOtp_est (f : Otp → Otp) (s : State) : (s.onOtp f).est = s.est := rfl
@[simp] theorem State.onOtp_acq (f : Otp → Otp) (s : State) : (s.onOtp f).acq = s.acq := rfl
@[simp] theorem State.onOtp_therm (f : Otp → Otp) (s : State) : (s.onOtp f).therm = s.therm := rfl
@[simp] theorem State.onOtp_pd (f : Otp → Otp) (s : State) : (s.onOtp f).pd = s.pd := rfl
@[simp] theorem State.onOtp_selv (f : Otp → Otp) (s : State) : (s.onOtp f).selv = s.selv := rfl
@[simp] theorem State.onOtp_eic (f : Otp → Otp) (s : State) : (s.onOtp f).eic = s.eic := rfl
@[simp] theorem State.onOtp_gpio (f : Otp → Otp) (s : State) : (s.onOtp f).gpio = s.gpio := rfl
@[simp] theorem State.onOtp_heddle (f : Otp → Otp) (s : State) : (s.onOtp f).heddle = s.heddle := rfl
@[simp] theorem State.onOtp_pending (f : Otp → Otp) (s : State) : (s.onOtp f).pending = s.pending := rfl
@[simp] theorem State.onOtp_par (f : Otp → Otp) (s : State) : (s.onOtp f).store.par = s.store.par := rfl
@[simp] theorem State.onOtp_nvm (f : Otp → Otp) (s : State) : (s.onOtp f).store.nvm = s.store.nvm := rfl
@[simp] theorem State.onOtp_otp (f : Otp → Otp) (s : State) : (s.onOtp f).store.otp = f s.store.otp := rfl
@[simp] theorem State.onOtp_fw (f : Otp → Otp) (s : State) : (s.onOtp f).store.fw = s.store.fw := rfl
@[simp] theorem State.onOtp_res (f : Otp → Otp) (s : State) : (s.onOtp f).store.res = s.store.res := rfl
@[simp] theorem State.onOtp_rtc (f : Otp → Otp) (s : State) : (s.onOtp f).store.rtc = s.store.rtc := rfl

@[simp] theorem State.onFw_sys (f : Fw → Fw) (s : State) : (s.onFw f).sys = s.sys := rfl
@[simp] theorem State.onFw_hif (f : Fw → Fw) (s : State) : (s.onFw f).hif = s.hif := rfl
@[simp] theorem State.onFw_path (f : Fw → Fw) (s : State) : (s.onFw f).path = s.path := rfl
@[simp] theorem State.onFw_chg (f : Fw → Fw) (s : State) : (s.onFw f).chg = s.chg := rfl
@[simp] theorem State.onFw_pwr (f : Fw → Fw) (s : State) : (s.onFw f).pwr = s.pwr := rfl
@[simp] theorem State.onFw_est (f : Fw → Fw) (s : State) : (s.onFw f).est = s.est := rfl
@[simp] theorem State.onFw_acq (f : Fw → Fw) (s : State) : (s.onFw f).acq = s.acq := rfl
@[simp] theorem State.onFw_therm (f : Fw → Fw) (s : State) : (s.onFw f).therm = s.therm := rfl
@[simp] theorem State.onFw_pd (f : Fw → Fw) (s : State) : (s.onFw f).pd = s.pd := rfl
@[simp] theorem State.onFw_selv (f : Fw → Fw) (s : State) : (s.onFw f).selv = s.selv := rfl
@[simp] theorem State.onFw_eic (f : Fw → Fw) (s : State) : (s.onFw f).eic = s.eic := rfl
@[simp] theorem State.onFw_gpio (f : Fw → Fw) (s : State) : (s.onFw f).gpio = s.gpio := rfl
@[simp] theorem State.onFw_heddle (f : Fw → Fw) (s : State) : (s.onFw f).heddle = s.heddle := rfl
@[simp] theorem State.onFw_pending (f : Fw → Fw) (s : State) : (s.onFw f).pending = s.pending := rfl
@[simp] theorem State.onFw_par (f : Fw → Fw) (s : State) : (s.onFw f).store.par = s.store.par := rfl
@[simp] theorem State.onFw_nvm (f : Fw → Fw) (s : State) : (s.onFw f).store.nvm = s.store.nvm := rfl
@[simp] theorem State.onFw_otp (f : Fw → Fw) (s : State) : (s.onFw f).store.otp = s.store.otp := rfl
@[simp] theorem State.onFw_fw (f : Fw → Fw) (s : State) : (s.onFw f).store.fw = f s.store.fw := rfl
@[simp] theorem State.onFw_res (f : Fw → Fw) (s : State) : (s.onFw f).store.res = s.store.res := rfl
@[simp] theorem State.onFw_rtc (f : Fw → Fw) (s : State) : (s.onFw f).store.rtc = s.store.rtc := rfl

@[simp] theorem State.onRes_sys (f : Reserve → Reserve) (s : State) : (s.onRes f).sys = s.sys := rfl
@[simp] theorem State.onRes_hif (f : Reserve → Reserve) (s : State) : (s.onRes f).hif = s.hif := rfl
@[simp] theorem State.onRes_path (f : Reserve → Reserve) (s : State) : (s.onRes f).path = s.path := rfl
@[simp] theorem State.onRes_chg (f : Reserve → Reserve) (s : State) : (s.onRes f).chg = s.chg := rfl
@[simp] theorem State.onRes_pwr (f : Reserve → Reserve) (s : State) : (s.onRes f).pwr = s.pwr := rfl
@[simp] theorem State.onRes_est (f : Reserve → Reserve) (s : State) : (s.onRes f).est = s.est := rfl
@[simp] theorem State.onRes_acq (f : Reserve → Reserve) (s : State) : (s.onRes f).acq = s.acq := rfl
@[simp] theorem State.onRes_therm (f : Reserve → Reserve) (s : State) : (s.onRes f).therm = s.therm := rfl
@[simp] theorem State.onRes_pd (f : Reserve → Reserve) (s : State) : (s.onRes f).pd = s.pd := rfl
@[simp] theorem State.onRes_selv (f : Reserve → Reserve) (s : State) : (s.onRes f).selv = s.selv := rfl
@[simp] theorem State.onRes_eic (f : Reserve → Reserve) (s : State) : (s.onRes f).eic = s.eic := rfl
@[simp] theorem State.onRes_gpio (f : Reserve → Reserve) (s : State) : (s.onRes f).gpio = s.gpio := rfl
@[simp] theorem State.onRes_heddle (f : Reserve → Reserve) (s : State) : (s.onRes f).heddle = s.heddle := rfl
@[simp] theorem State.onRes_pending (f : Reserve → Reserve) (s : State) : (s.onRes f).pending = s.pending := rfl
@[simp] theorem State.onRes_par (f : Reserve → Reserve) (s : State) : (s.onRes f).store.par = s.store.par := rfl
@[simp] theorem State.onRes_nvm (f : Reserve → Reserve) (s : State) : (s.onRes f).store.nvm = s.store.nvm := rfl
@[simp] theorem State.onRes_otp (f : Reserve → Reserve) (s : State) : (s.onRes f).store.otp = s.store.otp := rfl
@[simp] theorem State.onRes_fw (f : Reserve → Reserve) (s : State) : (s.onRes f).store.fw = s.store.fw := rfl
@[simp] theorem State.onRes_res (f : Reserve → Reserve) (s : State) : (s.onRes f).store.res = f s.store.res := rfl
@[simp] theorem State.onRes_rtc (f : Reserve → Reserve) (s : State) : (s.onRes f).store.rtc = s.store.rtc := rfl

@[simp] theorem State.onRtc_sys (f : Rtc → Rtc) (s : State) : (s.onRtc f).sys = s.sys := rfl
@[simp] theorem State.onRtc_hif (f : Rtc → Rtc) (s : State) : (s.onRtc f).hif = s.hif := rfl
@[simp] theorem State.onRtc_path (f : Rtc → Rtc) (s : State) : (s.onRtc f).path = s.path := rfl
@[simp] theorem State.onRtc_chg (f : Rtc → Rtc) (s : State) : (s.onRtc f).chg = s.chg := rfl
@[simp] theorem State.onRtc_pwr (f : Rtc → Rtc) (s : State) : (s.onRtc f).pwr = s.pwr := rfl
@[simp] theorem State.onRtc_est (f : Rtc → Rtc) (s : State) : (s.onRtc f).est = s.est := rfl
@[simp] theorem State.onRtc_acq (f : Rtc → Rtc) (s : State) : (s.onRtc f).acq = s.acq := rfl
@[simp] theorem State.onRtc_therm (f : Rtc → Rtc) (s : State) : (s.onRtc f).therm = s.therm := rfl
@[simp] theorem State.onRtc_pd (f : Rtc → Rtc) (s : State) : (s.onRtc f).pd = s.pd := rfl
@[simp] theorem State.onRtc_selv (f : Rtc → Rtc) (s : State) : (s.onRtc f).selv = s.selv := rfl
@[simp] theorem State.onRtc_eic (f : Rtc → Rtc) (s : State) : (s.onRtc f).eic = s.eic := rfl
@[simp] theorem State.onRtc_gpio (f : Rtc → Rtc) (s : State) : (s.onRtc f).gpio = s.gpio := rfl
@[simp] theorem State.onRtc_heddle (f : Rtc → Rtc) (s : State) : (s.onRtc f).heddle = s.heddle := rfl
@[simp] theorem State.onRtc_pending (f : Rtc → Rtc) (s : State) : (s.onRtc f).pending = s.pending := rfl
@[simp] theorem State.onRtc_par (f : Rtc → Rtc) (s : State) : (s.onRtc f).store.par = s.store.par := rfl
@[simp] theorem State.onRtc_nvm (f : Rtc → Rtc) (s : State) : (s.onRtc f).store.nvm = s.store.nvm := rfl
@[simp] theorem State.onRtc_otp (f : Rtc → Rtc) (s : State) : (s.onRtc f).store.otp = s.store.otp := rfl
@[simp] theorem State.onRtc_fw (f : Rtc → Rtc) (s : State) : (s.onRtc f).store.fw = s.store.fw := rfl
@[simp] theorem State.onRtc_res (f : Rtc → Rtc) (s : State) : (s.onRtc f).store.res = s.store.res := rfl
@[simp] theorem State.onRtc_rtc (f : Rtc → Rtc) (s : State) : (s.onRtc f).store.rtc = f s.store.rtc := rfl

end Sys2Proof.Machine
end

