-- ==== Sys2Proof/Laws/Ops.lean ====
section
/-! SUPPORT. What each shared operation of Machine/Ops.lean does and leaves alone: ports, completions, events, picks, edges. -/

namespace Sys2Proof.Machine

/-! ### Ports -/

@[simp] theorem Hif.onPort_port (p q : Port) (f : PortState → PortState) (h : Hif) :
    (Hif.onPort p f h).port q = if q = p then f (h.port p) else h.port q := by
  cases p <;> cases q <;> rfl

@[simp] theorem Hif.onPort_slots (p : Port) (f : PortState → PortState) (h : Hif) : (Hif.onPort p f h).slots = h.slots := by
  cases p <;> rfl

@[simp] theorem Hif.onPort_events (p : Port) (f : PortState → PortState) (h : Hif) : (Hif.onPort p f h).events = h.events := by
  cases p <;> rfl

/-- What a possible new interrupt reason does: at most it lets HIRQC_N be asserted again. -/
theorem newReason_eq (p : Port) (old h : Hif) : newReason p old h = h ∨ newReason p old h = { h with alertReleased := false } := by
  have ns : ∀ g : Hif, g.newSticky = g ∨ g.newSticky = { g with alertReleased := false } := fun g => by
    unfold Hif.newSticky
    split
    · exact .inr rfl
    · exact .inl rfl
  unfold newReason
  generalize hc : (if p = .i2c && freshReason old.i2c h.i2c then { h with alertReleased := false } else h) = h1
  have h1e : h1 = h ∨ h1 = { h with alertReleased := false } := by
    subst hc
    split
    · exact .inr rfl
    · exact .inl rfl
  show (if _ then h1.newSticky else h1) = h ∨ _
  split
  · obtain e | e := ns h1 <;> obtain rfl | rfl := h1e <;> rw [e] <;> simp
  · exact h1e

@[simp] theorem newReason_port (p q : Port) (old h : Hif) : (newReason p old h).port q = h.port q := by
  obtain e | e := newReason_eq p old h <;> rw [e] <;> cases q <;> rfl

@[simp] theorem newReason_slots (p : Port) (old h : Hif) : (newReason p old h).slots = h.slots := by
  obtain e | e := newReason_eq p old h <;> rw [e]

@[simp] theorem newReason_events (p : Port) (old h : Hif) : (newReason p old h).events = h.events := by
  obtain e | e := newReason_eq p old h <;> rw [e]

@[simp] theorem onPort_port (p q : Port) (f : PortState → PortState) (s : State) :
    (onPort p f s).hif.port q = if q = p then f (s.hif.port p) else s.hif.port q := Hif.onPort_port p q f s.hif

@[simp] theorem onPort_slots (p : Port) (f : PortState → PortState) (s : State) : (onPort p f s).hif.slots = s.hif.slots :=
  Hif.onPort_slots p f s.hif

@[simp] theorem onPort_events (p : Port) (f : PortState → PortState) (s : State) : (onPort p f s).hif.events = s.hif.events :=
  Hif.onPort_events p f s.hif

@[simp] theorem onPort_rest (p : Port) (f : PortState → PortState) (s : State) : { s with hif := (onPort p f s).hif } = onPort p f s := rfl

@[simp] theorem onPortNew_port (p q : Port) (f : PortState → PortState) (s : State) :
    (onPortNew p f s).hif.port q = if q = p then f (s.hif.port p) else s.hif.port q := by
  simp [onPortNew]

@[simp] theorem onPortNew_slots (p : Port) (f : PortState → PortState) (s : State) : (onPortNew p f s).hif.slots = s.hif.slots := by
  simp [onPortNew]

@[simp] theorem onPortNew_events (p : Port) (f : PortState → PortState) (s : State) : (onPortNew p f s).hif.events = s.hif.events := by
  simp [onPortNew]

@[simp] theorem onPortNew_rest (p : Port) (f : PortState → PortState) (s : State) :
    { s with hif := (onPortNew p f s).hif } = onPortNew p f s := rfl

@[simp] theorem onSlots_port (f : List Slot → List Slot) (q : Port) (s : State) : (onSlots f s).hif.port q = s.hif.port q := by
  cases q <;> rfl

@[simp] theorem onSlots_slots (f : List Slot → List Slot) (s : State) : (onSlots f s).hif.slots = f s.hif.slots := rfl

@[simp] theorem onSlots_events (f : List Slot → List Slot) (s : State) : (onSlots f s).hif.events = s.hif.events := rfl

/-! ### Completions -/

/-- A quotient whose rounding the manual leaves open is the one below or the one above. -/
theorem rdiv_cases (n d : Int) : rdiv n d = n.fdiv d ∨ rdiv n d = n.fdiv d + 1 := by
  simp only [rdiv]
  split
  · next h => simp [h]
  · split
    · exact .inl rfl
    · split
      · exact .inr rfl
      · exact .inl rfl

/-- What a change of the first picked entry does to that entry. -/
theorem find_modFirst {q : Slot → Bool} {f : Slot → Slot} (hf : ∀ x, q x = true → q (f x) = true) (l : List Slot) :
    (modFirst q f l).find? q = (l.find? q).map f := by
  induction l with
  | nil => rfl
  | cons x l ih => by_cases hx : q x = true <;> simp [modFirst, hx, hf, ih]

/-- The first picked entry taken out, it makes no difference that it was changed before. -/
theorem eraseP_modFirst {q : Slot → Bool} {f : Slot → Slot} (hf : ∀ x, q x = true → q (f x) = true) (l : List Slot) :
    (modFirst q f l).eraseP q = l.eraseP q := by
  induction l with
  | nil => rfl
  | cons x l ih => by_cases hx : q x = true <;> simp [modFirst, hx, hf, ih]

theorem findSlot_port {p : Port} {tag : Tag} {s : State} {x : Slot} (h : findSlot p tag s = some x) : x.port = p ∧ x.tag = tag := by
  have := List.find?_some h
  simp at this
  exact ⟨this.1.1, this.1.2⟩

/-- A completion with room in the queue, as one change of the port. -/
theorem complete_room {p : Port} {tag : Tag} {s : State} {x : Slot} (st : Nat) (ws : List W) (h : findSlot p tag s = some x)
    (hr : CqRoom p s) : complete p tag st ws s =
      onPortNew p (fun q => { (q.postCq (completionWords x st ws s) x.notify false) with avail := q.avail + 1 })
        (onSlots (removeSlot p tag) s) := by
  obtain ⟨h0, h1, h2, _⟩ := hr
  obtain ⟨hp, _⟩ := findSlot_port h
  subst hp
  have hany : (removeSlot x.port tag s.hif.slots).any (fun y => y.port == x.port && y.status.isFinished) = false := by
    rw [List.any_eq_false] at h2 ⊢
    exact fun y hy => h2 y (List.mem_of_mem_eraseP hy)
  have hq : ((onSlots (removeSlot x.port tag) s).hif.port x.port) = s.hif.port x.port := by
    cases x.port <;> rfl
  have hw : completionWords x st ws (onSlots (removeSlot x.port tag) s) = completionWords x st ws s := rfl
  unfold complete
  simp only [h]
  unfold finish
  simp only [h0, if_false, hq, hw]
  rw [if_pos]
  simp only [h1, Bool.true_and, Bool.not_eq_true']
  exact hany

theorem completionWords_length (x : Slot) (st : Nat) (ws : List W) (s : State) : (completionWords x st ws s).length = 16 := by
  simp [completionWords, padTo]

/-! ### Events and picks -/

/-- What raising a host event does: out of reset it joins the raised events, in reset nothing happens. -/
theorem raiseEvent_eq (code : Nat) (d : W) (s : State) : raiseEvent code d s =
    { s with hif := { s.hif with events := if s.sys.inReset then s.hif.events
                                           else s.hif.events ++ [{ code := code, detail := d, time := s.sys.devTime }] } } := by
  unfold raiseEvent
  split <;> simp_all [State.onHif]

@[simp] theorem raiseEvent_sys (code : Nat) (d : W) (s : State) : (raiseEvent code d s).sys = s.sys := by simp [raiseEvent_eq]
@[simp] theorem raiseEvent_path (code : Nat) (d : W) (s : State) : (raiseEvent code d s).path = s.path := by simp [raiseEvent_eq]
@[simp] theorem raiseEvent_chg (code : Nat) (d : W) (s : State) : (raiseEvent code d s).chg = s.chg := by simp [raiseEvent_eq]
@[simp] theorem raiseEvent_pwr (code : Nat) (d : W) (s : State) : (raiseEvent code d s).pwr = s.pwr := by simp [raiseEvent_eq]
@[simp] theorem raiseEvent_est (code : Nat) (d : W) (s : State) : (raiseEvent code d s).est = s.est := by simp [raiseEvent_eq]
@[simp] theorem raiseEvent_acq (code : Nat) (d : W) (s : State) : (raiseEvent code d s).acq = s.acq := by simp [raiseEvent_eq]
@[simp] theorem raiseEvent_pd (code : Nat) (d : W) (s : State) : (raiseEvent code d s).pd = s.pd := by simp [raiseEvent_eq]
@[simp] theorem raiseEvent_selv (code : Nat) (d : W) (s : State) : (raiseEvent code d s).selv = s.selv := by simp [raiseEvent_eq]
@[simp] theorem raiseEvent_eic (code : Nat) (d : W) (s : State) : (raiseEvent code d s).eic = s.eic := by simp [raiseEvent_eq]
@[simp] theorem raiseEvent_heddle (code : Nat) (d : W) (s : State) : (raiseEvent code d s).heddle = s.heddle := by simp [raiseEvent_eq]
@[simp] theorem raiseEvent_store (code : Nat) (d : W) (s : State) : (raiseEvent code d s).store = s.store := by simp [raiseEvent_eq]
@[simp] theorem raiseEvent_slots (code : Nat) (d : W) (s : State) : (raiseEvent code d s).hif.slots = s.hif.slots := by
  simp [raiseEvent_eq]
@[simp] theorem raiseEvent_port (code : Nat) (d : W) (p : Port) (s : State) : (raiseEvent code d s).hif.port p = s.hif.port p := by
  rw [raiseEvent_eq]; cases p <;> rfl

/-- Out of reset, raising a pick delivers it to the intake and raises its host event; nothing else changes. -/
theorem raisePickEv_run (src kind detail : Nat) (ev : Option (Nat × W)) (s : State) (h : s.sys.inReset = false) :
    raisePickEv src kind detail ev s =
      { s with
        selv := Selv.deliver { pick := mkPick src kind detail, carried := false, time := s.sys.devTime } s.selv,
        hif := { s.hif with events := s.hif.events ++ (ev.map (fun e => { code := e.1, detail := e.2, time := s.sys.devTime })).toList } } := by
  unfold raisePickEv
  cases ev <;> simp [h, raiseEvent, State.onSelv, State.onHif]

/-- A pick touches the Selvedge and the raised events alone, in reset too. -/
theorem raisePickEv_frame (src kind detail : Nat) (ev : Option (Nat × W)) (s : State) :
    raisePickEv src kind detail ev s =
      { s with selv := (raisePickEv src kind detail ev s).selv,
               hif := { s.hif with events := (raisePickEv src kind detail ev s).hif.events } } := by
  cases h : s.sys.inReset
  · simp [raisePickEv_run _ _ _ _ _ h]
  · unfold raisePickEv
    simp only [h, if_true]
    split <;> rfl

@[simp] theorem raisePickEv_sys (a k d : Nat) (ev : Option (Nat × W)) (s : State) : (raisePickEv a k d ev s).sys = s.sys := by
  rw [raisePickEv_frame]
@[simp] theorem raisePickEv_path (a k d : Nat) (ev : Option (Nat × W)) (s : State) : (raisePickEv a k d ev s).path = s.path := by
  rw [raisePickEv_frame]
@[simp] theorem raisePickEv_chg (a k d : Nat) (ev : Option (Nat × W)) (s : State) : (raisePickEv a k d ev s).chg = s.chg := by
  rw [raisePickEv_frame]
@[simp] theorem raisePickEv_pwr (a k d : Nat) (ev : Option (Nat × W)) (s : State) : (raisePickEv a k d ev s).pwr = s.pwr := by
  rw [raisePickEv_frame]
@[simp] theorem raisePickEv_est (a k d : Nat) (ev : Option (Nat × W)) (s : State) : (raisePickEv a k d ev s).est = s.est := by
  rw [raisePickEv_frame]
@[simp] theorem raisePickEv_pd (a k d : Nat) (ev : Option (Nat × W)) (s : State) : (raisePickEv a k d ev s).pd = s.pd := by
  rw [raisePickEv_frame]
@[simp] theorem raisePickEv_eic (a k d : Nat) (ev : Option (Nat × W)) (s : State) : (raisePickEv a k d ev s).eic = s.eic := by
  rw [raisePickEv_frame]
@[simp] theorem raisePickEv_heddle (a k d : Nat) (ev : Option (Nat × W)) (s : State) :
    (raisePickEv a k d ev s).heddle = s.heddle := by
  rw [raisePickEv_frame]
@[simp] theorem raisePickEv_store (a k d : Nat) (ev : Option (Nat × W)) (s : State) : (raisePickEv a k d ev s).store = s.store := by
  rw [raisePickEv_frame]
@[simp] theorem raisePickEv_slots (a k d : Nat) (ev : Option (Nat × W)) (s : State) :
    (raisePickEv a k d ev s).hif.slots = s.hif.slots := by
  rw [raisePickEv_frame]
@[simp] theorem raisePickEv_port (a k d : Nat) (ev : Option (Nat × W)) (p : Port) (s : State) :
    (raisePickEv a k d ev s).hif.port p = s.hif.port p := by
  rw [raisePickEv_frame]; cases p <;> rfl

/-! ### Shared combinators -/

/-- A property that both ways of `when_` have. -/
theorem when_ind {P : State → Prop} {c : Bool} {f : State → State} {s : State} (h0 : c = false → P s) (h1 : c = true → P (f s)) :
    P (when_ c f s) := by
  cases c
  · exact h0 rfl
  · exact h1 rfl

/-- A part of the state that every step of a fold keeps, the fold keeps. -/
theorem foldS_keeps {α β γ : Type} {g : β → γ} {f : α → β → β} (h : ∀ a b, g (f a b) = g b) (l : List α) (b : β) :
    g (foldS f l b) = g b := by
  induction l generalizing b with
  | nil => rfl
  | cons a l ih => simpa [foldS] using (ih (f a b)).trans (h a b)

/-- A property that every step of a fold keeps, the fold keeps. -/
theorem foldS_ind {α β : Type} {P : β → Prop} {f : α → β → β} (h : ∀ a b, P b → P (f a b)) (l : List α) (b : β) (hb : P b) :
    P (foldS f l b) := by
  induction l generalizing b with
  | nil => exact hb
  | cons a l ih => exact ih (f a b) (h a b hb)

/-- A mode change keeps everything but the mode and the raised events. -/
theorem setMode_frame (m : Mode) (s : State) : setMode m s =
    { s with sys := { s.sys with mode := m }, hif := { s.hif with events := (setMode m s).hif.events } } := by
  unfold setMode
  split
  · rename_i h; cases s with | mk sys => cases sys; cases h; rfl
  · simp [raiseEvent_eq, State.onSys]

@[simp] theorem setMode_mode (m : Mode) (s : State) : (setMode m s).sys.mode = m := by rw [setMode_frame]
@[simp] theorem setMode_heddle (m : Mode) (s : State) : (setMode m s).heddle = s.heddle := by rw [setMode_frame]
@[simp] theorem setMode_store (m : Mode) (s : State) : (setMode m s).store = s.store := by rw [setMode_frame]
@[simp] theorem setMode_pwr (m : Mode) (s : State) : (setMode m s).pwr = s.pwr := by rw [setMode_frame]
@[simp] theorem setMode_path (m : Mode) (s : State) : (setMode m s).path = s.path := by rw [setMode_frame]

/-! ### Edges of the event controller -/

theorem mirrorEvent_frame (n : Nat) (s : State) : { s with hif := (mirrorEvent n s).hif } = mirrorEvent n s := by
  unfold mirrorEvent
  refine foldS_ind (P := fun (t : State) => { s with hif := t.hif } = t) ?_ _ _ rfl
  intro p t ht
  unfold when_
  split
  · rw [← ht]; rfl
  · exact ht

/-- What an edge may change: the controller, the host interface, the latches of groups and the Selvedge. -/
theorem latchEicInj_frame (n : Nat) (b : Bool) (s : State) :
    latchEicInj n b s = { s with eic := (latchEicInj n b s).eic, hif := (latchEicInj n b s).hif, pwr := (latchEicInj n b s).pwr,
                                 selv := (latchEicInj n b s).selv } := by
  unfold latchEicInj
  split
  · rfl
  · unfold stormCheck
    rw [← mirrorEvent_frame]
    refine when_ind (P := fun (t : State) => t = { s with eic := t.eic, hif := t.hif, pwr := t.pwr, selv := t.selv }) (fun _ => rfl) (fun _ => ?_)
    rw [raisePickEv_frame]
    rfl

@[simp] theorem latchEic_sys (n : Nat) (s : State) : (latchEic n s).sys = s.sys := by unfold latchEic; rw [latchEicInj_frame]
@[simp] theorem latchEic_path (n : Nat) (s : State) : (latchEic n s).path = s.path := by unfold latchEic; rw [latchEicInj_frame]
@[simp] theorem latchEic_chg (n : Nat) (s : State) : (latchEic n s).chg = s.chg := by unfold latchEic; rw [latchEicInj_frame]
@[simp] theorem latchEic_est (n : Nat) (s : State) : (latchEic n s).est = s.est := by unfold latchEic; rw [latchEicInj_frame]
@[simp] theorem latchEic_pd (n : Nat) (s : State) : (latchEic n s).pd = s.pd := by unfold latchEic; rw [latchEicInj_frame]
@[simp] theorem latchEic_heddle (n : Nat) (s : State) : (latchEic n s).heddle = s.heddle := by
  unfold latchEic; rw [latchEicInj_frame]
@[simp] theorem latchEic_store (n : Nat) (s : State) : (latchEic n s).store = s.store := by unfold latchEic; rw [latchEicInj_frame]
@[simp] theorem latchEic_therm (n : Nat) (s : State) : (latchEic n s).therm = s.therm := by unfold latchEic; rw [latchEicInj_frame]
@[simp] theorem latchEic_acq (n : Nat) (s : State) : (latchEic n s).acq = s.acq := by unfold latchEic; rw [latchEicInj_frame]
@[simp] theorem latchEic_gpio (n : Nat) (s : State) : (latchEic n s).gpio = s.gpio := by unfold latchEic; rw [latchEicInj_frame]

/-! ### Commands -/

/-- An admitted command's row runs its handler. -/
theorem runCmd_admitted {op : Nat} {p : Port} {tag : Tag} {x : Slot} {s : State} (h : Admitted op p tag x s)
    (f : Slot → State → State) : runCmd op p tag f s = f x s := by
  obtain ⟨h1, h2, h3, h4⟩ := h
  simp [runCmd, h1, h2, h3, h4]

/-- A row whose command is not admitted changes nothing. -/
theorem runCmd_other {op : Nat} {p : Port} {tag : Tag} {s : State} (f : Slot → State → State)
    (h : ∀ x, ¬ Admitted op p tag x s) : runCmd op p tag f s = s := by
  unfold runCmd
  split
  · rfl
  · rename_i x hx
    split
    · rename_i hc
      simp only [Bool.and_eq_true, decide_eq_true_eq] at hc
      exact absurd ⟨hx, hc.1.1, hc.1.2, hc.2⟩ (h x)
    · rfl

end Sys2Proof.Machine
end

