-- ==== Sys2Proof/Tests/Slice0.lean ====
section
/-! SUPPORT. Small states and single-step tests: well-formedness, each command family, and for every statement with hypotheses a
state and operands that meet them all. -/

namespace Sys2Proof.Tests

open Sys2Proof Sys2Proof.Machine

set_option Elab.async false

/-! ### Small states -/

/-- A device in NORMAL with full service, one second after POR. -/
def up : State :=
  { State.reset with
    sys := { State.reset.sys with
      mode := .normal, service := .full, stage := 0x04, devTime := 1000000, hortoRuns := true,
      boot := { otpDone := true, earlyOpen := true, sysLocked := true, recallDone := true, bootDone := true, cfgLoaded := true,
                acqLocked := true, full := true, firstRound := true, autoDue := false, startEntryDue := false } } }

/-- `up` in early service, before Horto runs. -/
def early : State :=
  { State.reset with sys := { State.reset.sys with devTime := 1000, boot := { otpDone := true, earlyOpen := true, sysLocked := true } } }

/-- The same state in another mode. -/
def inMode (m : Mode) (s : State) : State := { s with sys := { s.sys with mode := m } }

/-- A slot of SPI A with tag 7, its handler not yet run. -/
def slotW (op : Nat) (ws : List W) : Slot :=
  { port := .spia, tag := 7, op := op, cls := (opInfo op).elim 1 (fun i => i.cls), notify := false, payload := ws, tAcc := 999990,
    deferred := false, waitTicks := 0, status := .admitted }

/-- `s` with a command of SPI A admitted under tag 7. -/
def adm (op : Nat) (ws : List W) (s : State) : State :=
  { s with hif := { s.hif with slots := [slotW op ws], spia := { s.hif.spia with avail := 127 } } }

/-- `s` with the completion queue of SPI A full. -/
def cqFull (s : State) : State := { s with hif := { s.hif with spia := { s.hif.spia with cqTail := 63 } } }

/-- `s` with two completions posted at SPI A. -/
def cqUsed (s : State) : State := { s with hif := { s.hif with spia := { s.hif.spia with cqTail := 2 } } }

/-- `s` with a session reset of SPI A in progress. -/
def resetting (s : State) : State := { s with hif := { s.hif with spia := { s.hif.spia with sess := .resetting } } }

/-- `s` with no credit left at SPI A. -/
def noCredits (s : State) : State := { s with hif := { s.hif with spia := { s.hif.spia with avail := 0 } } }

/-- A slot whose completion waits. -/
def finishedSlot : Slot := { slotW 0x901 [0x80] with status := .finished (List.replicate 16 3) }

/-- `s` with one more command, of tag 7, written behind SQ_TAIL of each SPI port. -/
def presented (op cls : Nat) (ws : List W) (s : State) : State :=
  let put := fun (q : PortState) => { q with
    sqTail := q.sqTail + 1,
    sqMem := Memory.writeWs .queue q.sqMem (64 * q.sqTail.toNat) (w32 (op + 4096 * cls + 65536 * 7 + 16777216 * ws.length) :: ws) }
  { s with hif := { s.hif with spia := put s.hif.spia, spib := put s.hif.spib } }

/-- What `presented` with no payload spells at SPI A. -/
def shownSlot (op cls : Nat) : Slot :=
  { port := .spia, tag := 7, op := op, cls := cls, notify := false, payload := [], tAcc := 1000000, deferred := false, waitTicks := 0,
    status := .deferred }

/-- A parameter row to fall back to. -/
def noInfo : PInfo := { id := 0, ty := .u8, lo := 0, hi := 0, extra := [], step := 1, dflt := 0, rst := .por, cls := .ro, words := 1 }

/-- A PARAM_SET entry to fall back to. -/
def noEntry : SetEntry := { id := 0, info := none, off := 0, vals := [], runsPast := false }


/-- An image that verifies in RAW, version 1.0. -/
def goodImg : ImgFacts :=
  { magicOk := true, fits := true, hashOk := true, key := .manufacturing, sigOk := true, version := 0x01000000, madeFor := 0x01000000,
    rollback := 0 }

/-- A bank of such images. -/
def goodBank : BankImages := { horto := goodImg, pd0 := goodImg, pd1 := goodImg, cfg := goodImg }

/-- Two banks that verify. -/
def goodFacts : BootFacts := { a := goodBank, b := goodBank }

/-- Two banks whose Horto images do not. -/
def badFacts : BootFacts :=
  { a := { goodBank with horto := { goodImg with sigOk := false } }, b := { goodBank with horto := { goodImg with hashOk := false } } }

/-- A device that has booted bank A, before its configuration is loaded. -/
def bootedNow : State :=
  { early with sys := { early.sys with boot := { early.sys.boot with bootDone := true } },
               store := { early.store with fw := { early.store.fw with facts := some goodFacts } } }

/-- A valid configuration image: the three factory tables, every other parameter at its default. -/
def okImage : List (Nat × List W) :=
  [(Pid.EST_OCV_FACT, tableWords .ocv { ver := 1, factCrc := 0, entries := (List.range 168).map (fun i => 2600 + 10 * (i % 21)) }),
   (Pid.EST_CAP_FACT, tableWords .cap { ver := 1, factCrc := 0, entries := List.replicate (tableLen .cap) 1000 }),
   (Pid.EST_RS_FACT, tableWords .rs { ver := 1, factCrc := 0, entries := List.replicate 88 1000 })]

/-- `s` with group 0 in use, of one step that enables EN0, and DOWN. -/
def withGroup (s : State) : State :=
  let t := setPv Pid.SEQ_GROUPS 0 0xC0000100 (setPv Pid.SEQ_STEPS 0 0x10200000 (setPv Pid.SEQ_ORDER 0 0x88888880 s))
  { t with pwr := { t.pwr with grp := vmod t.pwr.grp 0 (fun x => { x with st := .down }) } }

/-- `up` with the link in SOURCE: DCA carries it, DCB stands by. -/
def linkUp : State :=
  { up with
    path := { up.path with
      porSet := false, link := .source, carrier := 0, vlink := 48000, vbat := 51200,
      dca := { up.path.dca with st := .enabled, inWin := true, mv := 48000, gate := true, limMa := 10000, cls := 3 },
      dcb := { up.path.dcb with st := .standby, inWin := true, mv := 47000, gate := false, limMa := 10000, cls := 3 } } }

/-- `s` with source 0 (DCA) changed. -/
def withDca (f : Source → Source) (s : State) : State := { s with path := { s.path with dca := f s.path.dca } }

/-- `s` with source 1 (DCB) changed. -/
def withDcb (f : Source → Source) (s : State) : State := { s with path := { s.path with dcb := f s.path.dcb } }

/-- `s` with the link in another state. -/
def inLink (l : LinkState) (s : State) : State := { s with path := { s.path with link := l } }

/-- `linkUp` while charging in a state, the battery at 25 degC, with 9 samples counted up or down. -/
def charging (st : ChgState) : State :=
  let s := setPv Pid.CHG_TSNS 0 0 (setPv Pid.CHG_EN 0 1 linkUp)
  { s with
    therm := { s.therm with sens := vmap (fun x => { x with c10 := some 250 }) s.therm.sens },
    chg := { s.chg with st := st, started := true, pwm := true, chargeMa := 500, upTicks := if st = .precharge then 0 else 9,
                        downTicks := if st = .precharge then 9 else 0, ccSet := pn Pid.CHG_I_CC_MA s } }

/-- Channel 0 of members PH0 and PH1 and spare PH2 in a state, at 5.0 V from a link of 48 V. -/
def chan0 (st : ChanState) : State :=
  let s := setPv Pid.VR_ASSIGN 0 0x82000003 (setPv (Pid.VR_VOUT_MV 0) 0 5000 linkUp)
  { s with
    pwr := { s.pwr with
      vr := vmod s.pwr.vr 0 (fun x => { x with st := st, setMv := 5000, refMv := 5000, outMv := 5000, pg := st.isUp }),
      ph := vmod (vmod (vmod s.pwr.ph 0 (fun x => { x with st := .member, level := .low }))
        1 (fun x => { x with st := .member, level := .low })) 2 (fun x => { x with st := .standby }) } }

/-- `s` with channel 0 changed. -/
def withChan (f : Chan → Chan) (s : State) : State := { s with pwr := { s.pwr with vr := vmod s.pwr.vr 0 f } }

/-- `s` with phase `k` changed. -/
def withPhase (k : Fin 24) (f : Phase → Phase) (s : State) : State := { s with pwr := { s.pwr with ph := vmod s.pwr.ph k f } }

/-- `s` with LDO 0 changed. -/
def withLdo (f : Ldo → Ldo) (s : State) : State := { s with pwr := { s.pwr with ldo := vmod s.pwr.ldo 0 f } }

/-- `s` with EN0 changed. -/
def withEn (f : En → En) (s : State) : State := { s with pwr := { s.pwr with en := vmod s.pwr.en 0 f } }

/-- `s` with MON0 changed. -/
def withMon (f : Mon → Mon) (s : State) : State := { s with pwr := { s.pwr with mon := vmod s.pwr.mon 0 f } }

/-- `s` with group 0 changed. -/
def withGrp (f : Group → Group) (s : State) : State := { s with pwr := { s.pwr with grp := vmod s.pwr.grp 0 f } }

/-- `s` with every group in a state. -/
def allGroups (g : GroupState) (s : State) : State := { s with pwr := { s.pwr with grp := vmap (fun x => { x with st := g }) s.pwr.grp } }

/-- `s` with a command of SPI A running under tag 7. -/
def runningNow (op : Nat) (ws : List W) (s : State) : State :=
  { s with hif := { s.hif with slots := [{ slotW op ws with status := .running }], spia := { s.hif.spia with avail := 127 } } }

/-- `s` with one more slot before its first. -/
def twoSlots (y : Slot) (s : State) : State := { s with hif := { s.hif with slots := y :: s.hif.slots } }

/-- `s` with a RAIL_OFF of SPI A under tag 7 waiting for a rail. -/
def waitsFor (r : Rail) (s : State) : State :=
  { s with pwr := { s.pwr with railWaits := [{ rail := r, cmd := some { port := .spia, tag := 7 } }] } }

/-- `s` with the caddy changed. -/
def withCaddy (f : Caddy → Caddy) (s : State) : State := { s with est := { s.est with caddy := f s.est.caddy } }

/-- `s` with every sensor at a temperature, 0.1 degC. -/
def warm (c10 : Int) (s : State) : State := { s with therm := { s.therm with sens := vmap (fun x => { x with c10 := some c10 }) s.therm.sens } }

/-- A function test that runs. -/
def running1 : RunTest :=
  { kind := .function, ts := 5, at_ := 0, planned := 60, lowMv := 50000, v0 := 51000, q0 := 0, soc0 := 8000, floor0 := 100, forced := false,
    manual := true, mainsLost := false, up0 := 0 }

/-- `s` while a test runs. -/
def testing (r : RunTest) (s : State) : State := { s with est := { s.est with test := some r, flags := 0x4000 } }

/-- A one-input descriptor: VLINK on slice 5, 32 samples, started at arming. -/
def cap1 : CapDesc :=
  { mode := 0, urgent := false, rearms := 0, trig := 0, trigNo := 0, inputs := [0x50], mask := 32, dec := 1, pre := 0, n := 32 }

/-- `up` with the acquisition converting. -/
def acqUp : State := { up with acq := { up.acq with settled := true } }

/-- `s` with capture slot 0 changed. -/
def withCap (f : CapSlot → CapSlot) (s : State) : State := { s with acq := { s.acq with slot := vmod s.acq.slot 0 f } }

/-- `s` with a valid round and one entry in its table. -/
def inTable (code : Nat) (e : RoundEntry) (s : State) : State := { s with acq := { s.acq with roundValid := true, table := [(code, e)] } }

/-- `s` with every comparator armed. -/
def ccArmed (s : State) : State := { s with acq := { s.acq with cc := vmap (fun _ => { armed := true }) s.acq.cc } }

/-- A running round with TSNS0, a diode, alone in zone Z0, whose shutdown takes LDO0. -/
def inZone0 : State :=
  let s := setPv (Pid.THERM_Z_SNS 0) 0 0xFF00 (setPv (Pid.TSNS_KIND 0) 0 2 (setPv (Pid.THERM_Z_RAILS 0) 0 0x10000 acqUp))
  { s with acq := { s.acq with running := true },
           therm := { s.therm with sens := vmap (fun x => { x with levels := [700, 1000, 1200, 20, 20, 20] }) s.therm.sens } }

/-- TSNS0, a diode of no zone, at the fast rate. -/
def fastSens4 : State :=
  let s := setPv (Pid.TSNS_KIND 0) 0 2 acqUp
  { s with sys := { s.sys with devTime := 1001000 },
           therm := { s.therm with sens := vmod s.therm.sens 4 (fun x => { x with fast := true, levels := [700, 1000, 1200, 20, 20, 20] }) } }

/-- A read of TSNS0 by its diode voltages. -/
def diodeRead (v : BitVec 16) : InputResult := { code := 0x58, value := v, overrange := false, restarted := false, tempC10 := 0, vfMv := 500 }

/-- A diode's temperature is one of two values, by its open rounding. -/
theorem of_diode {i : Fin 12} {r : InputResult} {s : State} {c : Int} (h : readC10 i r s = c) (n : Int) (hk : sensKind i s = 2)
    (hi : pn (Pid.TSNS_IDEAL (i.val - 4)) s = 1008) (hn : (r.value.toInt * 375 * 5039778 - 2753352000000).fdiv 1008000000 = n) :
    c = n ∨ c = n + 1 := by
  have e : readC10 i r s = rdiv (r.value.toInt * 375 * 5039778 - 2753352000000) 1008000000 := by
    unfold readC10
    rw [hk]
    simp only [diodeC10, hi]
    rfl
  rw [← h, e, ← hn]
  exact rdiv_cases _ _

/-- `linkUp` with the PD core running and channel 0, in REGULATE at 5.0 V, linked to port A. -/
def pdUp : State :=
  let s := setPv (Pid.PD_VR 0) 0 0 (chan0 .off)
  { s with pd := { s.pd with coreRuns := true } }

/-- `s` with port A changed. -/
def withPort (f : PdPort → PdPort) (s : State) : State := { s with pd := { s.pd with a := f s.pd.a } }

/-- Port A as a sink in a contract at 20 V, its path carrying nothing. -/
def pdSink : State :=
  withPort (fun x => { x with st := .attachedSnk, cc := .rd, pos := 2, mv := 20000, ma := 3000, vbus := 20000 }) pdUp

/-- Port A as a source of 5 V with the pair on, offering 5 V and 9 V at 3 A. -/
def pdSource : State :=
  let w := fun (k mv : Nat) (s : State) => setPv (Pid.PD_SRC_PDO 0) k (0x80000000 + (mv / 50) * 1024 + 300) s
  withPort (fun x => { x with st := .attachedSrc, cc := .rp, source := true, dfp := true, vconnSrc := true, gsrc := true, chanOn := true,
                              vbus := 5000 })
    (w 0 5000 (w 1 9000 (setPv (Pid.PD_SRC_MAX_MW 0) 0 60000 (setPv (Pid.PD_VR 0) 0 0
      { chan0 .regulate with pd := { up.pd with coreRuns := true } }))))

/-- `s` with SVID 0x1234 in the OTP shadow. -/
def svidSet (s : State) : State := { s with store := { s.store with otp := { s.store.otp with shadow := [(0x082, 0x12340000)] } } }

/-- `s` with source 2 (USBA) changed. -/
def withUsba (f : Source → Source) (s : State) : State := { s with path := { s.path with usba := f s.path.usba } }

/-- `s` with the PD_RESTART of SPI A waiting for the PD core. -/
def pdWaits (s : State) : State := { s with pd := { s.pd with waiters := [(.spia, 7)] } }

/-! ### Well-formedness: a term outside each limit is refused, the boundary value beside it is not -/

theorem test_wf_time_write_before_sec : (Instr.rtcTimeWrite .spia 0x0100 [0]).wellFormed = false := by decide
theorem test_wf_time_write_past_year : (Instr.rtcTimeWrite .spia 0x011C [0, 0]).wellFormed = false := by decide
theorem test_wf_time_write_year : (Instr.rtcTimeWrite .spia 0x011C [0]).wellFormed = true := by decide
theorem test_wf_reserved_source : (Instr.eicEdge 139).wellFormed = false := by decide
theorem test_wf_source : (Instr.eicEdge 138).wellFormed = true := by decide
theorem test_wf_identity_page : (Instr.kettleSaveComplete (some 0)).wellFormed = false := by decide
theorem test_wf_identity_page_log : (Instr.nvmLogWrite (some 0)).wellFormed = false := by decide
theorem test_wf_identity_page_learned : (Instr.learnedDataWrite (some 0)).wellFormed = false := by decide
theorem test_wf_identity_page_commit : (Instr.paramCommit .spia 7 (some 0)).wellFormed = false := by decide
theorem test_wf_reset_of_its_own_row : (Instr.chipReset .rstnShort).wellFormed = false := by decide
theorem test_wf_reset_heddle : (Instr.chipReset .heddle).wellFormed = true := by decide
theorem test_wf_page_256 : (Instr.nvmRecall [256]).wellFormed = false := by decide
theorem test_wf_image_id : (Instr.configLoad 0 [(65536, [])]).wellFormed = false := by decide
theorem test_wf_crossing_0 : (Instr.cdcOverrun 0).wellFormed = false := by decide
theorem test_wf_crossing_14 : (Instr.cdcOverrun 0x14).wellFormed = false := by decide
theorem test_wf_crossing_13 : (Instr.cdcOverrun 0x13).wellFormed = true := by decide
theorem test_wf_imon_25 : (Instr.comparatorTrip 0 (List.replicate 25 (0, 0)) 0 0).wellFormed = false := by decide
theorem test_wf_sharing_25 : (Instr.sharingUpdate 0 (List.replicate 25 (0, 0))).wellFormed = false := by decide
theorem test_wf_coefficients_0 : (Instr.correctionPeriod []).wellFormed = false := by decide
theorem test_wf_pdo_12 : (Instr.sourceCapsReceived 0 [⟨12, .fixed, 0, 5000, 1000⟩] false).wellFormed = false := by decide
theorem test_wf_pick_source : (Instr.pickIntake 0x220 0 0).wellFormed = false := by decide
theorem test_wf_write_256_words : (Instr.windowRegisterWrite .spia 0 (List.replicate 256 0)).wellFormed = false := by decide +kernel

/-! ### Figures that the manual states -/

/-- The check value of the CRC over "123456789" (chapter 03). -/
theorem test_crc_check_value : crc16 [0x31, 0x32, 0x33, 0x34, 0x35, 0x36, 0x37, 0x38, 0x39] = 0x29B1 := by decide +kernel

/-- The CRC of the doorbell write in the example of chapter 03. -/
theorem test_crc_doorbell_example : crc16 [0x02, 0x00, 0x14, 0x01, 0x01, 0x00, 0x00, 0x00] = 0x7E58 := by decide +kernel

/-- The SNAPSHOT entry of the example of chapter 03 spells opcode, class, NOTIFY, tag and length. -/
theorem test_snapshot_word :
    (let x := slotOf .spia 0x00214002 [] up; (x.op, x.cls, x.notify, x.tag)) = (0x002, 0, true, 0x21) := by decide +kernel

/-- The window edges of the example of chapter 13: OPEN 0.5 ms and CLOSE 2 ms after cycle 0. -/
theorem test_heddle_edges :
    (let x : Watch := { reg := some ⟨7, 500, 2000⟩, armed := true }; (openCycle 3 x, closeCycle 3 x)) = (240000, 960000) := by decide

/-- SELV.REACT by default: IRQ on line 0 for FAULT kinds, none for NOTE kinds (R386). -/
theorem test_react_default : pvw Pid.SELV_REACT 0 State.reset = 0x00010001 := by decide

/-- Example of R377: the 17th edge of GPIO4 in one window masks it with the default of 16. -/
theorem test_storm_17th_edge :
    (let f := fun n => ((latchEic 4 (setPv Pid.EIC_STORM_PER_MS 0 16
        { up with eic := { up.eic with src := [(4, { wins := [(1000, n)], count := n })] } })).eic.get 4).storm;
     (f 16, f 15)) = (true, false) := by decide +kernel

/-- The 256th edge sets SAT, and the counter stays at 255 (R372). -/
theorem test_edge_256 : (let x := EicSrc.edge 5 false { count := 255 }; (x.count, x.sat, x.pending)) = (255, true, true) := by decide

/-- 2000-01-02 00:00:00 is one day after the epoch, and 2000 has a 29 February (R8, R434). -/
theorem test_calendar : ((⟨0, 0, 0, 2, 7, 1, 0⟩ : Calendar).stamp, (⟨0, 0, 0, 1, 3, 3, 0⟩ : Calendar).stamp) = (86400, 60 * 86400) := by decide

/-- Example of R244: 20 000 uF and 1000 mV bound the probe to 2000 mA, where 5 % of 60 A asks for 3000 mA. -/
theorem test_probe_sag : probeSag (setPv Pid.EST_C_LINK_UF 0 20000 (setPv Pid.EST_PROBE_SAG_MV 0 1000 up)) = 2000 := by
  decide +kernel

/-- Example of R142: 24 cells of VRLA, 53 760 mV at 35.0 degC and 56 280 mV at -10.0 degC. -/
theorem test_float_level :
    (let s := setPv Pid.CHG_CHEM 0 1 (setPv Pid.CHG_CELLS 0 24 up); (floatLevel (some 350) s, floatLevel (some (-100)) s)) =
      (53760, 56280) := by decide +kernel

/-! ### Single steps -/

/-- A step takes the front command: the idle rows of an empty queue leave the state. -/
theorem test_step_empty : step State.reset = .next State.reset := rfl

/-- POWER_STATE with 0 in word 1 [1:0] completes OUT_OF_RANGE (R464). -/
theorem test_power_state_zero : exec (.powerState .spia 7) (adm 0x010 [0] up) = .next (outOfRange .spia 7 0 (adm 0x010 [0] up)) := by rfl

/-- A check-in one cycle before the opening raises EARLY, at the opening it is recorded (chapter 13). -/
theorem test_check_in_edges :
    (let s := { up with heddle := { up.heddle with w := vmap (fun _ => { reg := some ⟨7, 500, 2000⟩, armed := true }) up.heddle.w } };
     let f := fun c => match exec (.wdgCheckIn (.sh 2) 1 c 0) s with
       | .next t => (t.heddle.violations, (t.heddle.w[(3 : Fin 9)]).checked)
       | _ => (9, 9)
     (f 239999, f 240000)) = ((1, 0), (0, 2)) := by decide +kernel
/-! ### Witnesses of the statements' hypotheses -/

theorem witness_EmptyQueueIdles_1 : ∃ (s : State),
    (s.pending = []) :=
  ⟨State.reset, by decide +kernel⟩

theorem witness_StepTakesOneCommand_1 : ∃ (s t : State),
    (step s = .next t) :=
  ⟨State.reset, State.reset, rfl⟩

theorem witness_StepKeepsMemoriesCanonical_1 : ∃ (s t : State),
    (memoriesOk s = true) ∧ (step s = .next t) :=
  ⟨State.reset, State.reset, by decide, rfl⟩

theorem witness_StepKeepsCredits_1 : ∃ (s t : State),
    (portCreditsOk s = true) ∧ (step s = .next t) :=
  ⟨State.reset, State.reset, by decide, rfl⟩

theorem witness_StepKeepsOtpBits_1 : ∃ (s t : State),
    (step s = .next t) :=
  ⟨State.reset, State.reset, rfl⟩

theorem witness_ResetRegisters_1 : ∃ (_p : HPort) (a : Nat),
    (a ∈ [0x04, 0x08, 0x10, 0x14, 0x18, 0x1C, 0x20, 0x24, 0x28, 0x0100, 0x0104, 0x0108, 0x010C, 0x011C, 0x0120, 0x0128, 0x012C, 0x014C,
      0x0150, 0x0154]) :=
  ⟨.spia, 0x04, by decide +kernel⟩

theorem witness_CompletionIsPosted_1 : ∃ (p : Port) (tag : Tag) (x : Slot) (_st : Nat) (_ws : List W) (s : State),
    (findSlot p tag s = some x) ∧ (CqRoom p s) :=
  ⟨.spia, 7, slotW 0x901 [0x80], 0, [], adm 0x901 [0x80] up, by decide +kernel⟩

theorem witness_CompletionWaits_1 : ∃ (p : Port) (tag : Tag) (x : Slot) (_st : Nat) (_ws : List W) (s : State),
    (findSlot p tag s = some x) ∧ (p ≠ .internal) ∧ ((s.hif.port p).cqFree = false) :=
  ⟨.spia, 7, slotW 0x901 [0x80], 0, [], cqFull (adm 0x901 [0x80] up), by decide +kernel⟩

theorem witness_CompletionWaits_2 : ∃ (p : Port) (x : Slot) (ws : List W) (s : State),
    (s.hif.slots.find? (fun y => y.port == p && y.status.isFinished) = some x) ∧ (x.status = .finished ws) ∧ (ws.length = 16) ∧
      ((s.hif.port p).cqFree = true) :=
  ⟨.spia, finishedSlot, List.replicate 16 3, { up with hif := { up.hif with slots := [finishedSlot] } }, by decide +kernel⟩

theorem witness_CompletionWaits_3 : ∃ (p : Port) (s : State),
    ((s.hif.port p).cqFree = false) :=
  ⟨.spia, cqFull up, by decide +kernel⟩

theorem witness_IndexWrites_1 : ∃ (p : HPort) (v : W) (s : State),
    let q := s.hif.port (hport p)
    let h : BitVec 6 := v.setWidth 6
    (hifOpen s = true) ∧ (q.sess ≠ .resetting) ∧ ((h - q.cqHead).toNat ≤ (q.cqTail - q.cqHead).toNat) :=
  ⟨.spia, 1, cqUsed up, by decide +kernel⟩

theorem witness_IndexWrites_2 : ∃ (p : HPort) (v : W) (s : State),
    let q := s.hif.port (hport p)
    (hifOpen s = true) ∧ (q.sess = .resetting ∨ (q.cqTail - q.cqHead).toNat < ((v.setWidth 6 : BitVec 6) - q.cqHead).toNat) :=
  ⟨.spia, 3, cqUsed up, by decide +kernel⟩

theorem witness_IndexWrites_3 : ∃ (p : HPort) (v : W) (s : State),
    let q := s.hif.port (hport p)
    let h : BitVec 6 := v.setWidth 6
    (hifOpen s = true) ∧ (q.sess ≠ .resetting) ∧ ((h - q.evqHead).toNat ≤ (q.evqTail - q.evqHead).toNat) :=
  ⟨.i2c, 0, up, by decide +kernel⟩

theorem witness_IndexWrites_4 : ∃ (p : HPort) (v : W) (s : State),
    let q := s.hif.port (hport p)
    (hifOpen s = true) ∧ (q.sess = .resetting ∨ (q.evqTail - q.evqHead).toNat < ((v.setWidth 6 : BitVec 6) - q.evqHead).toNat) :=
  ⟨.i2c, 1, up, by decide +kernel⟩

theorem witness_IndexWrites_5 : ∃ (p : HPort) (v : W) (s : State),
    let q := s.hif.port (hport p)
    let n : BitVec 6 := v.setWidth 6
    (hifOpen s = true) ∧ (q.sess ≠ .resetting) ∧ (n = q.sqHead ∨ (q.sqTail - q.sqHead).toNat ≤ (n - q.sqHead).toNat) :=
  ⟨.spib, 1, up, by decide +kernel⟩

theorem witness_IndexWrites_6 : ∃ (p : HPort) (v : W) (s : State),
    let q := s.hif.port (hport p)
    let n : BitVec 6 := v.setWidth 6
    (hifOpen s = true) ∧ (q.sess = .resetting ∨ (n ≠ q.sqHead ∧ (n - q.sqHead).toNat < (q.sqTail - q.sqHead).toNat)) :=
  ⟨.spib, 1, presented 0x901 2 [] (presented 0x901 2 [] up), by decide +kernel⟩

theorem witness_DoorbellTakesACommand_1 : ∃ (p : HPort) (x : Slot) (i : OpInfo) (s : State),
    (hifOpen s = true) ∧ (s.sys.power = .run) ∧ (Presents (hport p) x s) ∧ (s.sys.service = .full) ∧ (s.sys.bootErr ≠ 2 ∧ s.sys.bootErr ≠
      3) ∧ (opInfo x.op = some i) ∧ (x.cls = 0 ∧ classOf i x = 0) ∧ (i.lo ≤ x.payload.length ∧ x.payload.length ≤ i.hi) ∧ (findSlot
      (hport p) x.tag s = none) ∧ (s.sys.class0Starts < 2) :=
  ⟨.spia, shownSlot 0x002 0, ⟨0x002, 0, 0, 0, true, false, false⟩, presented 0x002 0 [] up, by decide +kernel⟩

theorem witness_DoorbellTakesACommand_2 : ∃ (p : HPort) (x : Slot) (s : State),
    (hifOpen s = true) ∧ (s.sys.power = .run) ∧ (Presents (hport p) x s) ∧ (CqRoom (hport p) s) ∧ (opInfo x.op = none) :=
  ⟨.spia, shownSlot 0x777 1, presented 0x777 1 [] up, by decide +kernel⟩

theorem witness_DoorbellTakesACommand_3 : ∃ (p : HPort) (x : Slot) (i : OpInfo) (s : State),
    (hifOpen s = true) ∧ (s.sys.power = .run) ∧ (Presents (hport p) x s) ∧ (CqRoom (hport p) s) ∧ (opInfo x.op = some i) ∧ (opServed i s
      = true) ∧ (x.cls ≠ classOf i x) :=
  ⟨.spia, shownSlot 0x901 2, ⟨0x901, 1, 1, 2, false, false, false⟩, presented 0x901 2 [] up, by decide +kernel⟩

theorem witness_DoorbellTakesACommand_4 : ∃ (p : HPort) (x : Slot) (i : OpInfo) (s : State),
    (hifOpen s = true) ∧ (s.sys.power = .run) ∧ (Presents (hport p) x s) ∧ (CqRoom (hport p) s) ∧ (opInfo x.op = some i) ∧ (opServed i s
      = true) ∧ (x.cls = classOf i x) ∧ (x.payload.length < i.lo ∨ i.hi < x.payload.length) :=
  ⟨.spia, shownSlot 0x901 1, ⟨0x901, 1, 1, 2, false, false, false⟩, presented 0x901 1 [] up, by decide +kernel⟩

theorem witness_DoorbellTakesACommand_5 : ∃ (p : HPort) (x : Slot) (i : OpInfo) (s : State),
    (hifOpen s = true) ∧ (s.sys.power = .run) ∧ (Presents (hport p) x s) ∧ (CqRoom (hport p) s) ∧ (opInfo x.op = some i) ∧ (opServed i s
      = true) ∧ (x.cls = classOf i x) ∧ (i.lo ≤ x.payload.length ∧ x.payload.length ≤ i.hi) ∧ ((findSlot (hport p) x.tag s).isSome =
      true) :=
  ⟨.spia, shownSlot 0x002 0, ⟨0x002, 0, 0, 0, true, false, false⟩, presented 0x002 0 [] (adm 0x901 [0x80] up), by decide +kernel⟩

theorem witness_DoorbellTakesACommand_6 : ∃ (p : HPort) (s : State),
    let q := s.hif.port (hport p)
    (hifOpen s = true) ∧ (s.sys.power = .run) ∧ (q.sess ≠ .resetting) ∧ (q.sqTail ≠ q.sqHead) ∧ (q.sqOld = []) ∧ (q.avail = 0) ∧ (bitsOf
      (q.sqWord (16 * q.sqHead.toNat)) 24 6 ≤ 15) :=
  ⟨.spia, noCredits (presented 0x002 0 [] up), by decide +kernel⟩

theorem witness_DoorbellTakesACommand_7 : ∃ (p : HPort) (s : State),
    (hifOpen s = true) ∧ ((s.hif.port (hport p)).sess = .resetting) :=
  ⟨.spia, resetting up, by decide +kernel⟩

theorem witness_SessionReset_1 : ∃ (p : HPort) (s : State),
    (hifOpen s = true) ∧ ((s.hif.port (hport p)).sess ≠ .resetting) ∧ ((s.hif.slots.filter (fun x => x.port == hport p)).length ≤ 48) :=
  ⟨.spia, adm 0x901 [0x80] up, by decide +kernel⟩

theorem witness_SessionReset_2 : ∃ (p : HPort) (s : State),
    (hifOpen s = true) ∧ ((s.hif.port (hport p)).sess ≠ .resetting) ∧ (s.hif.slots.filter (fun x => x.port == hport p) = []) ∧
      (s.sys.service ≠ .early) :=
  ⟨.i2c, up, by decide +kernel⟩

theorem witness_SessionReset_3 : ∃ (p : HPort) (s : State),
    let mine := s.hif.slots.filter (fun x => x.port == hport p)
    (hifOpen s = true) ∧ ((s.hif.port (hport p)).sess ≠ .resetting) ∧ (0 < mine.length ∧ mine.length ≤ 48) :=
  ⟨.spia, adm 0x901 [0x80] up, by decide +kernel⟩

theorem witness_SessionReset_4 : ∃ (p : HPort) (q : Port) (s : State),
    (hifOpen s = true) ∧ (q ≠ hport p) :=
  ⟨.spia, .spib, up, by decide +kernel⟩

theorem witness_SessionReset_5 : ∃ (p : HPort) (key : BitVec 16) (s : State),
    (key ≠ 0x5E55 ∨ (s.hif.port (hport p)).sess = .resetting) ∧ (hifOpen s = true) :=
  ⟨.spia, 0x1234, up, by decide +kernel⟩

theorem witness_FailedTransactions_1 : ∃ (p : SpiPort) (_e : SpiWriteError) (s : State),
    (hifOpen s = true) :=
  ⟨.spia, .badCrc, up, by decide +kernel⟩

theorem witness_FailedTransactions_2 : ∃ (p : SpiPort) (e : SpiReadError) (addr : BitVec 16) (len : BitVec 8) (s : State),
    (hifOpen s = true) ∧ (1 ≤ len.toNat ∧ len.toNat ≤ 64) ∧ (e = .badCrc ∨ addr.toNat % 4 ≠ 0) :=
  ⟨.spib, .badAddr, 0x0002, 1, up, by decide +kernel⟩

theorem witness_FailedTransactions_3 : ∃ (_p : SpiPort) (_e : SpiReadError) (_addr : BitVec 16) (len : BitVec 8) (s : State),
    (hifOpen s = true) ∧ (len = 0 ∨ 64 < len.toNat) :=
  ⟨.spib, .badCrc, 4, 65, up, by decide +kernel⟩

theorem witness_FailedTransactions_4 : ∃ (_p : SpiPort) (_addr : BitVec 16) (ws : List W),
    (1 ≤ ws.length ∧ ws.length ≤ 64) :=
  ⟨.spia, 0x14, List.replicate 64 1, by decide +kernel⟩

theorem witness_FailedTransactions_5 : ∃ (_e : I2cWriteError) (s : State),
    (hifOpen s = true) :=
  ⟨.pec, up, by decide +kernel⟩

theorem witness_FailedTransactions_6 : ∃ (s : State),
    (hifOpen s = true) :=
  ⟨up, by decide +kernel⟩

/-- The doorbell of chapter 03's example, with its CRC 0x7E58. -/
theorem test_doorbell_bytes : spiWriteBytes 0x0014 [1] = [2, 0, 0x14, 1, 1, 0, 0, 0, 0x7E, 0x58] ∧
    spiRow .spia [2, 0, 0x14, 1, 1, 0, 0, 0, 0x7E, 0x58] = some (.windowRegisterWrite .spia 0x14 [1]) ∧
    spiRow .spia [2, 0, 0x14, 1, 1, 0, 0, 0, 0x7E, 0x59] = some (.spiWriteDiscard .spia .badCrc) := by decide +kernel

theorem witness_I2cBusEvents_1 : ∃ (s : State),
    (hifOpen s = true) :=
  ⟨up, by decide +kernel⟩

theorem witness_I2cBusEvents_2 : ∃ (s : State),
    (hifOpen s = true) ∧ (hirq .i2c (dozeWake s) = true) :=
  ⟨{ up with hif := { up.hif with i2c := { up.hif.i2c with evqTail := 1 } } }, by decide +kernel⟩

theorem witness_I2cBusEvents_3 : ∃ (s : State),
    (hifOpen s = true) ∧ (hirq .i2c (dozeWake s) = false) :=
  ⟨up, by decide +kernel⟩

theorem witness_WindowWrites_1 : ∃ (_p : HPort) (_v : W) (s : State),
    (hifOpen s = true) :=
  ⟨.spia, 3, up, by decide +kernel⟩

theorem witness_WindowWrites_2 : ∃ (p : HPort) (_v : W) (s : State),
    (hifOpen s = true) :=
  ⟨.spib, 0xFF, up, by decide +kernel⟩

theorem witness_WindowWrites_3 : ∃ (_p : HPort) (_v : W) (s : State),
    (hifOpen s = true) :=
  ⟨.spib, 1, up, by decide +kernel⟩

theorem witness_WindowWrites_4 : ∃ (p : HPort) (i : Nat) (_v : W) (s : State),
    let q := s.hif.port (hport p)
    (hifOpen s = true) ∧ (i < 1024) ∧ (Memory.wf .queue q.sqMem = true) :=
  ⟨.spia, 1023, 5, up, by decide +kernel⟩

theorem witness_WindowWrites_5 : ∃ (_p : HPort) (a : BitVec 16) (_v : W) (s : State),
    (hifOpen s = true) ∧ (a = 0x0000 ∨ a = 0x000C ∨ a = 0x001C ∨ a = 0x0024 ∨ a = 0x0028) :=
  ⟨.i2c, 0x001C, 7, up, by decide +kernel⟩

theorem witness_WindowWrites_6 : ∃ (p : HPort) (a : BitVec 16) (ws : List W) (s : State),
    (hifOpen s = true) ∧ (1 ≤ ws.length ∧ ws.length ≤ 64) ∧ (a.toNat % 4 ≠ 0 ∨ (0x0140 ≤ a.toNat ∧ a.toNat < 0x0180) ∨ (0x0200 ≤ a.toNat
      ∧ a.toNat < 0x1000) ∨ 0x2000 ≤ a.toNat ∨ (a.toNat < 0x0034 ∧ 0x0034 < a.toNat + 4 * ws.length) ∨ (0x1000 ≤ a.toNat ∧ a.toNat <
      0x2000 ∧ 0x2000 < a.toNat + 4 * ws.length)) :=
  ⟨.spia, 0x0030, [1, 2], up, by decide +kernel⟩

theorem witness_WindowWrites_7 : ∃ (p : HPort) (_a : BitVec 16) (ws : List W) (s : State),
    (hifOpen s = true) ∧ (64 < ws.length) :=
  ⟨.spia, 0x1000, List.replicate 65 0, up, by decide +kernel⟩

theorem witness_CreditReallocation_1 : ∃ (s : State),
    (s.hif.allocPending = true) ∧ (inUse .spia s ≤ pn Pid.HIF_CRED_SPIA s) ∧ (inUse .spib s ≤ pn Pid.HIF_CRED_SPIB s) ∧ (inUse .i2c s ≤
      pn Pid.HIF_CRED_I2C s) ∧ (inUse .internal s ≤ 48) :=
  ⟨{ up with hif := { up.hif with allocPending := true } }, by decide +kernel⟩

theorem witness_CreditReallocation_2 : ∃ (s : State),
    (s.hif.allocPending = false ∨ pn Pid.HIF_CRED_SPIA s < inUse .spia s) :=
  ⟨up, by decide +kernel⟩

theorem witness_SessionOpenAndSnapshot_1 : ∃ (p : Port) (tag : Tag) (x : Slot) (s : State),
    let q := s.hif.port p
    (Admitted 0x001 p tag x s) ∧ (CqRoom p s) ∧ (q.avail + inUse p s = q.alloc) ∧ (s.sys.mode = .normal) ∧ (s.sys.service = .full) :=
  ⟨.spia, 7, slotW 0x001 [], adm 0x001 [] up, by decide +kernel⟩

theorem witness_SessionOpenAndSnapshot_2 : ∃ (p : Port) (tag : Tag) (x : Slot) (s : State),
    (s.sys.service = .full) ∧ (Admitted 0x002 p tag x s) ∧ (CqRoom p s) :=
  ⟨.spia, 7, slotW 0x002 [], adm 0x002 [] up, by decide +kernel⟩

theorem witness_SessionOpenAndSnapshot_3 : ∃ (p : Port) (tag : Tag) (x : Slot) (s : State),
    (s.sys.service = .early) ∧ (Admitted 0x002 p tag x s) ∧ (CqRoom p s) :=
  ⟨.spia, 7, slotW 0x002 [], adm 0x002 [] early, by decide +kernel⟩

theorem witness_EventsArePosted_1 : ∃ (p : HPort) (e : RaisedEvent) (l : List RaisedEvent) (s : State),
    let q := s.hif.port (hport p)
    (s.hif.events = e :: l) ∧ (s.sys.inReset = false) ∧ (s.sys.hortoRuns = true) ∧ (Memory.wf .queue q.evqMem = true) ∧ ((evtCat (hport
      p) s).testBit ((e.code / 4096) % 16) = true) ∧ (q.evqTail + 1 ≠ q.evqHead) :=
  ⟨.spia, ⟨0x1001, 2, 3⟩, [], { up with hif := { up.hif with events := [⟨0x1001, 2, 3⟩] } }, by decide +kernel⟩

theorem witness_EventsArePosted_2 : ∃ (p : HPort) (e : RaisedEvent) (l : List RaisedEvent) (s : State),
    let q := s.hif.port (hport p)
    (s.hif.events = e :: l) ∧ (s.sys.inReset = false) ∧ (s.sys.hortoRuns = true) ∧ ((evtCat (hport p) s).testBit ((e.code / 4096) % 16) =
      true) ∧ (q.evqTail + 1 = q.evqHead) :=
  ⟨.spia, ⟨0x1001, 2, 3⟩, [], { up with hif := { up.hif with events := [⟨0x1001, 2, 3⟩], spia := { up.hif.spia with evqHead := 1 } } }, by decide +kernel⟩

theorem witness_EventsArePosted_3 : ∃ (p : HPort) (e : RaisedEvent) (l : List RaisedEvent) (s : State),
    (s.hif.events = e :: l) ∧ (s.sys.inReset = false) ∧ (s.sys.hortoRuns = true) ∧ ((evtCat (hport p) s).testBit ((e.code / 4096) % 16) =
      false) :=
  ⟨.i2c, ⟨0xF001, 2, 3⟩, [], { up with hif := { up.hif with events := [⟨0xF001, 2, 3⟩] } }, by decide +kernel⟩

theorem witness_ParameterCommands_1 : ∃ (p : Port) (tag : Tag) (x : Slot) (id : Nat) (r : PInfo) (s : State),
    (Admitted 0x101 p tag x s) ∧ (CqRoom p s) ∧ (x.payload = [w32 id]) ∧ (id < 65536) ∧ (paramInfo id = some r) ∧ (r.ty ≠ .tbl ∧ r.words
      = 1 ∧ r.cls ≠ .ro) :=
  ⟨.spia, 7, slotW 0x101 [0x24], 0x24, (paramInfo 0x24).getD noInfo, adm 0x101 [0x24] up, by decide +kernel⟩

theorem witness_ParameterCommands_2 : ∃ (p : Port) (tag : Tag) (x : Slot) (id : Nat) (s : State),
    (Admitted 0x101 p tag x s) ∧ (CqRoom p s) ∧ (x.payload = [w32 id]) ∧ (id < 65536) ∧ (paramInfo id = none) :=
  ⟨.spia, 7, slotW 0x101 [0x0001], 1, adm 0x101 [0x0001] up, by decide +kernel⟩

theorem witness_ParameterCommands_3 : ∃ (p : Port) (tag : Tag) (x : Slot) (e : SetEntry) (st : Nat) (s : State),
    (Admitted 0x102 p tag x s) ∧ (CqRoom p s) ∧ (setEntries x = [e]) ∧ (e.check s = some st) ∧ (st ≠ 0x14 ∨ e.breaksSeq s = false) :=
  ⟨.spia, 7, slotW 0x102 [0x0020, 5], (setEntries (slotW 0x102 [0x0020, 5])).headD noEntry, 0x14, adm 0x102 [0x0020, 5] up, by decide +kernel⟩

theorem witness_ParameterCommands_4 : ∃ (p : Port) (tag : Tag) (x : Slot) (e : SetEntry) (r : PInfo) (v : W) (s : State),
    (Admitted 0x102 p tag x s) ∧ (CqRoom p s) ∧ (setEntries x = [e]) ∧ (e.check s = none) ∧ (e.info = some r) ∧ (e.vals = [v]) ∧ (e.id <
      0x1000 ∨ 0x9000 ≤ e.id ∨ (0x2000 ≤ e.id ∧ e.id < 0x3000 ∧ e.id ≠ Pid.CHG_EN) ∨ (0x3000 ≤ e.id ∧ e.id < 0x3C00 ∧ e.id % 256 ≠ 0x01 ∧
      e.id % 256 ≠ 0x2A) ∨ (0x3C00 ≤ e.id ∧ e.id < 0x4100) ∨ (0x4300 ≤ e.id ∧ e.id < Pid.EST_FT_EN) ∨ (Pid.EST_DT_TIME < e.id ∧ e.id <
      0x6000)) ∧ (newlyBroken (rulesFor [e.id] s) (rulesFor [e.id] (setPv e.id e.off (cleanWord e.id e.off (r.value v)) s)) = false) :=
  ⟨.spia, 7, slotW 0x102 [0x0024, 60], (setEntries (slotW 0x102 [0x0024, 60])).headD noEntry, (paramInfo 0x24).getD noInfo, 60, adm 0x102 [0x0024, 60] up, by decide +kernel⟩

set_option maxRecDepth 100000 in
theorem witness_ParameterCommands_5 : ∃ (p : Port) (tag : Tag) (x : Slot) (_bad : Option (BitVec 8)) (s : State),
    (Admitted 0x103 p tag x s) ∧ (CqRoom p s) ∧ (paramsChanged s = 0) :=
  ⟨.spia, 7, slotW 0x103 [], none, adm 0x103 [] { up with store := { up.store with nvm := { up.store.nvm with params := [(0, paramsNow up)] } } }, by decide +kernel⟩

theorem witness_ParameterCommands_6 : ∃ (p : Port) (tag : Tag) (x : Slot) (s : State),
    (Admitted 0x103 p tag x s) ∧ (CqRoom p s) ∧ (paramsChanged s ≠ 0) :=
  ⟨.spia, 7, slotW 0x103 [], adm 0x103 [] (setPv 0x2044 0 1 { up with chg := { up.chg with cycles := 1 } }), by decide +kernel⟩

theorem witness_ParameterCommands_7 : ∃ (p : Port) (tag : Tag) (x : Slot) (e : SetEntry) (s : State),
    (Admitted 0x102 p tag x s) ∧ (CqRoom p s) ∧ (setEntries x = [e]) ∧ (e.check s = some 0x14 ∧ e.breaksSeq s = true) ∧ (s.sys.inReset =
      false) :=
  ⟨.spia, 7, slotW 0x102 [0x4108, 0x3F], (setEntries (slotW 0x102 [0x4108, 0x3F])).headD noEntry, adm 0x102 [0x4108, 0x3F] up, by decide +kernel⟩

theorem witness_ParameterCommands_8 : ∃ (p : Port) (tag : Tag) (x : Slot) (e f : SetEntry) (st : Nat) (s : State),
    (Admitted 0x102 p tag x s) ∧ (CqRoom p s) ∧ (setEntries x = [e, f]) ∧ (e.check s = none ∧ f.check s = some st) ∧ (st ≠ 0x14 ∨
      f.breaksSeq s = false) :=
  ⟨.spia, 7, slotW 0x102 [0x0024, 60, 0x0020, 5], ((setEntries (slotW 0x102 [0x0024, 60, 0x0020, 5]))[0]?).getD noEntry, ((setEntries (slotW 0x102 [0x0024, 60, 0x0020, 5]))[1]?).getD noEntry, 0x14, adm 0x102 [0x0024, 60, 0x0020, 5] up, by decide +kernel⟩

theorem witness_ParameterCommands_9 : ∃ (p : Port) (tag : Tag) (x : Slot) (e f : SetEntry) (r q : PInfo) (v w : W) (s : State),
    let u := setPv e.id e.off (cleanWord e.id e.off (r.value v)) s
    let u2 := setPv f.id f.off (cleanWord f.id f.off (q.value w)) u
    (Admitted 0x102 p tag x s) ∧ (CqRoom p s) ∧ (setEntries x = [e, f]) ∧ (e.check s = none ∧ f.check s = none) ∧ (e.info = some r ∧
      f.info = some q) ∧ (e.vals = [v] ∧ f.vals = [w]) ∧ ((e.id < 0x1000 ∨ 0x9000 ≤ e.id) ∧ (f.id < 0x1000 ∨ 0x9000 ≤ f.id)) ∧
      (newlyBroken (rulesFor [e.id, f.id] s) (rulesFor [e.id, f.id] u2) = false) :=
  ⟨.spia, 7, slotW 0x102 [0x0024, 60, 0x0025, 1], ((setEntries (slotW 0x102 [0x0024, 60, 0x0025, 1]))[0]?).getD noEntry, ((setEntries (slotW 0x102 [0x0024, 60, 0x0025, 1]))[1]?).getD noEntry, (paramInfo 0x24).getD noInfo, (paramInfo 0x25).getD noInfo, 60, 1, adm 0x102 [0x0024, 60, 0x0025, 1] up, by decide +kernel⟩

theorem witness_ParameterCommands_10 : ∃ (p : Port) (tag : Tag) (x : Slot) (e : SetEntry) (r : PInfo) (v : W) (s : State),
    (Admitted 0x102 p tag x s) ∧ (CqRoom p s) ∧ (setEntries x = [e]) ∧ (e.check s = none) ∧ (e.info = some r) ∧ (e.vals = [v]) ∧ (e.id <
      0x4000 ∨ 0x5000 ≤ e.id) ∧ (newlyBroken (rulesFor [e.id] s) (rulesFor [e.id] (setPv e.id e.off (cleanWord e.id e.off (r.value v))
      s)) = true) :=
  ⟨.spia, 7, slotW 0x102 [0x1010, 75000], (setEntries (slotW 0x102 [0x1010, 75000])).headD noEntry, (paramInfo 0x1010).getD noInfo, 75000, adm 0x102 [0x1010, 75000] up, by decide +kernel⟩

theorem witness_ParameterCommands_11 : ∃ (c : Fin 12) (p : Port) (tag : Tag) (x : Slot) (e : SetEntry) (r : PInfo) (v : W) (s : State),
    let u := setPv e.id e.off (cleanWord e.id e.off (r.value v)) s
    let y := s.pwr.vr[c]
    (Admitted 0x102 p tag x s) ∧ (CqRoom p s) ∧ (setEntries x = [e]) ∧ (e.check s = none) ∧ (e.info = some r) ∧ (e.vals = [v]) ∧ (e.id =
      Pid.VR_VOUT_MV c.val) ∧ (newlyBroken (rulesFor [e.id] s) (rulesFor [e.id] u) = false) ∧ (y.st = .regulate ∨ y.st = .degraded) :=
  ⟨0, .spia, 7, slotW 0x102 [0x3001, 5000], (setEntries (slotW 0x102 [0x3001, 5000])).headD noEntry, (paramInfo 0x3001).getD noInfo, 5000, adm 0x102 [0x3001, 5000] (chan0 .regulate), by decide +kernel⟩

theorem witness_ParameterCommands_12 : ∃ (p : Port) (tag : Tag) (x : Slot) (s : State),
    (Admitted 0x101 p tag x s) ∧ (CqRoom p s) ∧ (x.payload ≠ [] ∧ x.payload.length ≤ 12) ∧ (x.payload.all (fun w => (paramInfo (bitsOf w
      0 16)).any (fun r => decide (r.ty ≠ .tbl ∧ r.words = 1 ∧ bitsOf w 16 16 = 0))) = true) :=
  ⟨.spia, 7, slotW 0x101 [0x24, 0x3042, 0x1004], adm 0x101 [0x24, 0x3042, 0x1004] up, by decide +kernel⟩

theorem witness_ParameterCommands_13 : ∃ (p : Port) (tag : Tag) (x : Slot) (h : W) (r : PInfo) (s : State),
    let o := bitsOf h 16 16
    (Admitted 0x101 p tag x s) ∧ (CqRoom p s) ∧ (x.payload = [h]) ∧ (paramInfo (bitsOf h 0 16) = some r) ∧ (r.ty = .tbl ∧ o < r.words) :=
  ⟨.spia, 7, slotW 0x101 [0x15020], 0x15020, (paramInfo 0x5020).getD noInfo, adm 0x101 [0x15020] up, by decide +kernel⟩

theorem witness_ParameterCommands_14 : ∃ (p : Port) (tag : Tag) (x : Slot) (h : W) (l : List W) (r : PInfo) (s : State),
    (Admitted 0x101 p tag x s) ∧ (CqRoom p s) ∧ (x.payload = h :: l) ∧ (paramInfo (bitsOf h 0 16) = some r) ∧ ((r.ty = .tbl ∧ l ≠ []) ∨
      (r.ty = .tbl ∧ r.words ≤ bitsOf h 16 16) ∨ (r.ty ≠ .tbl ∧ bitsOf h 16 16 ≠ 0)) :=
  ⟨.spia, 7, slotW 0x101 [0x10024, 0x24], 0x10024, [0x24], (paramInfo 0x24).getD noInfo, adm 0x101 [0x10024, 0x24] up, by decide +kernel⟩

theorem witness_TestModeCommand_1 : ∃ (p : Port) (tag : Tag) (x : Slot) (s : State),
    (Admitted 0x011 p tag x s) ∧ (CqRoom p s) ∧ ((x.word 1).getLsbD 0 = true) ∧ (x.word 2 = 0x54450000) ∧ (s.sys.mode = .normal ∧
      s.sys.service = .full) ∧ (s.heddle.safeHold = false ∧ s.est.test = none) ∧ (s.sys.inReset = false) :=
  ⟨.spia, 7, slotW 0x011 [1, 0x54450000], adm 0x011 [1, 0x54450000] up, by decide +kernel⟩

theorem witness_TestModeCommand_2 : ∃ (p : Port) (tag : Tag) (x : Slot) (s : State),
    (Admitted 0x011 p tag x s) ∧ (CqRoom p s) ∧ ((x.word 1).getLsbD 0 = true) ∧ (x.word 2 ≠ 0x54450000) :=
  ⟨.spia, 7, slotW 0x011 [1], adm 0x011 [1] up, by decide +kernel⟩

theorem witness_TestModeCommand_3 : ∃ (p : Port) (tag : Tag) (x : Slot) (s : State),
    (Admitted 0x011 p tag x s) ∧ (CqRoom p s) ∧ ((x.word 1).getLsbD 0 = true) ∧ (x.word 2 = 0x54450000) ∧ (s.sys.mode ≠ .normal ∨
      s.heddle.safeHold = true ∨ s.est.test.isSome = true ∨ s.sys.service = .limp) :=
  ⟨.spia, 7, slotW 0x011 [1, 0x54450000], adm 0x011 [1, 0x54450000] (inMode .test up), by decide +kernel⟩

theorem witness_TestModeCommand_4 : ∃ (p : Port) (tag : Tag) (x : Slot) (s : State),
    (Admitted 0x011 p tag x s) ∧ (CqRoom p s) ∧ ((x.word 1).getLsbD 0 = false) ∧ (s.sys.mode = .test) ∧ (s.est.test = none ∧
      deferredSlots s = []) ∧ (pb Pid.SEQ_MARGIN_ALLOW s = true ∨ (∀ c : Fin 12, s.pwr.vr[c].margin = 0)) ∧ (s.sys.inReset = false) :=
  ⟨.spia, 7, slotW 0x011 [0], adm 0x011 [0] (setPv Pid.SEQ_MARGIN_ALLOW 0 1 (inMode .test up)), by decide +kernel⟩

theorem witness_TestModeCommand_5 : ∃ (p : Port) (tag : Tag) (x : Slot) (s : State),
    (Admitted 0x011 p tag x s) ∧ (CqRoom p s) ∧ ((x.word 1).getLsbD 0 = false) ∧ (s.sys.mode ≠ .test) :=
  ⟨.spia, 7, slotW 0x011 [0], adm 0x011 [0] up, by decide +kernel⟩

theorem witness_TestModeCommand_6 : ∃ (p : Port) (tag : Tag) (x : Slot) (s : State),
    (Admitted 0x011 p tag x s) ∧ ((x.word 1).getLsbD 0 = false) ∧ (s.sys.mode = .test) ∧ (s.est.test = none ∧ deferredSlots s = []) ∧ (pb
      Pid.SEQ_MARGIN_ALLOW s = false) :=
  ⟨.spia, 7, slotW 0x011 [0], adm 0x011 [0] (inMode .test (withChan (fun x => { x with margin := 20 }) (chan0 .regulate))), by decide +kernel⟩

theorem witness_StartUpStages_1 : ∃ (_low : Bool) (_straps : BitVec 2) (v : Supplies) (s : State),
    let y := s.sys
    (y.porActive = true) ∧ (5600 ≤ v.vin ∧ 4400 ≤ v.vcc5 ∧ 740 ≤ v.vddc) :=
  ⟨false, 3, ⟨5600, 4400, 740, 3300, 3000⟩, { up with sys := { up.sys with porActive := true, porCause := 4 } }, by decide +kernel⟩

theorem witness_StartUpStages_2 : ∃ (_low : Bool) (_straps : BitVec 2) (v : Supplies) (s : State),
    (s.sys.porActive = true) ∧ (v.vin < 5600 ∨ v.vcc5 < 4400 ∨ v.vddc < 740) :=
  ⟨false, 3, ⟨5600, 4400, 739, 3300, 3000⟩, { up with sys := { up.sys with porActive := true } }, by decide +kernel⟩

theorem witness_StartUpStages_3 : ∃ (s : State),
    let s1 := s.onOtp (fun o => { o with shadow := o.words })
    (starting s = true) ∧ (s.sys.boot.otpDone = false) ∧ (badRegion s = none) ∧ (lcValid (otpShadow 0x1A0 s1) = true) ∧ (thermoGap
      (thermoBits 0x1A1 8 (fun a => otpShadow a s1)) = false ∧ thermoGap (thermoBits 0x1A9 6 (fun a => otpShadow a s1)) = false) :=
  ⟨State.reset, by decide +kernel⟩

theorem witness_StartUpStages_4 : ∃ (r : Nat) (s : State),
    (starting s = true) ∧ (s.sys.boot.otpDone = false) ∧ (badRegion s = some r) :=
  ⟨1, { State.reset with store := { State.reset.store with otp := { State.reset.store.otp with words := [(0x07E, 5), (0x07F, 7)] } } }, by decide +kernel⟩

theorem witness_StartUpStages_5 : ∃ (s : State),
    let s1 := s.onOtp (fun o => { o with shadow := o.words })
    (starting s = true) ∧ (s.sys.boot.otpDone = false) ∧ (badRegion s = none) ∧ (lcValid (otpShadow 0x1A0 s1) = false) ∧ (thermoGap
      (thermoBits 0x1A1 8 (fun a => otpShadow a s1)) = false ∧ thermoGap (thermoBits 0x1A9 6 (fun a => otpShadow a s1)) = false) :=
  ⟨{ State.reset with store := { State.reset.store with otp := { State.reset.store.otp with words := [(0x1A0, 5)] } } }, by decide +kernel⟩

theorem witness_StartUpStages_6 : ∃ (r : Nat) (s : State),
    (s.sys.digestHold = some r) :=
  ⟨2, { up with sys := { up.sys with digestHold := some 2 } }, by decide +kernel⟩

theorem witness_StartUpStages_7 : ∃ (s : State),
    (starting s = true) ∧ (s.sys.boot.sysLocked = false) :=
  ⟨State.reset, by decide +kernel⟩

theorem witness_StartUpStages_8 : ∃ (s : State),
    (starting s = true) ∧ (s.sys.boot.sysLocked = true ∧ s.sys.inReset = false) :=
  ⟨early, by decide +kernel⟩

theorem witness_StartUpStages_9 : ∃ (s : State),
    (starting s = true) ∧ (s.sys.boot.earlyOpen = false ∧ s.sys.boot.otpDone = true ∧ s.sys.boot.sysLocked = true) ∧ (s.selv.frameFlags =
      []) ∧ (s.hif.spia.noticeDue = false ∧ s.hif.spib.noticeDue = false ∧ s.hif.i2c.noticeDue = false) :=
  ⟨{ early with sys := { early.sys with boot := { early.sys.boot with earlyOpen := false } } }, by decide +kernel⟩

theorem witness_StartUpStages_10 : ∃ (p : HPort) (s : State),
    let q := s.hif.port (hport p)
    (starting s = true) ∧ (s.sys.boot.earlyOpen = false ∧ s.sys.boot.otpDone = true ∧ s.sys.boot.sysLocked = true) ∧ (q.noticeDue = true)
      ∧ (q.cqFree = true) ∧ (Memory.wf .queue q.cqMem = true) :=
  ⟨.i2c, { early with hif := { early.hif with i2c := { early.hif.i2c with noticeDue := true } }, sys := { early.sys with resetTime := 5, boot := { early.sys.boot with earlyOpen := false } } }, by decide +kernel⟩

theorem witness_StartUpStages_11 : ∃ (s : State),
    (s.sys.resetHeld = true) :=
  ⟨{ State.reset with sys := { State.reset.sys with resetHeld := true, inReset := true } }, by decide +kernel⟩

theorem witness_SecureBootToFullService_1 : ∃ (s : State),
    (s.sys.boot.sysLocked = true ∧ s.sys.boot.recallDone = false ∧ s.sys.boot.autoDue = false) ∧ (s.sys.porActive = false ∧
      s.sys.resetHeld = false ∧ s.sys.digestHold = none) :=
  ⟨{ early with sys := { early.sys with boot := { early.sys.boot with autoDue := false } } }, by decide +kernel⟩

theorem witness_SecureBootToFullService_2 : ∃ (k : KettleSet) (s : State),
    (s.sys.boot.sysLocked = true ∧ s.sys.boot.recallDone = false ∧ s.sys.boot.autoDue = true ∧ s.sys.boot.startEntryDue = true) ∧
      (s.sys.porActive = false ∧ s.sys.resetHeld = false ∧ s.sys.digestHold = none) ∧ (newestKettle s = some k) :=
  ⟨kettleNow true up, { early with store := { early.store with nvm := { early.store.nvm with kettle := [(0, kettleNow true up)] } } }, by decide +kernel⟩

theorem witness_SecureBootToFullService_3 : ∃ (page : Nat) (s : State),
    (s.sys.boot.sysLocked = true ∧ s.sys.boot.recallDone = false ∧ s.sys.boot.autoDue = false ∧ s.sys.boot.startEntryDue = false) ∧
      (s.sys.porActive = false ∧ s.sys.resetHeld = false ∧ s.sys.digestHold = none) ∧ (page < 256 ∧ areaPage page s = 0) :=
  ⟨0, { early with sys := { early.sys with boot := { early.sys.boot with autoDue := false, startEntryDue := false } } }, by decide +kernel⟩

theorem witness_SecureBootToFullService_4 : ∃ (f : BootFacts) (s : State),
    let a := activeBank s
    (s.sys.boot.earlyOpen = true ∧ s.sys.inReset = false ∧ s.sys.boot.bootDone = false ∧ s.sys.bootErr ≠ 2) ∧ (lcNow s ≠ .decommissioned)
      ∧ (s.sys.rstLast ≠ 5) ∧ (s.heddle.safeHold = false ∧ s.sys.pfHeld = false ∧ s.sys.boot.cfgLoaded = false) ∧ (imgOk (bankOf f
      a).horto s = true ∧ hortoCounter s ≤ (bankOf f a).horto.rollback) :=
  ⟨goodFacts, early, by decide +kernel⟩

theorem witness_SecureBootToFullService_5 : ∃ (f : BootFacts) (s : State),
    let a := activeBank s
    (s.sys.boot.earlyOpen = true ∧ s.sys.inReset = false ∧ s.sys.boot.bootDone = false ∧ s.sys.bootErr ≠ 2) ∧ (lcNow s ≠ .decommissioned)
      ∧ (s.sys.rstLast ≠ 5) ∧ (s.heddle.safeHold = false) ∧ (bootable f a s = false ∧ bootable f (!a) s = true) :=
  ⟨{ goodFacts with a := { goodFacts.a with horto := { goodFacts.a.horto with sigOk := false } } }, early, by decide +kernel⟩

theorem witness_SecureBootToFullService_6 : ∃ (f : BootFacts) (s : State),
    (s.sys.boot.earlyOpen = true ∧ s.sys.inReset = false ∧ s.sys.boot.bootDone = false ∧ s.sys.bootErr ≠ 2) ∧ (lcNow s ≠ .decommissioned)
      ∧ (s.sys.rstLast ≠ 5) ∧ (bootable f true s = false ∧ bootable f false s = false) :=
  ⟨badFacts, early, by decide +kernel⟩

theorem witness_SecureBootToFullService_7 : ∃ (_serial : W) (img : List (Nat × List W)) (s : State),
    (s.sys.boot.bootDone = true ∧ s.sys.boot.cfgLoaded = false ∧ s.sys.inReset = false ∧ s.sys.bootErr = 0) ∧ (imageOk img s = false) :=
  ⟨5, [(1, [0])], { early with sys := { early.sys with boot := { early.sys.boot with bootDone := true } } }, by decide +kernel⟩

set_option maxRecDepth 100000 in
theorem witness_SecureBootToFullService_8 : ∃ (_serial : W) (img : List (Nat × List W)) (s : State),
    (s.sys.boot.bootDone = true ∧ s.sys.boot.cfgLoaded = false ∧ s.sys.inReset = false ∧ s.sys.bootErr = 0) ∧ (imageOk img s = true) :=
  ⟨5, okImage, bootedNow, by decide +kernel⟩

theorem witness_SecureBootToFullService_9 : ∃ (s : State),
    (serviceReady s = true) ∧ (s.sys.boot.full = false) ∧ (s.heddle.safeHold = false ∧ s.sys.service = .early ∧ s.sys.mode = .startUp) :=
  ⟨{ up with sys := { up.sys with mode := .startUp, service := .early, boot := { up.sys.boot with full := false } } }, by decide +kernel⟩

theorem witness_SecureBootToFullService_10 : ∃ (s : State),
    (serviceReady s = true) ∧ (s.heddle.safeHold = true) :=
  ⟨{ up with sys := { up.sys with mode := .recovery, service := .limpSafe, cmdDown := true }, heddle := { up.heddle with safeHold := true } }, by decide +kernel⟩

theorem witness_SecureBootToFullService_11 : ∃ (g : Fin 8) (l : List (Fin 8)) (s : State),
    (s.sys.boot.autoDue = true ∧ s.sys.boot.firstRound = true ∧ s.sys.boot.full = true) ∧ ((seqOrder s).filter (fun k => groupAuto k s) =
      g :: l) ∧ (s.pwr.grp[g].st = .down) ∧ (s.sys.inReset = false) :=
  ⟨0, [], { withGroup up with sys := { up.sys with boot := { up.sys.boot with autoDue := true } } }, by decide +kernel⟩

theorem witness_SecureBootToFullService_12 : ∃ (s : State),
    (s.sys.boot.autoDue = true ∧ s.sys.boot.firstRound = true ∧ s.sys.boot.full = true) ∧ ((seqOrder s).filter (fun k => groupAuto k s) =
      []) :=
  ⟨{ up with sys := { up.sys with boot := { up.sys.boot with autoDue := true } } }, by decide +kernel⟩

theorem witness_ClocksCrossingsAndBeat_1 : ∃ (_xf : Bool) (s : State),
    (s.sys.porActive = false ∧ s.sys.power = .run ∧ s.sys.planned.sys = false ∧ s.sys.digestHold = none) ∧ (s.sys.rstnLong = false) :=
  ⟨true, up, by decide +kernel⟩

theorem witness_ClocksCrossingsAndBeat_2 : ∃ (s : State),
    (s.sys.boot.acqLocked = true ∧ s.sys.inReset = false ∧ s.sys.planned.acq = false ∧ (∀ j : Fin 8, s.acq.slot[j].st ≠ .running)) ∧ (swf
      {} s.eic.src = true) :=
  ⟨up, by decide +kernel⟩

theorem witness_ClocksCrossingsAndBeat_3 : ∃ (s : State),
    (s.sys.boot.acqLocked = true ∧ s.sys.inReset = false ∧ s.sys.planned.acq = false) :=
  ⟨up, by decide +kernel⟩

theorem witness_ClocksCrossingsAndBeat_4 : ∃ (s : State),
    (s.sys.frameRun = true ∧ s.sys.frameBackup = false ∧ s.sys.inReset = false) ∧ (swf {} s.eic.src = true) :=
  ⟨{ up with sys := { up.sys with frameRun := true } }, by decide +kernel⟩

theorem witness_ClocksCrossingsAndBeat_5 : ∃ (s : State),
    (s.sys.inReset = false) ∧ (swf {} s.eic.src = true) :=
  ⟨up, by decide +kernel⟩

theorem witness_ClocksCrossingsAndBeat_6 : ∃ (x : BitVec 5) (s : State),
    let n := x.toNat
    (n ∈ [0x02, 0x04, 0x05, 0x07, 0x08, 0x0C, 0x0E, 0x10]) ∧ (s.sys.inReset = false ∧ s.sys.porActive = false) ∧ (swf {} s.eic.src = true
      ∧ swf 0 s.sys.overrunCount = true) :=
  ⟨2, up, by decide +kernel⟩

theorem witness_ClocksCrossingsAndBeat_7 : ∃ (x : BitVec 5) (_s : State),
    (x.toNat ∉ [0x02, 0x04, 0x05, 0x07, 0x08, 0x0C, 0x0E, 0x10]) :=
  ⟨1, up, by decide +kernel⟩

theorem witness_ClocksCrossingsAndBeat_8 : ∃ (n : Nat) (s : State),
    (pb Pid.SYS_DOZE_EN s = true ∧ pn Pid.SYS_DOZE_MIN_US s ≤ n) ∧ (s.hif.slots.all (fun x => x.status.isFinished) = true ∧ (∀ i : Fin 8,
      s.acq.slot[i].st ≠ .armed ∧ s.acq.slot[i].st ≠ .running) ∧ seqBusy s = false) ∧ (s.chg.pwm = false ∧ s.pd.a.pos = 0 ∧ s.pd.b.pos =
      0 ∧ s.sys.mode = .normal) ∧ (cmdRuns s = true ∧ s.sys.power = .run ∧ s.sys.sleepReq = none) :=
  ⟨1000000, setPv Pid.SYS_DOZE_EN 0 1 up, by decide +kernel⟩

theorem witness_ClocksCrossingsAndBeat_9 : ∃ (n : Nat) (s : State),
    (pb Pid.SYS_DOZE_EN s = false ∨ n < pn Pid.SYS_DOZE_MIN_US s ∨ s.chg.pwm = true ∨ s.pd.a.pos ≠ 0 ∨ s.pd.b.pos ≠ 0 ∨ s.sys.mode ≠
      .normal ∨ seqBusy s = true) :=
  ⟨1, inMode .test up, by decide +kernel⟩

theorem witness_ClocksCrossingsAndBeat_10 : ∃ (s : State),
    (s.sys.power = .doze) :=
  ⟨{ up with sys := { up.sys with power := .doze, planned := { sys := true } } }, by decide +kernel⟩

theorem witness_ClocksCrossingsAndBeat_11 : ∃ (_vin _vlink _vbat : Nat) (_die : Int) (s : State),
    (s.sys.porActive = false ∧ s.sys.power ≠ .ship) :=
  ⟨0, 48000, 102001, -65, up, by decide +kernel⟩

theorem witness_ClocksCrossingsAndBeat_12 : ∃ (s : State),
    (s.sys.porActive = false ∧ s.sys.inReset = false ∧ s.sys.power = .run) ∧ (s.est.test = none ∧ s.est.cutDown = none) :=
  ⟨up, by decide +kernel⟩

theorem witness_ClocksCrossingsAndBeat_13 : ∃ (_n : BitVec 16) (s : State),
    (s.sys.porActive = false ∧ s.sys.inReset = false ∧ s.sys.power = .run) ∧ (s.est.test = none ∧ s.est.cutDown = none) ∧ (cmdRuns s =
      true) :=
  ⟨3, up, by decide +kernel⟩

theorem witness_ClocksCrossingsAndBeat_14 : ∃ (s : State),
    (procsRun s = true ∧ s.sys.dbgHalt.getLsbD 8 = false) ∧ (creditsOk s = true ∧ caddyOk s = true ∧ picksOk s = true) :=
  ⟨up, by decide +kernel⟩

theorem witness_ClocksCrossingsAndBeat_15 : ∃ (s : State),
    (procsRun s = true ∧ s.sys.dbgHalt.getLsbD 8 = false) ∧ (creditsOk s = false ∧ caddyOk s = true ∧ picksOk s = true) :=
  ⟨{ up with hif := { up.hif with spia := { up.hif.spia with avail := 3 } } }, by decide +kernel⟩

theorem witness_ClocksCrossingsAndBeat_16 : ∃ (s : State),
    (procsRun s = true ∧ s.sys.dbgHalt.getLsbD 8 = false) ∧ (creditsOk s = true ∧ caddyOk s = false ∧ picksOk s = true) :=
  ⟨{ up with est := { up.est with caddy := { up.est.caddy with valid := true, b := 5 } } }, by decide +kernel⟩

theorem witness_ResetsAndWhatTheyKeep_1 : ∃ (why : PorCause) (s : State),
    (s.sys.porActive = false ∧ brownOut why = true) :=
  ⟨.vcc5 4199, up, by decide +kernel⟩

theorem witness_ResetsAndWhatTheyKeep_2 : ∃ (s : State),
    let t0 := s.sys
    (t0.porActive = false ∧ t0.resetHeld = false ∧ t0.power = .run ∧ t0.digestHold = none ∧ t0.rstnLong = false) ∧ (t0.saving = false ∧
      s.est.test = none) :=
  ⟨up, by decide +kernel⟩

theorem witness_ResetsAndWhatTheyKeep_3 : ∃ (c : ResetCause) (s : State),
    (s.sys.resetBegun = some c) ∧ (c = .heddle ∨ c = .selvedge ∨ c = .safLockstep ∨ c = .fwActivate ∨ c = .safeExit) ∧ (s.sys.rstnLong =
      false ∧ s.sys.saving = false ∧ s.est.test = none) :=
  ⟨.safeExit, { up with sys := { up.sys with resetBegun := some .safeExit } }, by decide +kernel⟩

theorem witness_ResetsAndWhatTheyKeep_4 : ∃ (p : Port) (s : State),
    (p = .spia ∨ p = .spib) ∧ (s.sys.inReset = false ∧ s.sys.porActive = false) ∧ (s.hif.slots.filter (fun x => x.port == p) = []) :=
  ⟨.spib, up, by decide +kernel⟩

theorem witness_ResetsAndWhatTheyKeep_5 : ∃ (_b : Block) (s : State),
    (s.sys.inReset = true ∨ s.sys.porActive = true) :=
  ⟨.acq, { up with sys := { up.sys with inReset := true } }, by decide +kernel⟩

theorem witness_ResetsAndWhatTheyKeep_6 : ∃ (s : State),
    (procsRun s = true) ∧ (s.heddle.safeHold = false ∧ s.est.test = none) ∧ (s.sys.mode = .normal ∧ s.sys.service = .full) :=
  ⟨up, by decide +kernel⟩

theorem witness_ResetsAndWhatTheyKeep_7 : ∃ (s : State),
    (s.sys.rstnLong = true ∧ s.sys.porActive = false) :=
  ⟨{ up with sys := { up.sys with rstnLong := true } }, by decide +kernel⟩

theorem witness_ResetsAndWhatTheyKeep_8 : ∃ (s : State),
    (s.sys.porActive = false ∧ s.sys.resetHeld = false ∧ s.sys.power = .run ∧ s.sys.rstnLong = false) ∧ (procsRun s = false) ∧ ((∀ c :
      Fin 12, s.pwr.vr[c].st = .off) ∧ (∀ l : Fin 8, s.pwr.ldo[l].st = .off) ∧ (∀ e : Fin 16, s.pwr.en[e].st = .off)) ∧
      (s.sys.dieStopping = false) :=
  ⟨State.reset, by decide +kernel⟩

theorem witness_ResetsAndWhatTheyKeep_9 : ∃ (s : State),
    (s.sys.inReset = false ∧ s.sys.porActive = false) ∧ (s.hif.slots.filter (fun x => x.port == .i2c) = []) :=
  ⟨up, by decide +kernel⟩

theorem witness_ResetsAndWhatTheyKeep_10 : ∃ (i : Fin 6) (s : State),
    (s.sys.inReset = false ∧ s.sys.porActive = false) ∧ (i = 2 ∨ i = 3 ∨ i = 4 ∨ i = 5) ∧ (procsRun s = true ∧ s.sys.bootErr ≠ 2) :=
  ⟨2, up, by decide +kernel⟩

theorem witness_ResetsAndWhatTheyKeep_11 : ∃ (b : Block) (s : State),
    (s.sys.inReset = false ∧ s.sys.porActive = false) ∧ (b = .charger ∨ b = .shuttle 0 ∨ b = .shuttle 1) ∧ (s.sys.boot.cfgLoaded = false) :=
  ⟨.charger, { up with sys := { up.sys with boot := { up.sys.boot with cfgLoaded := false } } }, by decide +kernel⟩

theorem witness_ResetsAndWhatTheyKeep_12 : ∃ (b : Block) (s : State),
    (s.sys.inReset = false ∧ s.sys.porActive = false) ∧ (b = .charger ∨ b = .shuttle 1) ∧ (chgRuns s = true ∧ s.sys.boot.cfgLoaded =
      true) ∧ (s.chg.absDet = 0 ∧ s.chg.kill = false ∧ s.est.probe = none) ∧ (s.chg.st ≠ .off ∧ s.chg.st ≠ .suspended ∧ s.chg.st ≠
      .batteryAbsent) ∧ (disDemand s = false ∧ waitBits s ≠ 0) :=
  ⟨.charger, { up with chg := { up.chg with st := .cc, started := true } }, by decide +kernel⟩

theorem witness_ResetsAndWhatTheyKeep_13 : ∃ (s : State),
    (s.sys.inReset = false ∧ s.sys.porActive = false) ∧ ((∀ k : Fin 8, s.acq.slot[k].st = .idle) ∧ s.hif.slots.all (fun x => decide (x.op
      ≠ 0x605)) = true) :=
  ⟨up, by decide +kernel⟩

theorem witness_ResetsAndWhatTheyKeep_14 : ∃ (s : State),
    (s.sys.inReset = false ∧ s.sys.porActive = false) ∧ (s.pd.a.st ≠ .attachedSnk ∧ s.pd.b.st ≠ .attachedSnk) :=
  ⟨up, by decide +kernel⟩

theorem witness_ResetsAndWhatTheyKeep_15 : ∃ (s : State),
    (s.sys.porActive = false ∧ s.sys.resetHeld = false ∧ s.sys.power = .run ∧ s.sys.rstnLong = false) ∧ (procsRun s = true ∧ allRailsOff
      s = false) ∧ (∀ g : Fin 8, s.pwr.grp[g].st = .unused) :=
  ⟨chan0 .regulate, by decide +kernel⟩

theorem witness_EmergencyAndSafeExit_1 : ∃ (p : Port) (tag : Tag) (x : Slot) (s : State),
    (Admitted 0x003 p tag x s) ∧ (CqRoom p s) ∧ (lcNow s ≠ .decommissioned) ∧ (∀ g : Fin 8, s.pwr.grp[g].st = .unused) ∧ (s.sys.rstnLong
      = false ∧ s.sys.dieStopping = false) :=
  ⟨.spia, 7, slotW 0x003 [], adm 0x003 [] up, by decide +kernel⟩

theorem witness_EmergencyAndSafeExit_2 : ∃ (p : Port) (tag : Tag) (x : Slot) (s : State),
    (Admitted 0x004 p tag x s) ∧ (CqRoom p s) ∧ (s.heddle.safeHold = false) :=
  ⟨.spia, 7, slotW 0x004 [], adm 0x004 [] up, by decide +kernel⟩

theorem witness_EmergencyAndSafeExit_3 : ∃ (p : Port) (tag : Tag) (x : Slot) (s : State),
    (Admitted 0x004 p tag x s) ∧ (CqRoom p s) ∧ (s.heddle.safeHold = true) ∧ (s.sys.inReset = false ∧ s.sys.porActive = false ∧
      s.sys.resetBegun = none) :=
  ⟨.spia, 7, slotW 0x004 [], adm 0x004 [] { up with heddle := { up.heddle with safeHold := true, count := 4 } }, by decide +kernel⟩

theorem witness_EmergencyAndSafeExit_4 : ∃ (p : Port) (tag : Tag) (x : Slot) (s : State),
    (Admitted 0x003 p tag x s) ∧ (lcNow s ≠ .decommissioned) ∧ (s.sys.rstnLong = false ∧ s.sys.dieStopping = false) :=
  ⟨.spia, 7, slotW 0x003 [], adm 0x003 [] (withGroup (chan0 .regulate)), by decide +kernel⟩

theorem witness_SourceQualification_1 : ∃ (d : Fin 2) (mv : Nat) (s : State),
    let i := dcSrc d
    let x := srcAt i s
    (frameOn s = true ∧ linkRuns s = true) ∧ (s.path.porSet = false ∧ s.path.link ≠ .start ∧ s.est.test = none) ∧ (x.inWin = false ∧ x.st
      = .absent) ∧ (pn (Pid.SRC_DC_VMIN_MV d.val) s + pn (Pid.SRC_DC_HYST_MV d.val) s ≤ mv ∧ mv + pn (Pid.SRC_DC_HYST_MV d.val) s ≤ pn
      (Pid.SRC_DC_VMAX_MV d.val) s) ∧ (swf {} s.eic.src = true) :=
  ⟨1, 48000, withDcb (fun x => { x with inWin := false, st := .absent, mv := 0 }) linkUp, by decide +kernel⟩

theorem witness_SourceQualification_2 : ∃ (d : Fin 2) (mv : Nat) (s : State),
    (s.path.porSet = false) ∧ (mv < pn (Pid.SRC_DC_VMIN_MV d.val) s + pn (Pid.SRC_DC_HYST_MV d.val) s) :=
  ⟨0, 10, linkUp, by decide +kernel⟩

theorem witness_SourceQualification_3 : ∃ (d : Fin 2) (mv : Nat) (s : State),
    let i := dcSrc d
    let x := srcAt i s
    let l := recentUs 60000000 s.sys.devTime x.exits ++ [s.sys.devTime]
    (frameOn s = true ∧ linkRuns s = true) ∧ (s.path.porSet = false ∧ s.path.link = .source) ∧ (x.inWin = true ∧ x.st = .standby) ∧ (mv <
      pn (Pid.SRC_DC_VMIN_MV d.val) s) ∧ (l.length ≤ pn Pid.SRC_BOUNCE_MAX s) :=
  ⟨1, 100, linkUp, by decide +kernel⟩

theorem witness_SourceQualification_4 : ∃ (d : Fin 2) (mv : Nat) (s : State),
    let i := dcSrc d
    let x := srcAt i s
    let l := recentUs 60000000 s.sys.devTime x.exits ++ [s.sys.devTime]
    (frameOn s = true ∧ linkRuns s = true) ∧ (s.path.porSet = false ∧ s.path.link = .source) ∧ (x.inWin = true ∧ x.st = .standby) ∧ (mv <
      pn (Pid.SRC_DC_VMIN_MV d.val) s) ∧ (pn Pid.SRC_BOUNCE_MAX s < l.length) :=
  ⟨1, 100, setPv Pid.SRC_BOUNCE_MAX 0 0 linkUp, by decide +kernel⟩

theorem witness_SourceQualification_5 : ∃ (i : Fin 4) (s : State),
    (linkRuns s = true) ∧ ((srcAt i s).st = .quarantined) :=
  ⟨0, withDca (fun x => { x with st := .quarantined }) linkUp, by decide +kernel⟩

theorem witness_SourceQualification_6 : ∃ (d : Fin 2) (c1 c2 : BitVec 8) (s : State),
    let i := dcSrc d
    let a := srcidCode c1
    let b := srcidCode c2
    ((srcAt i s).idPending = true ∧ shRuns 0 s = true) ∧ (a ≠ 0 ∧ b ≠ 0) :=
  ⟨0, 100, 100, withDca (fun x => { x with idPending := true }) linkUp, by decide +kernel⟩

theorem witness_SourceQualification_7 : ∃ (d : Fin 2) (c : BitVec 8) (s : State),
    let i := dcSrc d
    ((srcAt i s).idPending = true ∧ shRuns 0 s = true) ∧ (8 * c.toNat < 100) :=
  ⟨0, 12, withDca (fun x => { x with idPending := true }) linkUp, by decide +kernel⟩

theorem witness_SourceQualification_8 : ∃ (i : Fin 4) (s : State),
    let x := srcAt i s
    (linkRuns s = true ∧ s.est.test = none) ∧ (x.st = .qualifying ∧ x.inWin = true ∧ x.qualFrom ≠ none) ∧ (s.path.link = .battery) ∧
      (x.mv ≤ s.path.vbat + pn Pid.SRC_RETURN_MARGIN_MV s) ∧ (∀ j, j ≠ i → (srcAt j s).inWin = false) :=
  ⟨0, withDcb (fun x => { x with inWin := false }) (withDca (fun x => { x with st := .qualifying, qualFrom := some 5, mv := 48000 }) (inLink .battery linkUp)), by decide +kernel⟩

theorem witness_SourceQualification_9 : ∃ (i : Fin 4) (s : State),
    let x := srcAt i s
    (linkRuns s = true ∧ s.est.test = none) ∧ (x.st = .qualifying ∧ x.inWin = true ∧ x.qualFrom ≠ none) ∧ (s.path.link = .battery) ∧
      (s.path.vbat + pn Pid.SRC_RETURN_MARGIN_MV s < x.mv) ∧ (i ∈ srcOrder s) ∧ (∀ j, j ≠ i → (srcAt j s).inWin = false) :=
  ⟨0, withDcb (fun x => { x with inWin := false }) (withDca (fun x => { x with st := .qualifying, qualFrom := some 5, mv := 60000 }) (inLink .battery linkUp)), by decide +kernel⟩

theorem witness_SourceQualification_10 : ∃ (d : Fin 2) (mv : Nat) (s : State),
    (frameOn s = true) ∧ ((if s.path.porSet then 75000 else pn (Pid.SRC_DC_VMAX_MV d.val) s) < mv) :=
  ⟨1, 80000, linkUp, by decide +kernel⟩

theorem witness_SourceQualification_11 : ∃ (d : Fin 2) (mv : Nat) (s : State),
    (mv ≤ (if s.path.porSet then 75000 else pn (Pid.SRC_DC_VMAX_MV d.val) s)) :=
  ⟨1, 5, linkUp, by decide +kernel⟩

theorem witness_SourceQualification_12 : ∃ (d : Fin 2) (mv : Nat) (s : State),
    let i := dcSrc d
    let x := srcAt i s
    let l := recentUs 60000000 s.sys.devTime x.exits ++ [s.sys.devTime]
    (frameOn s = true ∧ linkRuns s = true) ∧ (s.path.porSet = false ∧ s.path.link = .source) ∧ (x.inWin = true ∧ x.replaced = false ∧
      (x.st = .enabled ∨ x.st = .ramping)) ∧ (mv < pn (Pid.SRC_DC_VMIN_MV d.val) s) ∧ (l.length ≤ pn Pid.SRC_BOUNCE_MAX s) ∧ (∀ j, j ≠ i
      → (srcAt j s).st = .absent ∨ (srcAt j s).st = .disabled ∨ (srcAt j s).st = .quarantined ∨ (srcAt j s).st = .qualifying) :=
  ⟨0, 100, { linkUp with path := { linkUp.path with dcb := { linkUp.path.dcb with st := .absent }, usba := { linkUp.path.usba with st := .absent }, usbb := { linkUp.path.usbb with st := .absent } } }, by decide +kernel⟩

theorem witness_HandoverAndReturn_1 : ∃ (i j : Fin 4) (s : State),
    (frameOn s = true ∧ linkRuns s = true) ∧ (s.path.link = .source ∧ s.path.gdbat = false) ∧ ((srcAt i s).st = .enabled ∧ (srcAt i
      s).replaced = false) ∧ ((srcOrder s).find? (fun k => (srcAt k s).st == .standby && (srcAt k s).inWin && !(srcAt k s).gate) = some
      j) :=
  ⟨0, 1, linkUp, by decide +kernel⟩

theorem witness_HandoverAndReturn_2 : ∃ (i : Fin 4) (s : State),
    (s.path.link ≠ .source ∨ s.path.gdbat = true ∧ s.path.supplement = false ∨ (srcAt i s).st = .standby) :=
  ⟨0, inLink .battery linkUp, by decide +kernel⟩

theorem witness_HandoverAndReturn_3 : ∃ (vlink vbat : Nat) (s : State),
    (frameOn s = true ∧ linkRuns s = true) ∧ (s.path.link = .source) ∧ (vlink + 20 ≤ vbat ∨ vlink < pn Pid.SRC_VLINK_UV_MV s) ∧ (∃ i,
      ((srcAt i s).st = .enabled ∨ (srcAt i s).st = .ramping) ∧ (srcAt i s).inWin = true) ∧ (swf {} s.eic.src = true) :=
  ⟨30000, 51000, linkUp, by decide +kernel⟩

theorem witness_HandoverAndReturn_4 : ∃ (vlink vbat : Nat) (s : State),
    (frameOn s = true ∧ linkRuns s = true) ∧ (s.path.link = .source) ∧ (vlink + 20 ≤ vbat ∨ vlink < pn Pid.SRC_VLINK_UV_MV s) ∧ (∀ i,
      (srcAt i s).inWin = false) :=
  ⟨30000, 51000, withDcb (fun x => { x with inWin := false }) (withDca (fun x => { x with inWin := false }) linkUp), by decide +kernel⟩

theorem witness_HandoverAndReturn_5 : ∃ (vlink vbat : Nat) (s : State),
    (frameOn s = true) ∧ (s.path.link = .handover ∨ s.path.link = .battery) ∧ (vlink + 20 ≤ vbat ∨ vlink < pn Pid.SRC_VLINK_UV_MV s) :=
  ⟨48000, 48020, inLink .battery linkUp, by decide +kernel⟩

theorem witness_HandoverAndReturn_6 : ∃ (vlink vbat : Nat) (s : State),
    (vbat < vlink + 20 ∧ pn Pid.SRC_VLINK_UV_MV s ≤ vlink) :=
  ⟨48000, 48019, linkUp, by decide +kernel⟩

theorem witness_HandoverAndReturn_7 : ∃ (s : State),
    (linkRuns s = true ∧ s.path.link = .handover) :=
  ⟨inLink .handover linkUp, by decide +kernel⟩

theorem witness_HandoverAndReturn_8 : ∃ (s : State),
    (s.path.link ≠ .handover) :=
  ⟨linkUp, by decide +kernel⟩

theorem witness_HandoverAndReturn_9 : ∃ (i : Fin 4) (_ma : Nat) (s : State),
    (linkRuns s = true ∧ (srcAt i s).st = .ramping) ∧ ((srcAt i s).limitPct < 99) :=
  ⟨0, 5000, withDca (fun x => { x with st := .ramping, limitPct := 10 }) (inLink .return linkUp), by decide +kernel⟩

theorem witness_HandoverAndReturn_10 : ∃ (i : Fin 4) (ma : Nat) (s : State),
    (linkRuns s = true ∧ (srcAt i s).st = .ramping) ∧ ((srcAt i s).limitPct = 99) ∧ (s.path.link = .return) ∧ (ma ≤ orLimit (onSrc i (fun
      x => { x with limitPct := 100 }) s)) :=
  ⟨0, 5000, withDca (fun x => { x with st := .ramping, limitPct := 99 }) (inLink .return linkUp), by decide +kernel⟩

theorem witness_HandoverAndReturn_11 : ∃ (i : Fin 4) (_ma : Nat) (s : State),
    (linkRuns s = true ∧ (srcAt i s).st = .ramping) ∧ ((srcAt i s).limitPct = 99) ∧ (s.path.link = .source) :=
  ⟨0, 5000, withDca (fun x => { x with st := .ramping, limitPct := 99 }) linkUp, by decide +kernel⟩

theorem witness_HandoverAndReturn_12 : ∃ (i : Fin 4) (ma : Nat) (s : State),
    (linkRuns s = true ∧ (srcAt i s).st = .ramping) ∧ ((srcAt i s).limitPct = 99) ∧ (s.path.link = .return) ∧ (orLimit (onSrc i (fun x =>
      { x with limitPct := 100 }) s) < ma) :=
  ⟨0, 50000, withDca (fun x => { x with st := .ramping, limitPct := 99 }) (inLink .return linkUp), by decide +kernel⟩

theorem witness_HandoverAndReturn_13 : ∃ (vlink vbat : Nat) (s : State),
    (frameOn s = true) ∧ (s.path.link = .start) ∧ (vlink + 20 ≤ vbat ∨ vlink < pn Pid.SRC_VLINK_UV_MV s) :=
  ⟨11000, 12000, inLink .start linkUp, by decide +kernel⟩

theorem witness_HandoverAndReturn_14 : ∃ (i : Fin 4) (vlink vbat : Nat) (s : State),
    (frameOn s = true ∧ linkRuns s = true) ∧ (s.path.link = .return) ∧ (vlink + 20 ≤ vbat ∨ vlink < pn Pid.SRC_VLINK_UV_MV s) ∧ ((srcAt i
      s).st = .ramping ∧ (srcAt i s).inWin = false ∧ (∀ k, k ≠ i → (srcAt k s).st ≠ .ramping ∧ (srcAt k s).st ≠ .enabled)) :=
  ⟨0, 11000, 12000, withDca (fun x => { x with st := .ramping, inWin := false, limitPct := 50 }) (inLink .return linkUp), by decide +kernel⟩

theorem witness_DiodesAndInputLimits_1 : ∃ (d : Fin 2) (drop : Int) (s : State),
    let x := srcAt (dcSrc d) s
    (frameOn s = true ∧ 20 ≤ drop) ∧ (x.ovp = false ∧ ((s.path.link = .start ∧ x.inWin = true) ∨ (s.path.link ≠ .start ∧ s.path.link ≠
      .battery ∧ (x.st = .enabled ∨ x.st = .ramping)))) :=
  ⟨0, 20, linkUp, by decide +kernel⟩

theorem witness_DiodesAndInputLimits_2 : ∃ (drop : Int) (s : State),
    (frameOn s = true ∧ 20 ≤ drop) ∧ (s.path.link = .battery ∧ s.path.gdbat = false ∧ s.sys.inReset = false) ∧ (swf {} s.eic.src = true) :=
  ⟨20, inLink .battery linkUp, by decide +kernel⟩

theorem witness_DiodesAndInputLimits_3 : ∃ (_g : Gate) (drop : Int) (_s : State),
    (drop < 20) :=
  ⟨.dcb, 19, linkUp, by decide +kernel⟩

theorem witness_DiodesAndInputLimits_4 : ∃ (_d : Fin 2) (drop : Int) (s : State),
    (frameOn s = true ∧ drop ≤ -5) :=
  ⟨1, -5, linkUp, by decide +kernel⟩

theorem witness_DiodesAndInputLimits_5 : ∃ (_g : Gate) (drop : Int) (_s : State),
    (-5 < drop) :=
  ⟨.dca, -4, linkUp, by decide +kernel⟩

theorem witness_DiodesAndInputLimits_6 : ∃ (e : Nat) (s : State),
    (linkRuns s = true ∧ s.path.link = .source ∧ orMembers s ≠ []) ∧ (disAllowed s = true ∧ s.chg.st = .cc) ∧ (s.chg.chargeMa < e) ∧ (0 <
      pn Pid.CHG_I_DIS_MAX_MA s) :=
  ⟨5000, { linkUp with chg := { linkUp.chg with st := .cc, chargeMa := 2000, started := true } }, by decide +kernel⟩

theorem witness_DiodesAndInputLimits_7 : ∃ (e : Nat) (s : State),
    (linkRuns s = true ∧ s.path.link = .source ∧ orMembers s ≠ []) ∧ (e ≤ s.chg.chargeMa) :=
  ⟨2000, { linkUp with chg := { linkUp.chg with st := .cc, chargeMa := 2000 } }, by decide +kernel⟩

theorem witness_DiodesAndInputLimits_8 : ∃ (s : State),
    (s.path.supplement = true ∧ s.path.overload = false ∧ s.sys.inReset = false) :=
  ⟨{ linkUp with path := { linkUp.path with supplement := true } }, by decide +kernel⟩

theorem witness_DiodesAndInputLimits_9 : ∃ (s : State),
    (s.path.supplement = false ∨ s.path.overload = true) :=
  ⟨linkUp, by decide +kernel⟩

theorem witness_DiodesAndInputLimits_10 : ∃ (s : State),
    (linkRuns s = true ∧ s.path.link = .source) ∧ (s.path.supplement = true) :=
  ⟨{ linkUp with path := { linkUp.path with supplement := true, gdbat := true } }, by decide +kernel⟩

/-- A state with die sensor 0 at 25.0 degC. -/
def atRoom (s : State) : State := s.onTherm (fun q => { q with sens := q.sens.set 0 { c10 := some 250 } })

/-- R112 at 25 degC: 24 mV over 2.000 mOhm are 12 A. -/
theorem test_drop_current : dropMa 0 24000 (atRoom linkUp) = some 12000 := by decide +kernel

theorem witness_DiodesAndInputLimits_11 : ∃ (d : Fin 2) (uv ma : Nat) (s : State),
    let i := dcSrc d
    (frameOn s = true ∧ s.path.porSet = false ∧ s.sys.inReset = false) ∧ ((srcAt i s).gate = true ∧ (srcAt i s).limiting = false ∧ (srcAt
      i s).released = false) ∧ (dropMa i uv s = some ma ∧ 15000 < uv) ∧ (110 * limNow i s < 100 * ma) ∧ (swf {} s.eic.src = true) :=
  ⟨0, 24000, 12000, atRoom linkUp, by decide +kernel⟩

theorem witness_DiodesAndInputLimits_12 : ∃ (d : Fin 2) (uv ma : Nat) (s : State),
    let i := dcSrc d
    (frameOn s = true) ∧ (dropMa i uv s = some ma) ∧ (100 * ma ≤ 110 * limNow i s ∨ uv ≤ 15000) :=
  ⟨0, 14000, 7000, atRoom linkUp, by decide +kernel⟩

theorem witness_DiodesAndInputLimits_13 : ∃ (u : Fin 2) (ma : Nat) (s : State),
    let i := usbSrc u
    (frameOn s = true ∧ s.path.porSet = false) ∧ ((srcAt i s).gate = true ∧ (srcAt i s).limiting = false ∧ (srcAt i s).released = false)
      ∧ (110 * limNow i s < 100 * ma) :=
  ⟨0, 4000, { linkUp with path := { linkUp.path with usba := { gate := true, limMa := 3000 } } }, by decide +kernel⟩

theorem witness_DiodesAndInputLimits_14 : ∃ (d : Fin 2) (s : State),
    let i := dcSrc d
    (frameOn s = true ∧ s.sys.inReset = false) ∧ ((srcAt i s).limiting = true) ∧ (pn Pid.SRC_LIN_EXPIRE s = 0) ∧ (swf {} s.eic.src =
      true) :=
  ⟨0, withDca (fun x => { x with limiting := true }) linkUp, by decide +kernel⟩

theorem witness_DiodesAndInputLimits_15 : ∃ (d : Fin 2) (s : State),
    let i := dcSrc d
    let l := recentUs 60000000 s.sys.devTime (srcAt i s).exits ++ [s.sys.devTime]
    (frameOn s = true ∧ linkRuns s = true ∧ s.path.link = .source) ∧ ((srcAt i s).limiting = true ∧ (srcAt i s).st = .enabled) ∧ (pn
      Pid.SRC_LIN_EXPIRE s = 1) ∧ (l.length ≤ pn Pid.SRC_BOUNCE_MAX s) :=
  ⟨0, setPv Pid.SRC_LIN_EXPIRE 0 1 (withDca (fun x => { x with limiting := true }) linkUp), by decide +kernel⟩

theorem witness_DiodesAndInputLimits_16 : ∃ (u : Fin 2) (drop : Int) (s : State),
    let x := srcAt (usbSrc u) s
    let y := if u = 0 then s.pd.a else s.pd.b
    (frameOn s = true ∧ 20 ≤ drop) ∧ ((x.st = .enabled ∨ x.st = .ramping) ∧ s.path.link ≠ .battery) ∧ (y.st = .attachedSnk ∧ y.source =
      false ∧ y.swap = none ∧ y.hrSrc = false ∧ y.held = false ∧ y.gsrc = false) :=
  ⟨0, 20, { linkUp with path := { linkUp.path with usba := { linkUp.path.usba with st := .enabled } }, pd := { linkUp.pd with a := { linkUp.pd.a with st := .attachedSnk } } }, by decide +kernel⟩

theorem witness_DiodesAndInputLimits_17 : ∃ (_u : Fin 2) (drop : Int) (s : State),
    (frameOn s = true ∧ drop ≤ -5) :=
  ⟨0, -5, linkUp, by decide +kernel⟩

theorem witness_DiodesAndInputLimits_18 : ∃ (drop : Int) (s : State),
    (frameOn s = true ∧ drop ≤ -5) ∧ (s.path.gdbat = true ∧ s.sys.inReset = false) ∧ (swf {} s.eic.src = true) :=
  ⟨-5, { linkUp with path := { linkUp.path with gdbat := true } }, by decide +kernel⟩

theorem witness_ChargerCommandsAndCycle_1 : ∃ (p : Port) (tag : Tag) (x : Slot) (s : State),
    (Admitted 0x201 p tag x s) ∧ (CqRoom p s) ∧ (s.chg.st = .off ∧ pb Pid.CHG_EN s = true ∧ s.heddle.safeHold = false) ∧ (disDemand s =
      false ∧ s.chg.kill = false) :=
  ⟨.spia, 7, slotW 0x201 [1], adm 0x201 [1] (setPv Pid.CHG_EN 0 1 linkUp), by decide +kernel⟩

theorem witness_ChargerCommandsAndCycle_2 : ∃ (p : Port) (tag : Tag) (x : Slot) (s : State),
    (Admitted 0x201 p tag x s) ∧ (CqRoom p s) ∧ (s.chg.st = .suspended ∨ pb Pid.CHG_EN s = false ∨ (s.heddle.safeHold = true ∧ pn
      Pid.CHG_SAFEHOLD s = 1)) :=
  ⟨.spia, 7, slotW 0x201 [], adm 0x201 [] { linkUp with chg := { linkUp.chg with st := .suspended } }, by decide +kernel⟩

theorem witness_ChargerCommandsAndCycle_3 : ∃ (p : Port) (tag : Tag) (x : Slot) (s : State),
    (Admitted 0x202 p tag x s) ∧ (CqRoom p s) :=
  ⟨.spia, 7, slotW 0x202 [], adm 0x202 [] { linkUp with chg := { linkUp.chg with st := .cc } }, by decide +kernel⟩

theorem witness_ChargerCommandsAndCycle_4 : ∃ (_v : Nat) (s : State),
    (chgRuns s = true ∧ s.chg.checkDue = true) ∧ (vrla s = false) ∧ (s.chg.newCycle = true ∧ s.chg.force = false) :=
  ⟨31999, { linkUp with chg := { linkUp.chg with st := .wait, checkDue := true } }, by decide +kernel⟩

theorem witness_ChargerCommandsAndCycle_5 : ∃ (_v : Nat) (s : State),
    (chgRuns s = true ∧ s.chg.checkDue = true) ∧ (vrla s = true ∧ s.heddle.safeHold = false) ∧ (s.chg.newCycle = false ∧ s.chg.force =
      false ∧ s.chg.cycle = some .cc ∧ netDischarged s = false) :=
  ⟨38400, setPv Pid.CHG_CHEM 0 1 { linkUp with chg := { linkUp.chg with st := .wait, checkDue := true, newCycle := false, cycle := some .cc, tmrCc := 7 } }, by decide +kernel⟩

theorem witness_ChargerCommandsAndCycle_6 : ∃ (o : ChgObs) (s : State),
    (chgRuns s = true ∧ s.chg.checkDue = false ∧ s.chg.st = .trickle) ∧ (waitBits s = 0 ∧ disDemand s = false) ∧ (s.chg.upTicks = 9 ∧
      vTrk s * cells s ≤ o.vMin) ∧ (o.inputMa = none ∧ s.chg.throtPct = 100 ∧ pn Pid.CHG_VLINK_MIN_MV s < o.vlink) :=
  ⟨⟨32000, 33000, 0, 0, none, 48000, 0⟩, charging .trickle, by decide +kernel⟩

theorem witness_ChargerCommandsAndCycle_7 : ∃ (o : ChgObs) (s : State),
    (chgRuns s = true ∧ s.chg.checkDue = false ∧ s.chg.st = .precharge) ∧ (waitBits s = 0 ∧ disDemand s = false) ∧ (s.chg.downTicks = 9 ∧
      s.chg.upTicks < 9 ∧ o.vMax < (vTrk s - vHyst s) * cells s ∧ o.vMin ≤ o.vMax ∧ vTrk s ≤ vPre s) :=
  ⟨⟨30000, 31000, 0, 0, none, 48000, 0⟩, charging .precharge, by decide +kernel⟩

theorem witness_ChargerCommandsAndCycle_8 : ∃ (o : ChgObs) (m : Nat) (s : State),
    (chgRuns s = true ∧ s.chg.checkDue = false ∧ s.chg.st = .cc) ∧ (waitBits s = 0 ∧ disDemand s = false) ∧ (s.chg.ccSet = pn
      Pid.CHG_I_CC_MA s ∧ s.chg.ccSet ≤ o.loopMa) ∧ ((vPre s - vHyst s) * cells s ≤ o.vMax) ∧ (o.inputMa = some m ∧ m < s.chg.ccSet ∧
      s.chg.throtPct = 100 ∧ pn Pid.CHG_VLINK_MIN_MV s < o.vlink) ∧ (s.chg.kill = false) :=
  ⟨⟨50000, 50000, 1000000, 0, some 100, 48000, 0⟩, 100, charging .cc, by decide +kernel⟩

theorem witness_ChargerCommandsAndCycle_9 : ∃ (s : State),
    (s.chg.expiry = true ∧ s.sys.inReset = false) ∧ (s.chg.st = .trickle ∨ s.chg.st = .precharge ∨ s.chg.st = .cc) :=
  ⟨{ charging .cc with chg := { (charging .cc).chg with expiry := true } }, by decide +kernel⟩

theorem witness_ChargerCommandsAndCycle_10 : ∃ (s : State),
    (s.chg.expiry = false) :=
  ⟨linkUp, by decide +kernel⟩

theorem witness_ChargerCommandsAndCycle_11 : ∃ (s : State),
    (s.chg.st = .cv ∧ 600 ≤ s.chg.termCount) :=
  ⟨{ charging .cv with chg := { (charging .cv).chg with termCount := 600 } }, by decide +kernel⟩

theorem witness_ChargerCommandsAndCycle_12 : ∃ (s : State),
    (s.chg.termCount < 600) :=
  ⟨charging .cv, by decide +kernel⟩

theorem witness_ChargerCommandsAndCycle_13 : ∃ (v : Nat) (s : State),
    (chgRuns s = true ∧ s.chg.st = .done ∧ vrla s = false) ∧ (v < vRechg s * cells s) :=
  ⟨53599, { linkUp with chg := { linkUp.chg with st := .done, newCycle := false } }, by decide +kernel⟩

theorem witness_ChargerCommandsAndCycle_14 : ∃ (v : Nat) (s : State),
    (vRechg s * cells s ≤ v) :=
  ⟨53600, linkUp, by decide +kernel⟩

theorem witness_ChargerAbsenceAndFloat_1 : ∃ (s : State),
    (pn Pid.CHG_BATPRES s ≠ 0xFF) ∧ (chgRuns s = true ∧ s.chg.st = .cc) ∧ (swf {} s.eic.src = true) :=
  ⟨setPv Pid.CHG_BATPRES 0 3 { charging .cc with chg := { (charging .cc).chg with cycle := some .cc } }, by decide +kernel⟩

theorem witness_ChargerAbsenceAndFloat_2 : ∃ (s : State),
    (pn Pid.CHG_BATPRES s = 0xFF) :=
  ⟨linkUp, by decide +kernel⟩

theorem witness_ChargerAbsenceAndFloat_3 : ∃ (v : Nat) (s : State),
    (vOv s * cells s ≤ v) ∧ (chgRuns s = true ∧ s.chg.st = .cc) ∧ (swf {} s.eic.src = true) :=
  ⟨60000, charging .cc, by decide +kernel⟩

theorem witness_ChargerAbsenceAndFloat_4 : ∃ (v : Nat) (s : State),
    (v < vOv s * cells s) :=
  ⟨59999, charging .cc, by decide +kernel⟩

theorem witness_ChargerAbsenceAndFloat_5 : ∃ (v _sec : Nat) (s : State),
    (chgRuns s = true ∧ s.chg.st = .batteryAbsent ∧ s.chg.absLatch = false) ∧ (vPresent s * cells s ≤ v ∧ v < (vOv s - vHyst s) * cells
      s) ∧ (s.chg.tmoPhase = 0 ∧ s.chg.offFlag = false ∧ disDemand s = false) :=
  ⟨16000, 5, { linkUp with chg := { linkUp.chg with st := .batteryAbsent, kill := true, tmrCc := 9 } }, by decide +kernel⟩

theorem witness_ChargerAbsenceAndFloat_6 : ∃ (v _sec : Nat) (s : State),
    ((s.chg.st ≠ .batteryAbsent ∧ s.chg.kill = false) ∨ (s.chg.st = .batteryAbsent ∧ s.chg.absLatch = true) ∨ v < vPresent s * cells s) :=
  ⟨15999, 5, { linkUp with chg := { linkUp.chg with st := .batteryAbsent } }, by decide +kernel⟩

theorem witness_ChargerAbsenceAndFloat_7 : ∃ (v _sec : Nat) (s : State),
    (chgRuns s = true ∧ s.chg.st = .off ∧ s.chg.kill = true ∧ s.chg.pwm = false ∧ disDemand s = false ∧ s.est.probe = none) ∧ (vPresent s
      * cells s ≤ v ∧ v < (vOv s - vHyst s) * cells s) :=
  ⟨16000, 5, { linkUp with chg := { linkUp.chg with st := .off, kill := true } }, by decide +kernel⟩

theorem witness_ChargerAbsenceAndFloat_8 : ∃ (i : Int) (s : State),
    (chgRuns s = true ∧ s.chg.st = .float ∧ s.heddle.safeHold = false) ∧ ((if pn Pid.CHG_I_REBULK_MA s = 0 then (rdivN (pn
      Pid.CHG_CAP_MAH s) 10 : Int) else (pn Pid.CHG_I_REBULK_MA s : Int)) ≤ i) :=
  ⟨500000, { linkUp with chg := { linkUp.chg with st := .float } }, by decide +kernel⟩

theorem witness_ChargerAbsenceAndFloat_9 : ∃ (s : State),
    (vrla s = true) ∧ (s.chg.st = .float) :=
  ⟨setPv Pid.CHG_CHEM 0 1 { linkUp with chg := { linkUp.chg with st := .float, floatMv := 30000 } }, by decide +kernel⟩

theorem witness_DispatcherAndCurrentLimits_1 : ∃ (c : Fin 12) (i : Nat) (k : Fin 24) (before after : List (Nat × Fin 24)) (_mv vlink : Nat) (s : State),
    let x := s.pwr.vr[c]
    (x.st = .regulate ∧ x.vinLow = false ∧ s.sys.regStopped = false) ∧ (x.uvOn = false ∨ x.curLimit = false) ∧ (rotationFrom c s = before
      ++ (i, k) :: after) ∧ (∀ j ∈ before, s.pwr.ph[j.2].onTaps ≠ none ∨ s.pwr.ph[j.2].minOff = true) ∧ (∀ j ∈ rotation c s,
      s.pwr.ph[j].imon ≤ (pn (Pid.VR_IVAL_MA c.val) s : Int) ∧ s.pwr.ph[j].peak = false) ∧ (s.pwr.ph[k].onTaps = none ∧
      s.pwr.ph[k].minOff = false) :=
  ⟨0, 1, 1, [(0, 0)], [], 5000, 48000, withPhase 0 (fun x => { x with minOff := true }) (chan0 .regulate), by decide +kernel⟩

theorem witness_DispatcherAndCurrentLimits_2 : ∃ (c : Fin 12) (_mv _vlink : Nat) (s : State),
    let x := s.pwr.vr[c]
    (x.st = .regulate ∧ x.vinLow = false ∧ x.uvOn = false ∧ s.sys.regStopped = false) ∧ (∀ j ∈ rotation c s, s.pwr.ph[j].onTaps ≠ none) :=
  ⟨0, 5000, 48000, withPhase 0 (fun x => { x with onTaps := some 5 }) (withPhase 1 (fun x => { x with onTaps := some 5 }) (chan0 .regulate)), by decide +kernel⟩

theorem witness_DispatcherAndCurrentLimits_3 : ∃ (c : Fin 12) (_im : List (Fin 24 × Int)) (_mv _vlink : Nat) (s : State),
    (s.pwr.vr[c].vinLow = true) :=
  ⟨0, [], 5000, 3000, withChan (fun x => { x with vinLow := true }) (chan0 .regulate), by decide +kernel⟩

theorem witness_DispatcherAndCurrentLimits_4 : ∃ (k : Fin 24) (n : Nat) (s : State),
    (s.pwr.ph[k].onTaps = some n) :=
  ⟨0, 5, withPhase 0 (fun x => { x with onTaps := some 5 }) (chan0 .regulate), by decide +kernel⟩

theorem witness_DispatcherAndCurrentLimits_5 : ∃ (k : Fin 24) (s : State),
    (s.pwr.ph[k].onTaps = none) :=
  ⟨0, chan0 .regulate, by decide +kernel⟩

theorem witness_DispatcherAndCurrentLimits_6 : ∃ (c : Fin 12) (k : Fin 24) (s : State),
    let x := s.pwr.vr[c]
    (chanOf k s = some c ∧ k ∈ rotation c s) ∧ (x.heldTrip = true ∧ x.st = .regulate ∧ x.vinLow = false ∧ s.sys.regStopped = false) ∧
      (s.pwr.ph[k].onTaps = none) :=
  ⟨0, 0, withChan (fun x => { x with heldTrip := true }) (chan0 .regulate), by decide +kernel⟩

theorem witness_DispatcherAndCurrentLimits_7 : ∃ (c : Fin 12) (k : Fin 24) (s : State),
    (chanOf k s = some c ∧ s.pwr.vr[c].heldTrip = false) :=
  ⟨0, 0, withPhase 0 (fun x => { x with minOff := true }) (chan0 .regulate), by decide +kernel⟩

theorem witness_DispatcherAndCurrentLimits_8 : ∃ (c : Fin 12) (k : Fin 24) (n : Nat) (ma : Int) (s : State),
    (chanOf k s = some c ∧ s.pwr.ph[k].onTaps = some n) ∧ (s.pwr.vr[c].uvOn = false ∨ s.pwr.vr[c].vinLow = true) ∧ ((pn (Pid.VR_IPK_MA
      c.val) s : Int) ≤ ma) :=
  ⟨0, 0, 5, 100000, withPhase 0 (fun x => { x with onTaps := some 5 }) (chan0 .regulate), by decide +kernel⟩

theorem witness_DispatcherAndCurrentLimits_9 : ∃ (c : Fin 12) (k : Fin 24) (ma : Int) (s : State),
    (chanOf k s = some c) ∧ (ma < (pn (Pid.VR_IPK_MA c.val) s : Int) ∨ s.pwr.ph[k].onTaps = none) :=
  ⟨0, 0, 5, chan0 .regulate, by decide +kernel⟩

theorem witness_DispatcherAndCurrentLimits_10 : ∃ (c : Fin 12) (k : Fin 24) (ma : Int) (s : State),
    (chanOf k s = some c ∧ s.pwr.ph[k].onTaps = none ∧ s.pwr.ph[k].level = .low) ∧ (ma ≤ -(if s.pwr.vr[c].st = .softstart then 0 else (pn
      (Pid.VR_INEG_MA c.val) s : Int))) :=
  ⟨0, 0, 0, chan0 .softstart, by decide +kernel⟩

theorem witness_DispatcherAndCurrentLimits_11 : ∃ (c : Fin 12) (s : State),
    (∀ k ∈ rotation c s, s.pwr.ph[k].valley = false ∧ s.pwr.ph[k].peak = false) :=
  ⟨0, withChan (fun x => { x with curLimit := true }) (chan0 .regulate), by decide +kernel⟩

theorem witness_DispatcherAndCurrentLimits_12 : ∃ (c : Fin 12) (k : Fin 24) (s : State),
    (k ∈ rotation c s ∧ s.pwr.ph[k].valley = true) :=
  ⟨0, 0, withPhase 0 (fun x => { x with valley := true }) (chan0 .regulate), by decide +kernel⟩

theorem witness_DispatcherAndCurrentLimits_13 : ∃ (c : Fin 12) (s : State),
    (s.pwr.vr[c].curLimit = true ∧ s.sys.inReset = false) :=
  ⟨0, withChan (fun x => { x with curLimit := true }) (chan0 .regulate), by decide +kernel⟩

theorem witness_DispatcherAndCurrentLimits_14 : ∃ (c : Fin 12) (l : List (Fin 24 × Int)) (s : State),
    (servedNow c s = true ∧ s.pwr.vr[c].st = .regulate) ∧ (l ≠ [] ∧ (l.map (fun e => e.1)).Nodup) ∧ (∀ e ∈ l, e.1 ∈ rotation c s ∧ -1200
      ≤ s.pwr.ph[e.1].trim ∧ s.pwr.ph[e.1].trim ≤ 1200) :=
  ⟨0, [(0, 2000), (1, 1000)], chan0 .regulate, by decide +kernel⟩

theorem witness_DispatcherAndCurrentLimits_15 : ∃ (c : Fin 12) (k : Fin 24) (ma : Int) (_mv _vlink : Nat) (s : State),
    let x := s.pwr.vr[c]
    (x.st = .regulate ∧ x.vinLow = false ∧ x.uvOn = false ∧ s.sys.regStopped = false) ∧ (k ∈ rotation c s) ∧ ((pn (Pid.VR_IVAL_MA c.val)
      s : Int) < ma) :=
  ⟨0, 0, 30000, 5000, 48000, chan0 .regulate, by decide +kernel⟩

theorem witness_ChannelProtection_1 : ∃ (c : Fin 12) (a : OvTrip) (s : State),
    let x := s.pwr.vr[c]
    let mv := if x.senseOpen = true ∨ pn (Pid.VR_SNS_MODE c.val) s = 1 then a.near else max a.remote a.near
    (x.st = .regulate ∧ x.ovOn = false ∧ s.sys.regStopped = false ∧ s.sys.inReset = false) ∧ (a.co ≠ .disable) ∧ (winTop c s * (100 + pn
      (Pid.VR_OV_PCT c.val) s) ≤ mv * 100) ∧ (railGroup (.vr c) s = none) :=
  ⟨0, ⟨10000, 5000, .alone⟩, chan0 .regulate, by decide +kernel⟩

theorem witness_ChannelProtection_2 : ∃ (c : Fin 12) (a : OvTrip) (s : State),
    (s.pwr.vr[c].st = .off ∨ (s.pwr.vr[c].st = .latchedOff ∧ a.co ≠ .trip) ∨ s.pwr.vr[c].ovOn = true) :=
  ⟨0, ⟨10000, 5000, .alone⟩, chan0 .off, by decide +kernel⟩

theorem witness_ChannelProtection_3 : ∃ (c : Fin 12) (a : UvTrip) (s : State),
    let x := s.pwr.vr[c]
    (x.st = .regulate ∧ x.uvOn = false ∧ (x.curLimit = false ∨ x.vinLow = true) ∧ s.sys.regStopped = false ∧ s.sys.inReset = false) ∧
      (x.vinLow = true ∨ a.mv * 100 < winBottom c s * (100 - pn (Pid.VR_UV_PCT c.val) s)) ∧ (a.co ≠ .disable ∧ railGroup (.vr c) s =
      none) :=
  ⟨0, ⟨1000, .alone⟩, chan0 .regulate, by decide +kernel⟩

theorem witness_ChannelProtection_4 : ∃ (c : Fin 12) (a : UvTrip) (s : State),
    let x := s.pwr.vr[c]
    (x.st = .regulate ∧ x.curLimit = true ∧ x.vinLow = false ∧ s.sys.regStopped = false ∧ s.sys.inReset = false) ∧ (a.mv * 100 <
      winBottom c s * (100 - pn (Pid.VR_UV_PCT c.val) s)) ∧ (a.co ≠ .disable ∧ railGroup (.vr c) s = none) :=
  ⟨0, ⟨1000, .alone⟩, withChan (fun x => { x with curLimit := true }) (chan0 .regulate), by decide +kernel⟩

theorem witness_ChannelProtection_5 : ∃ (c : Fin 12) (mv : Nat) (s : State),
    let x := s.pwr.vr[c]
    (x.uvOn = true) ∧ (winBottom c s * (102 - pn (Pid.VR_UV_PCT c.val) s) ≤ mv * 100) :=
  ⟨0, 5000, withChan (fun x => { x with uvOn := true }) (chan0 .regulate), by decide +kernel⟩

theorem witness_ChannelProtection_6 : ∃ (c : Fin 12) (_mv : Nat) (s : State),
    (s.pwr.vr[c].uvOn = false) :=
  ⟨0, 5000, chan0 .regulate, by decide +kernel⟩

theorem witness_ChannelProtection_7 : ∃ (a : ShortTrip) (s : State),
    let c := a.c
    let x := s.pwr.vr[c]
    ((x.st = .softstart ∨ x.st = .regulate ∨ x.st = .degraded) ∧ 8 ≤ x.shortTrips) ∧ (x.vinLow = false ∧ s.sys.inReset = false) ∧ (a.co ≠
      .disable ∧ railGroup (.vr c) s = none) :=
  ⟨⟨0, .alone⟩, withChan (fun x => { x with shortTrips := 8 }) (chan0 .softstart), by decide +kernel⟩

theorem witness_ChannelProtection_8 : ∃ (a : ShortTrip) (s : State),
    let x := s.pwr.vr[a.c]
    ((x.st = .softstart ∨ x.st = .regulate ∨ x.st = .degraded) ∧ 8 ≤ x.shortTrips) ∧ (a.co = .disable ∧ s.sys.inReset = false) :=
  ⟨⟨0, .disable⟩, withChan (fun x => { x with shortTrips := 8 }) (chan0 .regulate), by decide +kernel⟩

theorem witness_ChannelProtection_9 : ∃ (a : ShortTrip) (s : State),
    (s.pwr.vr[a.c].shortTrips < 8 ∧ s.pwr.vr[a.c].st ≠ .discharge) :=
  ⟨⟨0, .alone⟩, withChan (fun x => { x with shortTrips := 7 }) (chan0 .softstart), by decide +kernel⟩

theorem witness_ChannelProtection_10 : ∃ (c : Fin 12) (s : State),
    let m := pn (Pid.VR_HICCUP_MAX c.val) s
    (s.pwr.vr[c].st = .hiccup) ∧ (m = 0 ∨ s.pwr.vr[c].hiccups ≤ m) :=
  ⟨0, chan0 .hiccup, by decide +kernel⟩

theorem witness_ChannelProtection_11 : ∃ (c : Fin 12) (s : State),
    let m := pn (Pid.VR_HICCUP_MAX c.val) s
    (s.pwr.vr[c].st = .hiccup) ∧ (m ≠ 0 ∧ m < s.pwr.vr[c].hiccups) ∧ (s.sys.inReset = false ∧ railGroup (.vr c) s = none) :=
  ⟨0, setPv (Pid.VR_HICCUP_MAX 0) 0 3 (withChan (fun x => { x with hiccups := 4 }) (chan0 .hiccup)), by decide +kernel⟩

theorem witness_ChannelProtection_12 : ∃ (c : Fin 12) (s : State),
    (s.pwr.vr[c].st = .regulate ∨ s.pwr.vr[c].st = .degraded) :=
  ⟨0, withChan (fun x => { x with hiccups := 4 }) (chan0 .regulate), by decide +kernel⟩

theorem witness_ChannelProtection_13 : ∃ (c : Fin 12) (v : Nat) (s : State),
    let x := s.pwr.vr[c]
    ((x.st = .softstart ∨ x.st = .regulate ∨ x.st = .degraded ∨ (x.st = .discharge ∧ pn (Pid.VR_DISCH c.val) s = 1)) ∧ x.vinLow = false ∧
      s.sys.regStopped = false ∧ s.sys.inReset = false) ∧ (v < pn (Pid.VR_VIN_MIN_MV c.val) s) :=
  ⟨0, 1000, chan0 .regulate, by decide +kernel⟩

theorem witness_ChannelProtection_14 : ∃ (c : Fin 12) (v : Nat) (s : State),
    let x := s.pwr.vr[c]
    ((x.st = .softstart ∨ x.st = .regulate ∨ x.st = .degraded) ∧ x.vinLow = true) ∧ (pn (Pid.VR_VIN_MIN_MV c.val) s + 1000 ≤ v) :=
  ⟨0, 48000, withChan (fun x => { x with vinLow := true }) (chan0 .regulate), by decide +kernel⟩

theorem witness_ChannelProtection_15 : ∃ (c : Fin 12) (v : Nat) (s : State),
    let x := s.pwr.vr[c]
    (x.st = .discharge ∧ x.vinLow = true) ∧ (pn (Pid.VR_VIN_MIN_MV c.val) s + 1000 ≤ v) :=
  ⟨0, 48000, withChan (fun x => { x with vinLow := true }) (setPv (Pid.VR_DISCH 0) 0 1 (chan0 .discharge)), by decide +kernel⟩

theorem witness_ChannelProtection_16 : ∃ (c : Fin 12) (v : Nat) (s : State),
    (s.pwr.vr[c].vinLow = false ∨ v < pn (Pid.VR_VIN_MIN_MV c.val) s + 1000) :=
  ⟨0, 48000, chan0 .regulate, by decide +kernel⟩

theorem witness_ChannelProtection_17 : ∃ (c : Fin 12) (v : SensePins) (s : State),
    let x := s.pwr.vr[c]
    let div := pn (Pid.VR_DIV c.val) s
    let remote := (v.snsUv - 10 * pn (Pid.VR_RTH_OHM c.val) s) * div
    let near := v.locUv * pn (Pid.VR_DIV_LOC c.val) s - chanMa c s * pn (Pid.VR_RDIST_UOHM c.val) s
    (x.st = .regulate ∧ x.senseOpen = false ∧ pn (Pid.VR_SNS_MODE c.val) s = 0 ∧ s.sys.regStopped = false ∧ s.sys.inReset = false) ∧
      (150000 * div < (near - remote).natAbs) :=
  ⟨0, ⟨4000000, 5000000⟩, chan0 .regulate, by decide +kernel⟩

theorem witness_ChannelProtection_18 : ∃ (c : Fin 12) (v : SensePins) (s : State),
    (s.pwr.vr[c].senseOpen = false) ∧ ((senseDelta c v s).natAbs ≤ 150000 * pn (Pid.VR_DIV c.val) s) :=
  ⟨0, ⟨0, 0⟩, chan0 .regulate, by decide +kernel⟩

theorem witness_ChannelProtection_19 : ∃ (c : Fin 12) (_v : SensePins) (s : State),
    let x := s.pwr.vr[c]
    (x.st = .regulate ∨ x.st = .degraded) ∧ (x.senseOpen = true ∧ pn (Pid.VR_SNS_MODE c.val) s = 0 ∧ s.sys.regStopped = false) :=
  ⟨0, ⟨0, 0⟩, withChan (fun x => { x with senseOpen := true }) (chan0 .degraded), by decide +kernel⟩

theorem witness_SoftStartDischargeAndSlew_1 : ∃ (c : Fin 12) (s : State),
    let x := s.pwr.vr[c]
    (x.st = .softstart ∧ x.vinLow = false) :=
  ⟨0, chan0 .softstart, by decide +kernel⟩

theorem witness_SoftStartDischargeAndSlew_2 : ∃ (n : Fin 8) (s : State),
    (s.pwr.ldo[n].st = .softstart) :=
  ⟨0, withLdo (fun x => { x with st := .softstart }) up, by decide +kernel⟩

theorem witness_SoftStartDischargeAndSlew_3 : ∃ (c : Fin 12) (mv : Nat) (s : State),
    (s.pwr.vr[c].st = .discharge) ∧ (mv * 100 < pn (Pid.VR_OFF_PCT c.val) s * targetMv c (noteOut (.vr c, mv) s)) ∧ (s.sys.rstnLong =
      false ∧ s.sys.dieStopping = false) :=
  ⟨0, 10, chan0 .discharge, by decide +kernel⟩

theorem witness_SoftStartDischargeAndSlew_4 : ∃ (n : Fin 8) (mv : Nat) (s : State),
    (s.pwr.ldo[n].st = .discharge) ∧ (mv * 10 < pn (Pid.LDO_VOUT_MV n.val) s) ∧ (s.sys.rstnLong = false ∧ s.sys.dieStopping = false) :=
  ⟨0, 1, withLdo (fun x => { x with st := .discharge }) up, by decide +kernel⟩

theorem witness_SoftStartDischargeAndSlew_5 : ∃ (c : Fin 12) (s : State),
    (s.pwr.vr[c].st = .discharge) ∧ (s.sys.rstnLong = false ∧ s.sys.dieStopping = false ∧ s.sys.inReset = false) :=
  ⟨0, chan0 .discharge, by decide +kernel⟩

theorem witness_SoftStartDischargeAndSlew_6 : ∃ (n : Fin 8) (s : State),
    (s.pwr.ldo[n].st = .discharge) ∧ (s.sys.rstnLong = false ∧ s.sys.dieStopping = false) :=
  ⟨0, withLdo (fun x => { x with st := .discharge }) up, by decide +kernel⟩

theorem witness_SoftStartDischargeAndSlew_7 : ∃ (n : Fin 16) (s : State),
    (s.pwr.en[n].st = .discharge) ∧ (s.sys.rstnLong = false ∧ s.sys.dieStopping = false) :=
  ⟨0, withEn (fun x => { x with st := .discharge }) up, by decide +kernel⟩

theorem witness_SoftStartDischargeAndSlew_8 : ∃ (n : Fin 16) (m : Fin 32) (s : State),
    (enMon n s = some m ∧ s.pwr.en[n].st = .discharge) ∧ (s.sys.rstnLong = false ∧ s.sys.dieStopping = false) :=
  ⟨0, 0, setPv (Pid.EN_MON 0) 0 0 (withEn (fun x => { x with st := .discharge }) up), by decide +kernel⟩

theorem witness_SoftStartDischargeAndSlew_9 : ∃ (_m : Fin 32) (s : State),
    (s.sys.rstnLong = false ∧ s.sys.dieStopping = false) :=
  ⟨0, up, by decide +kernel⟩

theorem witness_SoftStartDischargeAndSlew_10 : ∃ (c : Fin 12) (mv : Nat) (s : State),
    let t0 := noteOut (.vr c, mv) s
    (s.pwr.vr[c].enableHeld = true ∧ vrBelowOff c mv t0 = true) ∧ (vrCanStart c s = true ∧ s.sys.regStopped = false ∧ thermHeld (.vr c) s
      = false) :=
  ⟨0, 10, withChan (fun x => { x with enableHeld := true }) (chan0 .discharge), by decide +kernel⟩

theorem witness_SoftStartDischargeAndSlew_11 : ∃ (n : Fin 16) (_mv : Nat) (s : State),
    (s.pwr.en[n].enableHeld = true ∧ enBelowOff n s = true) ∧ (s.sys.regStopped = false ∧ thermHeld (.en n) s = false) :=
  ⟨0, 10, withEn (fun x => { x with enableHeld := true }) up, by decide +kernel⟩

theorem witness_SoftStartDischargeAndSlew_12 : ∃ (r : Rail) (_mv : Nat) (s : State),
    (railHeld r s = false) :=
  ⟨.ldo 0, 10, up, by decide +kernel⟩

theorem witness_SoftStartDischargeAndSlew_13 : ∃ (n : Fin 8) (mv : Nat) (s : State),
    (s.pwr.ldo[n].enableHeld = true ∧ mv * 10 < pn (Pid.LDO_VOUT_MV n.val) s) ∧ (s.sys.regStopped = false ∧ thermHeld (.ldo n) s = false) :=
  ⟨0, 10, withLdo (fun x => { x with enableHeld := true }) up, by decide +kernel⟩

theorem witness_SoftStartDischargeAndSlew_14 : ∃ (c : Fin 12) (v : Nat) (s : State),
    let x := s.pwr.vr[c]
    (x.st = .discharge ∧ pn (Pid.VR_DISCH c.val) s = 1 ∧ x.disSusp = false) ∧ (pn Pid.VR_DIS_VLINK_MAX_MV s ≤ v) :=
  ⟨0, 75000, setPv (Pid.VR_DISCH 0) 0 1 (chan0 .discharge), by decide +kernel⟩

theorem witness_SoftStartDischargeAndSlew_15 : ∃ (c : Fin 12) (v : Nat) (s : State),
    let x := s.pwr.vr[c]
    (x.st = .discharge ∧ pn (Pid.VR_DISCH c.val) s = 1 ∧ x.disSusp = true) ∧ (v + 1000 < pn Pid.VR_DIS_VLINK_MAX_MV s) :=
  ⟨0, 1000, setPv (Pid.VR_DISCH 0) 0 1 (withChan (fun x => { x with disSusp := true }) (chan0 .discharge)), by decide +kernel⟩

theorem witness_SoftStartDischargeAndSlew_16 : ∃ (c : Fin 12) (s : State),
    let x := s.pwr.vr[c]
    (x.slewing = true) :=
  ⟨0, withChan (fun x => { x with slewing := true, margined := true }) (chan0 .regulate), by decide +kernel⟩

theorem witness_SoftStartDischargeAndSlew_17 : ∃ (c : Fin 12) (s : State),
    (s.pwr.vr[c].slewing = false) :=
  ⟨0, chan0 .regulate, by decide +kernel⟩

theorem witness_SoftStartDischargeAndSlew_18 : ∃ (c : Fin 12) (_mv : Nat) (s : State),
    let x := s.pwr.vr[c]
    ((x.st = .regulate ∨ x.st = .degraded) ∧ s.sys.regStopped = false) :=
  ⟨0, 5000, chan0 .regulate, by decide +kernel⟩

theorem witness_SoftStartDischargeAndSlew_19 : ∃ (c : Fin 12) (s : State),
    let x := s.pwr.vr[c]
    (x.wide ≠ none ∧ x.slewing = false) :=
  ⟨0, setPv (Pid.MON_RAIL 0) 0 0 (withMon (fun x => { x with widened := true }) (withChan (fun x => { x with wide := some (5000, 5100) }) (chan0 .regulate))), by decide +kernel⟩

theorem witness_SoftStartDischargeAndSlew_20 : ∃ (c : Fin 12) (s : State),
    (s.pwr.vr[c].wide = none ∨ s.pwr.vr[c].slewing = true) :=
  ⟨0, chan0 .regulate, by decide +kernel⟩

theorem witness_PhaseLossHealthAndLdo_1 : ∃ (c : Fin 12) (k : Fin 24) (r : LossReport) (s : State),
    let x := s.pwr.vr[c]
    (chanOf k s = some c ∧ s.pwr.ph[k].st = .member) ∧ (x.st = .regulate ∧ x.takeover = false ∧ s.sys.regStopped = false ∧ s.sys.inReset
      = false) ∧ (lossFound c k r.what s ≠ 0) ∧ (∃ j, vrSpare c s = some j ∧ j ≠ k ∧ s.pwr.ph[j].st = .standby) :=
  ⟨0, 0, ⟨.imon 3000, false⟩, chan0 .regulate, by decide +kernel⟩

theorem witness_PhaseLossHealthAndLdo_2 : ∃ (c : Fin 12) (k : Fin 24) (mv : Nat) (_same : Bool) (s : State),
    let x := s.pwr.vr[c]
    (chanOf k s = some c ∧ s.pwr.ph[k].st = .member ∧ k ∈ vrMembers c s) ∧ (x.st = .regulate ∧ x.takeover = false ∧ s.sys.regStopped =
      false ∧ s.sys.inReset = false) ∧ (mv < 100 ∨ 2900 < mv) ∧ (vrSpare c s = none) ∧ (pn (Pid.VR_MIN_PH c.val) s + 1 ≤ activeNow c s) :=
  ⟨0, 0, 99, false, setPv Pid.VR_ASSIGN 0 3 (chan0 .regulate), by decide +kernel⟩

theorem witness_PhaseLossHealthAndLdo_3 : ∃ (c : Fin 12) (k : Fin 24) (mv : Nat) (_same : Bool) (s : State),
    let x := s.pwr.vr[c]
    (chanOf k s = some c ∧ s.pwr.ph[k].st = .member ∧ k ∈ vrMembers c s) ∧ (x.st = .regulate ∧ x.takeover = false ∧ s.sys.regStopped =
      false ∧ s.sys.inReset = false) ∧ (mv < 100 ∨ 2900 < mv) ∧ (vrSpare c s = none ∧ railGroup (.vr c) s = none) ∧ (activeNow c s ≤ pn
      (Pid.VR_MIN_PH c.val) s) :=
  ⟨0, 0, 2901, false, setPv (Pid.VR_MIN_PH 0) 0 2 (setPv Pid.VR_ASSIGN 0 3 (chan0 .regulate)), by decide +kernel⟩

theorem witness_PhaseLossHealthAndLdo_4 : ∃ (k : Fin 24) (_r : LossReport) (s : State),
    (s.pwr.ph[k].st = .unused ∨ s.pwr.ph[k].st = .standby) :=
  ⟨2, ⟨.imon 3000, false⟩, chan0 .regulate, by decide +kernel⟩

theorem witness_PhaseLossHealthAndLdo_5 : ∃ (c : Fin 12) (k : Fin 24) (_mv : Nat) (_same : Bool) (s : State),
    let x := s.pwr.ph[k]
    (chanOf k s = some c ∧ x.st = .dropped ∧ s.sys.regStopped = false) :=
  ⟨0, 0, 1500, false, withPhase 0 (fun x => { x with st := .dropped, imonOk := false }) (chan0 .degraded), by decide +kernel⟩

theorem witness_PhaseLossHealthAndLdo_6 : ∃ (c : Fin 12) (k : Fin 24) (s : State),
    let x := s.pwr.vr[c]
    (vrSpare c s = some k ∧ chanOf k s = some c ∧ s.pwr.ph[k].st = .standby) ∧ (x.takeover = true ∧ x.st = .regulate ∧ s.sys.inReset =
      false) :=
  ⟨0, 2, withChan (fun x => { x with takeover := true }) (chan0 .regulate), by decide +kernel⟩

theorem witness_PhaseLossHealthAndLdo_7 : ∃ (c : Fin 12) (s : State),
    (s.pwr.vr[c].takeover = false) :=
  ⟨0, chan0 .regulate, by decide +kernel⟩

theorem witness_PhaseLossHealthAndLdo_8 : ∃ (c : Fin 12) (k : Fin 24) (mv : Nat) (s : State),
    let x := s.pwr.vr[c]
    (chanOf k s = some c ∧ s.pwr.ph[k].st = .standby ∧ x.takeover = false ∧ s.sys.regStopped = false ∧ s.sys.inReset = false) ∧ (81 <
      ((mv : Int) - pn (Pid.PH_IMON_REF_MV k.val) s).natAbs) ∧ (x.st = .off ∨ (x.st ≠ .discharge ∧ pn (Pid.VR_MIN_PH c.val) s ≤ activeNow
      c s)) :=
  ⟨0, 2, 5000, chan0 .regulate, by decide +kernel⟩

theorem witness_PhaseLossHealthAndLdo_9 : ∃ (k : Fin 24) (mv : Nat) (s : State),
    (((mv : Int) - pn (Pid.PH_IMON_REF_MV k.val) s).natAbs ≤ 81 ∧ s.pwr.ph[k].st ≠ .dropped) :=
  ⟨2, 1200, setPv (Pid.PH_IMON_REF_MV 2) 0 1200 (chan0 .regulate), by decide +kernel⟩

theorem witness_PhaseLossHealthAndLdo_10 : ∃ (c : Fin 12) (k : Fin 24) (m : HealthMeasure) (s : State),
    let x := s.pwr.vr[c]
    (chanOf k s = some c ∧ k ∈ rotation c s ∧ pn (Pid.VR_HEALTH_S c.val) s ≠ 0 ∧ servedNow c s = true) ∧ ((x.st = .regulate ∨ x.st =
      .degraded) ∧ x.slewing = false) ∧ ((3 * (activeNow c s * pn (Pid.VR_IVAL_MA c.val) s) : Int) ≤ 10 * chanMa c (onPh k (fun y => { y
      with imon := m.avgMa }) s)) :=
  ⟨0, 0, ⟨48000, 5000, 200, 2000, 3000, 60000⟩, setPv (Pid.VR_HEALTH_S 0) 0 5 (chan0 .regulate), by decide +kernel⟩

theorem witness_PhaseLossHealthAndLdo_11 : ∃ (n : Fin 8) (mv : Nat) (s : State),
    (s.pwr.ldo[n].st = .regulate ∧ s.sys.regStopped = false ∧ s.sys.inReset = false) ∧ (mv * 10 < 9 * pn (Pid.LDO_VOUT_MV n.val) s) ∧
      (railGroup (.ldo n) s = none) :=
  ⟨0, 100, withLdo (fun x => { x with st := .regulate }) up, by decide +kernel⟩

theorem witness_PhaseLossHealthAndLdo_12 : ∃ (n : Fin 8) (s : State),
    ((s.pwr.ldo[n].st = .softstart ∨ s.pwr.ldo[n].st = .regulate) ∧ s.sys.inReset = false) :=
  ⟨0, withLdo (fun x => { x with st := .regulate }) up, by decide +kernel⟩

theorem witness_PhaseLossHealthAndLdo_13 : ∃ (n : Fin 8) (s : State),
    (s.pwr.ldo[n].st = .off ∨ s.pwr.ldo[n].st = .discharge ∨ s.pwr.ldo[n].st = .latchedOff) :=
  ⟨0, up, by decide +kernel⟩

theorem witness_RailCommands_1 : ∃ (p : Port) (tag : Tag) (x : Slot) (s : State),
    (Admitted 0x401 p tag x s) ∧ (CqRoom p s) ∧ (railOf (bitsOf (x.word 1) 0 8) = none) :=
  ⟨.spia, 7, slotW 0x401 [0x0C], adm 0x401 [0x0C] up, by decide +kernel⟩

theorem witness_RailCommands_2 : ∃ (p : Port) (tag : Tag) (x : Slot) (s : State),
    (Admitted 0x402 p tag x s) ∧ (CqRoom p s) ∧ (railOf (bitsOf (x.word 1) 0 8) = none) :=
  ⟨.spia, 7, slotW 0x402 [0x40], adm 0x402 [0x40] up, by decide +kernel⟩

theorem witness_RailCommands_3 : ∃ (r : Rail) (p : Port) (tag : Tag) (x : Slot) (c : CmdRef) (s : State),
    (Admitted 0x401 p tag x s) ∧ (railOf (bitsOf (x.word 1) 0 8) = some r) ∧ ({ rail := r, cmd := some c } ∈ s.pwr.railWaits) :=
  ⟨.ldo 0, .spia, 7, slotW 0x401 [0x10], { port := .spib, tag := 9 }, { adm 0x401 [0x10] up with pwr := { up.pwr with railWaits := [{ rail := .ldo 0, cmd := some { port := .spib, tag := 9 } }] } }, by decide +kernel⟩

theorem witness_RailCommands_4 : ∃ (r : Rail) (p : Port) (tag : Tag) (x : Slot) (s : State),
    (Admitted 0x401 p tag x s) ∧ (CqRoom p s) ∧ (railOf (bitsOf (x.word 1) 0 8) = some r ∧ (∀ w ∈ s.pwr.railWaits, w.rail = r → w.cmd =
      none)) ∧ ((∃ g, railGroup r s = some g ∧ s.pwr.grp[g].st ≠ .up ∧ s.pwr.grp[g].st ≠ .partialUp) ∨ thermHeld r s = true ∨
      s.sys.regStopped = true ∨ (∃ n, r = .ldo n ∧ s.pwr.ldo[n].st = .latchedOff) ∨ (∃ c, r = .vr c ∧ ¬ ChanOnOpen c s)) :=
  ⟨.ldo 0, .spia, 7, slotW 0x401 [0x10], adm 0x401 [0x10] (withLdo (fun x => { x with st := .latchedOff }) up), by decide +kernel⟩

theorem witness_RailCommands_5 : ∃ (r : Rail) (p : Port) (tag : Tag) (x : Slot) (s : State),
    (Admitted 0x401 p tag x s) ∧ (CqRoom p s) ∧ (railOf (bitsOf (x.word 1) 0 8) = some r ∧ RailOnOpen r s ∧ railUp r s = true) ∧ ((∀ n, r
      = .ldo n → s.pwr.ldo[n].st ≠ .latchedOff) ∧ (∀ c, r = .vr c → ChanOnOpen c s)) :=
  ⟨.ldo 0, .spia, 7, slotW 0x401 [0x10], adm 0x401 [0x10] (withLdo (fun x => { x with st := .regulate }) up), by decide +kernel⟩

theorem witness_RailCommands_6 : ∃ (r : Rail) (p : Port) (tag : Tag) (x : Slot) (s : State),
    (Admitted 0x401 p tag x s) ∧ (railOf (bitsOf (x.word 1) 0 8) = some r ∧ RailOnOpen r s ∧ railUp r s = false ∧ railEnabled r s = true)
      ∧ ((∀ n, r = .ldo n → s.pwr.ldo[n].st ≠ .latchedOff) ∧ (∀ c, r = .vr c → ChanOnOpen c s)) :=
  ⟨.ldo 0, .spia, 7, slotW 0x401 [0x10], adm 0x401 [0x10] (withLdo (fun x => { x with st := .softstart }) up), by decide +kernel⟩

theorem witness_RailCommands_7 : ∃ (n : Fin 8) (p : Port) (tag : Tag) (x : Slot) (s : State),
    (Admitted 0x401 p tag x s) ∧ (bitsOf (x.word 1) 0 8 = 0x10 + n.val) ∧ ((s.pwr.ldo[n].st = .off ∨ s.pwr.ldo[n].st = .discharge) ∧
      RailOnOpen (.ldo n) s) ∧ (s.pwr.ldo[n].outMv * 10 < pn (Pid.LDO_VOUT_MV n.val) s) :=
  ⟨0, .spia, 7, slotW 0x401 [0x10], adm 0x401 [0x10] up, by decide +kernel⟩

theorem witness_RailCommands_8 : ∃ (n : Fin 8) (p : Port) (tag : Tag) (x : Slot) (s : State),
    (Admitted 0x401 p tag x s) ∧ (bitsOf (x.word 1) 0 8 = 0x10 + n.val) ∧ ((s.pwr.ldo[n].st = .off ∨ s.pwr.ldo[n].st = .discharge) ∧
      RailOnOpen (.ldo n) s) ∧ (pn (Pid.LDO_VOUT_MV n.val) s ≤ s.pwr.ldo[n].outMv * 10) :=
  ⟨0, .spia, 7, slotW 0x401 [0x10], adm 0x401 [0x10] (withLdo (fun x => { x with st := .discharge, outMv := 1500 }) up), by decide +kernel⟩

theorem witness_RailCommands_9 : ∃ (n : Fin 16) (p : Port) (tag : Tag) (x : Slot) (s : State),
    (Admitted 0x401 p tag x s) ∧ (CqRoom p s) ∧ (bitsOf (x.word 1) 0 8 = 0x20 + n.val ∧ RailOnOpen (.en n) s) ∧ (s.pwr.en[n].st ≠ .on ∧
      (enBelowOff n s = true ∨ (s.pwr.en[n].st = .off ∧ s.pwr.en[n].disabledAt = 0)) ∧ (∀ m, enMon n s = some m → s.pwr.mon[m].uv =
      false) ∧ railOnWaiters (.en n) s = []) :=
  ⟨0, .spia, 7, slotW 0x401 [0x20], adm 0x401 [0x20] up, by decide +kernel⟩

theorem witness_RailCommands_10 : ∃ (n : Fin 16) (m : Fin 32) (p : Port) (tag : Tag) (x : Slot) (s : State),
    (Admitted 0x401 p tag x s) ∧ (bitsOf (x.word 1) 0 8 = 0x20 + n.val ∧ RailOnOpen (.en n) s) ∧ (s.pwr.en[n].st ≠ .on ∧ (enBelowOff n s
      = true ∨ (s.pwr.en[n].st = .off ∧ s.pwr.en[n].disabledAt = 0)) ∧ enMon n s = some m ∧ s.pwr.mon[m].uv = true) :=
  ⟨0, 0, .spia, 7, slotW 0x401 [0x20], setPv (Pid.EN_MON 0) 0 0 (adm 0x401 [0x20] (withMon (fun x => { x with uv := true }) up)), by decide +kernel⟩

theorem witness_RailCommands_11 : ∃ (n : Fin 16) (p : Port) (tag : Tag) (x : Slot) (s : State),
    (Admitted 0x401 p tag x s) ∧ (bitsOf (x.word 1) 0 8 = 0x20 + n.val ∧ RailOnOpen (.en n) s) ∧ (s.pwr.en[n].st ≠ .on ∧ enBelowOff n s =
      false ∧ (s.pwr.en[n].st = .discharge ∨ s.pwr.en[n].disabledAt ≠ 0)) :=
  ⟨0, .spia, 7, slotW 0x401 [0x20], adm 0x401 [0x20] (withEn (fun x => { x with st := .discharge }) up), by decide +kernel⟩

theorem witness_RailCommands_12 : ∃ (c : Fin 12) (p : Port) (tag : Tag) (x : Slot) (s : State),
    (Admitted 0x401 p tag x s) ∧ (bitsOf (x.word 1) 0 8 = c.val ∧ RailOnOpen (.vr c) s ∧ ChanOnOpen c s) ∧ (s.pwr.vr[c].st = .off ∨
      s.pwr.vr[c].st = .discharge) ∧ (vrBelowOff c s.pwr.vr[c].outMv s = true ∨ pb (Pid.VR_PREBIAS c.val) s = true) :=
  ⟨0, .spia, 7, slotW 0x401 [0], adm 0x401 [0] (withChan (fun x => { x with setMv := 0, refMv := 0, outMv := 0 }) (chan0 .off)), by decide +kernel⟩

theorem witness_RailCommands_13 : ∃ (c : Fin 12) (p : Port) (tag : Tag) (x : Slot) (s : State),
    (Admitted 0x401 p tag x s) ∧ (bitsOf (x.word 1) 0 8 = c.val ∧ RailOnOpen (.vr c) s ∧ ChanOnOpen c s) ∧ (s.pwr.vr[c].st = .off ∨
      s.pwr.vr[c].st = .discharge) ∧ (vrBelowOff c s.pwr.vr[c].outMv s = false ∧ pb (Pid.VR_PREBIAS c.val) s = false) :=
  ⟨0, .spia, 7, slotW 0x401 [0], adm 0x401 [0] (chan0 .off), by decide +kernel⟩

theorem witness_RailCommands_14 : ∃ (r : Rail) (p : Port) (tag : Tag) (x : Slot) (s : State),
    (Admitted 0x402 p tag x s) ∧ (CqRoom p s) ∧ (railOf (bitsOf (x.word 1) 0 8) = some r ∧ railOnsBefore r x s = []) ∧ (∀ g, railGroup r
      s = some g → s.pwr.grp[g].st ≠ .up ∧ s.pwr.grp[g].st ≠ .upRun ∧ s.pwr.grp[g].st ≠ .backoff) ∧ (railOff r s = true ∧ railEnabled r s
      = false) :=
  ⟨.ldo 0, .spia, 7, slotW 0x402 [0x10], adm 0x402 [0x10] up, by decide +kernel⟩

theorem witness_RailCommands_15 : ∃ (r : Rail) (p : Port) (tag : Tag) (x : Slot) (s : State),
    (Admitted 0x402 p tag x s) ∧ (CqRoom p s) ∧ (railOf (bitsOf (x.word 1) 0 8) = some r ∧ railOnsBefore r x s = []) ∧ (∀ g, railGroup r
      s = some g → s.pwr.grp[g].st ≠ .up ∧ s.pwr.grp[g].st ≠ .upRun ∧ s.pwr.grp[g].st ≠ .backoff) ∧ (railOff r s = true ∧ railEnabled r s
      = true ∧ (∀ c, r ≠ .vr c)) :=
  ⟨.ldo 0, .spia, 7, slotW 0x402 [0x10], adm 0x402 [0x10] (withLdo (fun x => { x with st := .softstart }) up), by decide +kernel⟩

theorem witness_RailCommands_16 : ∃ (r : Rail) (p : Port) (tag : Tag) (x : Slot) (s : State),
    (Admitted 0x402 p tag x s) ∧ (railOf (bitsOf (x.word 1) 0 8) = some r ∧ railOnsBefore r x s = []) ∧ (∀ g, railGroup r s = some g →
      s.pwr.grp[g].st ≠ .up ∧ s.pwr.grp[g].st ≠ .upRun ∧ s.pwr.grp[g].st ≠ .backoff) ∧ (railOff r s = false ∧ (∀ n m, r = .en n → enMon n
      s = some m → s.pwr.mon[m].off = false)) :=
  ⟨.ldo 0, .spia, 7, slotW 0x402 [0x10], adm 0x402 [0x10] (withLdo (fun x => { x with st := .regulate, outMv := 1800 }) up), by decide +kernel⟩

theorem witness_RailCommands_17 : ∃ (g : Fin 8) (r : Rail) (p : Port) (tag : Tag) (x : Slot) (s : State),
    (Admitted 0x402 p tag x s) ∧ (railOf (bitsOf (x.word 1) 0 8) = some r ∧ railOnsBefore r x s = [] ∧ railGroup r s = some g ∧ railOff r
      s = false) ∧ (s.pwr.grp[g].st = .up ∧ s.sys.inReset = false) :=
  ⟨0, .en 0, .spia, 7, slotW 0x402 [0x20], adm 0x402 [0x20] (withGrp (fun x => { x with st := .up }) (withEn (fun x => { x with st := .on }) (withGroup up))), by decide +kernel⟩

theorem witness_RailCommands_18 : ∃ (g : Fin 8) (r : Rail) (p : Port) (tag : Tag) (x : Slot) (s : State),
    (Admitted 0x402 p tag x s) ∧ (railOf (bitsOf (x.word 1) 0 8) = some r ∧ railOnsBefore r x s = [] ∧ railGroup r s = some g) ∧
      (s.pwr.grp[g].st = .upRun ∧ s.sys.inReset = false) :=
  ⟨0, .en 0, .spia, 7, slotW 0x402 [0x20], adm 0x402 [0x20] (withGrp (fun x => { x with st := .upRun }) (withEn (fun x => { x with st := .on }) (withGroup up))), by decide +kernel⟩

theorem witness_RailCommands_19 : ∃ (r : Rail) (p q : Port) (tag : Tag) (x y : Slot) (s : State),
    (Admitted 0x402 p tag x s) ∧ (CqRoom q s) ∧ (q ≠ p ∧ s.hif.slots = [y, x] ∧ findSlot q y.tag s = some y) ∧ (railOf (bitsOf (x.word 1)
      0 8) = some r ∧ bitsOf (y.word 1) 0 8 = railCode r ∧ y.op = 0x401) ∧ (railGroup r s = none) :=
  ⟨.ldo 0, .spia, .spib, 7, slotW 0x402 [0x10], { slotW 0x401 [0x10] with port := .spib, status := .running }, twoSlots { slotW 0x401 [0x10] with port := .spib, status := .running } (adm 0x402 [0x10] up), by decide +kernel⟩

theorem witness_RailCommands_20 : ∃ (p : Port) (tag : Tag) (x : Slot) (s : State),
    (findSlot p tag s = some x ∧ x.op = 0x401 ∧ x.status = .running) ∧ (CqRoom p s) :=
  ⟨.spia, 7, { slotW 0x401 [0x10] with status := .running }, runningNow 0x401 [0x10] up, by decide +kernel⟩

theorem witness_RailCommands_21 : ∃ (p : Port) (tag : Tag) (s : State),
    (findSlot p tag s = none) :=
  ⟨.spib, 3, up, by decide +kernel⟩

theorem witness_RailCommands_22 : ∃ (r : Rail) (p : Port) (x : Slot) (s : State),
    (railHeld r s = true ∧ railOnWaiters r s = [{ port := p, tag := x.tag }] ∧ findSlot p x.tag s = some x) ∧ (CqRoom p s) ∧ (∀ g : Fin
      8, s.pwr.grp[g].st = .upRun → s.pwr.grp[g].stepAt = none ∨ (stepAt s.pwr.grp[g].step s).enables ≠ some r) :=
  ⟨.ldo 0, .spia, { slotW 0x401 [0x10] with status := .running }, withLdo (fun x => { x with st := .discharge, enableHeld := true }) (runningNow 0x401 [0x10] up), by decide +kernel⟩

theorem witness_RailCommands_23 : ∃ (g : Fin 8) (r : Rail) (s : State),
    let x := s.pwr.grp[g]
    (railHeld r s = true ∧ railOnWaiters r s = [] ∧ s.sys.inReset = false) ∧ (x.st = .upRun ∧ x.stepAt.isSome = true ∧ (stepAt x.step
      s).enables = some r ∧ (∀ h : Fin 8, h < g → s.pwr.grp[h].st ≠ .upRun)) :=
  ⟨0, .en 0, withGrp (fun x => { x with st := .upRun, stepAt := some 5, attempts := 1 }) (withEn (fun x => { x with st := .discharge, enableHeld := true }) (withGroup up)), by decide +kernel⟩

theorem witness_RailCommands_24 : ∃ (r : Rail) (s : State),
    (railHeld r s = false) :=
  ⟨.ldo 0, up, by decide +kernel⟩

theorem witness_RailCommands_25 : ∃ (r : Rail) (p : Port) (x : Slot) (s : State),
    let w : RailWait := { rail := r, cmd := some { port := p, tag := x.tag } }
    (railOff r s = false ∧ s.sys.inReset = false ∧ (∀ g, railGroup r s = some g → s.pwr.grp[g].immediate = false)) ∧ (∀ g : Fin 8,
      s.pwr.grp[g].st = .downRun ∨ s.pwr.grp[g].st = .backoff → s.pwr.grp[g].railAt = none ∨ (stepAt s.pwr.grp[g].step s).enables ≠ some
      r) ∧ (findSlot p x.tag s = some x ∧ CqRoom p s) ∧ (s.pwr.railWaits.find? (fun v => v.rail == r) = some w ∧ railOnWaiters r s = []) :=
  ⟨.ldo 0, .spia, { slotW 0x402 [0x10] with status := .running }, waitsFor (.ldo 0) (withLdo (fun x => { x with st := .discharge, outMv := 1800 }) (runningNow 0x402 [0x10] up)), by decide +kernel⟩

theorem witness_RailCommands_26 : ∃ (r : Rail) (s : State),
    (railOff r s = true) :=
  ⟨.ldo 0, up, by decide +kernel⟩

theorem witness_RailCommands_27 : ∃ (r : Rail) (s : State),
    ((∀ w ∈ s.pwr.railWaits, w.rail ≠ r) ∧ (∀ g : Fin 8, s.pwr.grp[g].st = .downRun ∨ s.pwr.grp[g].st = .backoff → s.pwr.grp[g].railAt =
      none ∨ (stepAt s.pwr.grp[g].step s).enables ≠ some r)) :=
  ⟨.ldo 0, withLdo (fun x => { x with st := .discharge, outMv := 1800 }) up, by decide +kernel⟩

theorem witness_GroupCommandsAndMargins_1 : ∃ (p : Port) (tag : Tag) (x : Slot) (s : State),
    (Admitted 0x410 p tag x s) ∧ (CqRoom p s) ∧ (7 < bitsOf (x.word 1) 0 8) :=
  ⟨.spia, 7, slotW 0x410 [8], adm 0x410 [8] up, by decide +kernel⟩

theorem witness_GroupCommandsAndMargins_2 : ∃ (p : Port) (tag : Tag) (x : Slot) (s : State),
    (Admitted 0x411 p tag x s) ∧ (CqRoom p s) ∧ (7 < bitsOf (x.word 1) 0 8 ∧ bitsOf (x.word 1) 0 8 ≠ 0xFF) :=
  ⟨.spia, 7, slotW 0x411 [0xFE], adm 0x411 [0xFE] up, by decide +kernel⟩

theorem witness_GroupCommandsAndMargins_3 : ∃ (g : Fin 8) (op : Nat) (p : Port) (tag : Tag) (x : Slot) (s : State),
    (op = 0x410 ∨ op = 0x411) ∧ (Admitted op p tag x s) ∧ (CqRoom p s) ∧ (bitsOf (x.word 1) 0 8 = g.val) ∧ (groupEn g s = false) :=
  ⟨1, 0x411, .spia, 7, slotW 0x411 [1], adm 0x411 [1] up, by decide +kernel⟩

theorem witness_GroupCommandsAndMargins_4 : ∃ (g : Fin 8) (p : Port) (tag : Tag) (x : Slot) (s : State),
    let y := s.pwr.grp[g]
    (Admitted 0x410 p tag x s) ∧ (bitsOf (x.word 1) 0 8 = g.val ∧ groupEn g s = true ∧ s.sys.inReset = false) ∧ (y.st = .down ∨ y.st =
      .partialUp ∨ y.st = .failed ∨ y.st = .interrupted) :=
  ⟨0, .spia, 7, slotW 0x410 [0], adm 0x410 [0] (withGroup up), by decide +kernel⟩

theorem witness_GroupCommandsAndMargins_5 : ∃ (g : Fin 8) (p : Port) (tag : Tag) (x : Slot) (s : State),
    let y := s.pwr.grp[g]
    (Admitted 0x410 p tag x s) ∧ (bitsOf (x.word 1) 0 8 = g.val ∧ groupEn g s = true) ∧ (y.st = .upRun ∨ y.st = .backoff) :=
  ⟨0, .spia, 7, slotW 0x410 [0], adm 0x410 [0] (withGrp (fun x => { x with st := .backoff }) (withGroup up)), by decide +kernel⟩

theorem witness_GroupCommandsAndMargins_6 : ∃ (g : Fin 8) (p : Port) (tag : Tag) (x : Slot) (s : State),
    let y := s.pwr.grp[g]
    (Admitted 0x410 p tag x s) ∧ (bitsOf (x.word 1) 0 8 = g.val ∧ groupEn g s = true ∧ y.st = .downRun) :=
  ⟨0, .spia, 7, slotW 0x410 [0], adm 0x410 [0] (withGrp (fun x => { x with st := .downRun }) (withGroup up)), by decide +kernel⟩

theorem witness_GroupCommandsAndMargins_7 : ∃ (g : Fin 8) (p : Port) (tag : Tag) (x : Slot) (s : State),
    let y := s.pwr.grp[g]
    (Admitted 0x410 p tag x s) ∧ (CqRoom p s) ∧ (bitsOf (x.word 1) 0 8 = g.val ∧ groupEn g s = true ∧ y.st = .up) :=
  ⟨0, .spia, 7, slotW 0x410 [0], adm 0x410 [0] (withGrp (fun x => { x with st := .up, attempts := 2 }) (withGroup up)), by decide +kernel⟩

theorem witness_GroupCommandsAndMargins_8 : ∃ (g : Fin 8) (p : Port) (tag : Tag) (x : Slot) (s : State),
    (Admitted 0x410 p tag x s) ∧ (CqRoom p s) ∧ (bitsOf (x.word 1) 0 8 = g.val ∧ groupEn g s = true ∧ s.pwr.grp[g].st = .halted) :=
  ⟨0, .spia, 7, slotW 0x410 [0], adm 0x410 [0] (withGrp (fun x => { x with st := .halted }) (withGroup up)), by decide +kernel⟩

theorem witness_GroupCommandsAndMargins_9 : ∃ (g : Fin 8) (p : Port) (tag : Tag) (x : Slot) (s : State),
    (Admitted 0x411 p tag x s) ∧ (CqRoom p s) ∧ (bitsOf (x.word 1) 0 8 = g.val ∧ groupEn g s = true ∧ s.pwr.grp[g].st = .down) :=
  ⟨0, .spia, 7, slotW 0x411 [0], adm 0x411 [0] (withGroup up), by decide +kernel⟩

theorem witness_GroupCommandsAndMargins_10 : ∃ (g : Fin 8) (p : Port) (tag : Tag) (x : Slot) (s : State),
    let y := s.pwr.grp[g]
    (Admitted 0x411 p tag x s) ∧ (bitsOf (x.word 1) 0 8 = g.val ∧ groupEn g s = true ∧ s.sys.inReset = false) ∧ (y.st = .up ∨ y.st =
      .partialUp ∨ y.st = .interrupted) :=
  ⟨0, .spia, 7, slotW 0x411 [0], adm 0x411 [0] (withGrp (fun x => { x with st := .up }) (withGroup up)), by decide +kernel⟩

theorem witness_GroupCommandsAndMargins_11 : ∃ (g : Fin 8) (p q : Port) (tag : Tag) (x y : Slot) (s : State),
    let z := s.pwr.grp[g]
    (Admitted 0x411 p tag x s) ∧ (CqRoom q s) ∧ (bitsOf (x.word 1) 0 8 = g.val ∧ groupEn g s = true ∧ s.sys.inReset = false) ∧ (q ≠ p ∧
      findSlot q y.tag s = some y ∧ z.upCmds = [{ port := q, tag := y.tag }] ∧ z.heldUp = none) ∧ (z.st = .upRun ∧ (∀ r, (stepAt z.step
      s).enables = some r → railHeld r s = false)) :=
  ⟨0, .spia, .spib, 7, slotW 0x411 [0], { slotW 0x410 [0] with port := .spib, status := .running }, withGrp (fun x => { x with st := .upRun, upCmds := [{ port := .spib, tag := 7 }] }) (twoSlots { slotW 0x410 [0] with port := .spib, status := .running } (adm 0x411 [0] (withGroup up))), by decide +kernel⟩

theorem witness_GroupCommandsAndMargins_12 : ∃ (g : Fin 8) (p : Port) (tag : Tag) (x : Slot) (s : State),
    let y := s.pwr.grp[g]
    (Admitted 0x411 p tag x s) ∧ (bitsOf (x.word 1) 0 8 = g.val ∧ groupEn g s = true ∧ s.sys.inReset = false) ∧ (y.st = .upRun) :=
  ⟨0, .spia, 7, slotW 0x411 [0], adm 0x411 [0] (withGrp (fun x => { x with st := .upRun, upCmds := [{ port := .spib, tag := 9 }] }) (withGroup up)), by decide +kernel⟩

theorem witness_GroupCommandsAndMargins_13 : ∃ (g : Fin 8) (p : Port) (tag : Tag) (x : Slot) (s : State),
    let y := s.pwr.grp[g]
    (Admitted 0x411 p tag x s) ∧ (bitsOf (x.word 1) 0 8 = g.val ∧ groupEn g s = true) ∧ (y.st = .downRun ∧ y.upCmds = [] ∧ y.heldUp =
      none) :=
  ⟨0, .spia, 7, slotW 0x411 [0], adm 0x411 [0] (withGrp (fun x => { x with st := .downRun, after := .cycle }) (withGroup up)), by decide +kernel⟩

theorem witness_GroupCommandsAndMargins_14 : ∃ (g : Fin 8) (p : Port) (tag : Tag) (x : Slot) (s : State),
    let y := s.pwr.grp[g]
    (Admitted 0x411 p tag x s) ∧ (CqRoom p s) ∧ (bitsOf (x.word 1) 0 8 = g.val ∧ groupEn g s = true ∧ s.sys.inReset = false) ∧ (y.st =
      .backoff ∧ y.backoffWait = true ∧ y.upCmds = [] ∧ y.heldUp = none ∧ y.downCmds = []) :=
  ⟨0, .spia, 7, slotW 0x411 [0], adm 0x411 [0] (withGrp (fun x => { x with st := .backoff, backoffWait := true }) (withGroup up)), by decide +kernel⟩

theorem witness_GroupCommandsAndMargins_15 : ∃ (g : Fin 8) (p : Port) (tag : Tag) (x : Slot) (s : State),
    let y := s.pwr.grp[g]
    (Admitted 0x411 p tag x s) ∧ (bitsOf (x.word 1) 0 8 = g.val ∧ groupEn g s = true) ∧ (y.st = .backoff ∧ y.backoffWait = false) :=
  ⟨0, .spia, 7, slotW 0x411 [0], adm 0x411 [0] (withGrp (fun x => { x with st := .backoff }) (withGroup up)), by decide +kernel⟩

theorem witness_GroupCommandsAndMargins_16 : ∃ (g : Fin 8) (p : Port) (tag : Tag) (x : Slot) (s : State),
    let y := s.pwr.grp[g]
    (Admitted 0x411 p tag x s) ∧ (bitsOf (x.word 1) 0 8 = g.val ∧ groupEn g s = true) ∧ (y.st = .downRun) :=
  ⟨0, .spia, 7, slotW 0x411 [0], adm 0x411 [0] (withGrp (fun x => { x with st := .downRun, heldUp := some [] }) (withGroup up)), by decide +kernel⟩

theorem witness_GroupCommandsAndMargins_17 : ∃ (g : Fin 8) (p : Port) (tag : Tag) (x : Slot) (s : State),
    let y := s.pwr.grp[g]
    (Admitted 0x411 p tag x s) ∧ (CqRoom p s) ∧ (bitsOf (x.word 1) 0 8 = g.val ∧ groupEn g s = true ∧ s.sys.inReset = false) ∧ (y.st =
      .failed ∧ y.downCmds = [] ∧ y.heldUp = none) :=
  ⟨0, .spia, 7, slotW 0x411 [0], adm 0x411 [0] (withGrp (fun x => { x with st := .failed }) (withGroup up)), by decide +kernel⟩

theorem witness_GroupCommandsAndMargins_18 : ∃ (g : Fin 8) (p : Port) (tag : Tag) (x : Slot) (s : State),
    let y := s.pwr.grp[g]
    (Admitted 0x411 p tag x s) ∧ (bitsOf (x.word 1) 0 8 = g.val ∧ groupEn g s = true ∧ s.sys.inReset = false ∧ y.st = .halted) :=
  ⟨0, .spia, 7, slotW 0x411 [0], adm 0x411 [0] (withGrp (fun x => { x with st := .halted }) (withGroup up)), by decide +kernel⟩

theorem witness_GroupCommandsAndMargins_19 : ∃ (p : Port) (tag : Tag) (x : Slot) (s : State),
    (Admitted 0x411 p tag x s) ∧ (CqRoom p s) ∧ (bitsOf (x.word 1) 0 8 = 0xFF) ∧ (s.pwr.allDown = [] ∧ s.pwr.allDownDone = [] ∧
      s.pwr.allDownCmds = [] ∧ (∀ g : Fin 8, s.pwr.grp[g].st = .down)) :=
  ⟨.spia, 7, slotW 0x411 [0xFF], adm 0x411 [0xFF] (allGroups .down up), by decide +kernel⟩

theorem witness_GroupCommandsAndMargins_20 : ∃ (p : Port) (tag : Tag) (x : Slot) (s : State),
    (Admitted 0x411 p tag x s) ∧ (bitsOf (x.word 1) 0 8 = 0xFF ∧ (s.pwr.allDown ≠ [] ∨ s.pwr.allDownDone ≠ [])) :=
  ⟨.spia, 7, slotW 0x411 [0xFF], { adm 0x411 [0xFF] up with pwr := { up.pwr with allDownDone := [0] } }, by decide +kernel⟩

theorem witness_GroupCommandsAndMargins_21 : ∃ (g : Fin 8) (l : List (Fin 8)) (p : Port) (tag : Tag) (x : Slot) (s : State),
    (Admitted 0x411 p tag x s) ∧ (bitsOf (x.word 1) 0 8 = 0xFF ∧ s.pwr.allDown = [] ∧ s.pwr.allDownDone = [] ∧ s.sys.inReset = false) ∧
      (((seqOrder s).filter (fun h => s.pwr.grp[h].st ≠ .down)).reverse = g :: l) ∧ (s.pwr.grp[g].st = .up ∨ s.pwr.grp[g].st =
      .partialUp) :=
  ⟨0, [], .spia, 7, slotW 0x411 [0xFF], adm 0x411 [0xFF] (withGrp (fun x => { x with st := .up }) (withGroup up)), by decide +kernel⟩

theorem witness_GroupCommandsAndMargins_22 : ∃ (p : Port) (tag : Tag) (x : Slot) (s : State),
    (Admitted 0x420 p tag x s) ∧ (CqRoom p s) ∧ ((s.sys.mode ≠ .test ∧ pb Pid.SEQ_MARGIN_ALLOW s = false) ∨ (∃ c : Fin 12, bitsOf (x.word
      1) 0 8 = c.val ∧ (vrMembers c s = [] ∨ linkedPort c s ≠ none))) :=
  ⟨.spia, 7, slotW 0x420 [0x20], adm 0x420 [0x20] up, by decide +kernel⟩

theorem witness_GroupCommandsAndMargins_23 : ∃ (p : Port) (tag : Tag) (x : Slot) (s : State),
    let m := ((x.word 1).extractLsb' 16 16).toInt
    (Admitted 0x420 p tag x s) ∧ (CqRoom p s) ∧ (s.sys.mode = .test ∨ pb Pid.SEQ_MARGIN_ALLOW s = true) ∧ (12 ≤ bitsOf (x.word 1) 0 8 ∨
      (∃ c : Fin 12, bitsOf (x.word 1) 0 8 = c.val ∧ vrMembers c s ≠ [] ∧ linkedPort c s = none ∧ pn Pid.SEQ_MARGIN_LIM s < m.natAbs)) :=
  ⟨.spia, 7, slotW 0x420 [0x290000], adm 0x420 [0x290000] (inMode .test (chan0 .regulate)), by decide +kernel⟩

theorem witness_GroupCommandsAndMargins_24 : ∃ (c : Fin 12) (p : Port) (tag : Tag) (x : Slot) (s : State),
    let m := ((x.word 1).extractLsb' 16 16).toInt
    (Admitted 0x420 p tag x s) ∧ (CqRoom p s) ∧ (s.sys.mode = .test ∨ pb Pid.SEQ_MARGIN_ALLOW s = true) ∧ (bitsOf (x.word 1) 0 8 = c.val
      ∧ vrMembers c s ≠ [] ∧ linkedPort c s = none ∧ m.natAbs ≤ pn Pid.SEQ_MARGIN_LIM s) :=
  ⟨0, .spia, 7, slotW 0x420 [0xFFEC0000], adm 0x420 [0xFFEC0000] (inMode .test (chan0 .regulate)), by decide +kernel⟩

theorem witness_StepEngine_1 : ∃ (g : Fin 8) (n : Fin 16) (s : State),
    let x := s.pwr.grp[g]
    (x.st = .upRun ∧ x.stepAt = none ∧ (stepAt x.step s).enables = some (.en n) ∧ s.sys.inReset = false) ∧ ((∀ h, h ≠ g → GroupIdle h s)
      ∧ s.pwr.railWaits = [] ∧ s.pwr.autoQueue = []) ∧ (s.pwr.allDown = [] ∧ s.pwr.allDownDone = [] ∧ s.pwr.allDownCmds = []) ∧
      (s.pwr.en[n].st = .off ∧ enMon n s = none ∧ thermHeld (.en n) s = false ∧ s.sys.regStopped = false) :=
  ⟨0, 0, withGrp (fun x => { x with st := .upRun }) (withGroup (allGroups .down up)), by decide +kernel⟩

theorem witness_StepEngine_2 : ∃ (g : Fin 8) (s : State),
    let x := s.pwr.grp[g]
    (x.st = .upRun ∧ x.stepAt.isSome = true ∧ x.waitOver = true ∧ lastStep g s ≤ x.step ∧ s.sys.inReset = false) ∧ ((∀ h, h ≠ g →
      GroupIdle h s) ∧ s.pwr.railWaits = [] ∧ s.pwr.autoQueue = [] ∧ x.upCmds = []) ∧ (s.pwr.allDown = [] ∧ s.pwr.allDownDone = [] ∧
      s.pwr.allDownCmds = []) :=
  ⟨0, withGrp (fun x => { x with st := .upRun, stepAt := some 5, waitOver := true }) (withGroup (allGroups .down up)), by decide +kernel⟩

theorem witness_StepEngine_3 : ∃ (g : Fin 8) (p : Port) (y : Slot) (s : State),
    let x := s.pwr.grp[g]
    (x.st = .upRun ∧ x.stepAt.isSome = true ∧ x.waitOver = true ∧ lastStep g s ≤ x.step ∧ s.sys.inReset = false) ∧ ((∀ h, h ≠ g →
      GroupIdle h s) ∧ s.pwr.railWaits = [] ∧ s.pwr.autoQueue = []) ∧ (x.upCmds = [{ port := p, tag := y.tag }] ∧ s.hif.slots = [y] ∧
      findSlot p y.tag s = some y) ∧ (CqRoom p s) ∧ (s.pwr.allDown = [] ∧ s.pwr.allDownDone = [] ∧ s.pwr.allDownCmds = []) :=
  ⟨0, .spia, { slotW 0x410 [0] with status := .running }, withGrp (fun x => { x with st := .upRun, stepAt := some 5, waitOver := true, attempts := 2, upCmds := [{ port := .spia, tag := 7 }] }) (withGroup (allGroups .down (runningNow 0x410 [0] up))), by decide +kernel⟩

theorem witness_StepEngine_4 : ∃ (g : Fin 8) (n : Fin 16) (s : State),
    let x := s.pwr.grp[g]
    (x.st = .downRun ∧ x.immediate = false ∧ x.backoffWait = false ∧ x.stepAt = none ∧ x.railAt = none ∧ s.sys.inReset = false) ∧
      ((stepAt x.step s).enables = some (.en n) ∧ groupFirst g s ≤ x.step ∧ x.step ≤ lastStep g s ∧ 0 < groupCount g s) ∧ ((∀ h, h ≠ g →
      GroupIdle h s) ∧ s.pwr.railWaits = [] ∧ s.pwr.autoQueue = []) ∧ (s.pwr.allDown = [] ∧ s.pwr.allDownDone = [] ∧ s.pwr.allDownCmds =
      []) ∧ (s.pwr.en[n].st = .on ∧ enMon n s = none) :=
  ⟨0, 0, withGrp (fun x => { x with st := .downRun }) (withEn (fun x => { x with st := .on }) (withGroup (allGroups .down up))), by decide +kernel⟩

theorem witness_StepEngine_5 : ∃ (g : Fin 8) (r : Rail) (s : State),
    let x := s.pwr.grp[g]
    (x.st = .downRun ∧ x.immediate = false ∧ x.backoffWait = false ∧ x.waitOver = false ∧ x.railAt.isSome = true ∧ s.sys.inReset = false)
      ∧ ((stepAt x.step s).enables = some r ∧ railOff r s = true ∧ x.step = groupFirst g s ∧ x.after = .toDown) ∧ ((∀ h, h ≠ g →
      GroupIdle h s) ∧ s.pwr.railWaits = [] ∧ s.pwr.autoQueue = [] ∧ x.downCmds = [] ∧ x.heldUp = none) ∧ (s.pwr.allDown = [] ∧
      s.pwr.allDownDone = [] ∧ s.pwr.allDownCmds = []) :=
  ⟨0, .en 0, withGrp (fun x => { x with st := .downRun, railAt := some 3 }) (withGroup (allGroups .down up)), by decide +kernel⟩

theorem witness_StepEngine_6 : ∃ (g : Fin 8) (s : State),
    (s.pwr.grp[g].st = .partialUp ∧ (∀ r ∈ groupRails g s, railUp r s = true) ∧ s.sys.inReset = false) ∧ ((∀ h, h ≠ g → GroupIdle h s) ∧
      s.pwr.railWaits = [] ∧ s.pwr.autoQueue = []) ∧ (s.pwr.allDown = [] ∧ s.pwr.allDownDone = [] ∧ s.pwr.allDownCmds = []) :=
  ⟨0, withGrp (fun x => { x with st := .partialUp }) (withEn (fun x => { x with st := .on }) (withGroup (allGroups .down up))), by decide +kernel⟩

theorem witness_StepEngine_7 : ∃ (_n : Fin 8) (_mv : Nat) (s : State),
    (∀ h : Fin 8, GroupIdle h s) ∧ (s.pwr.railWaits = [] ∧ s.pwr.autoQueue = [] ∧ s.pwr.allDown = [] ∧ s.pwr.allDownDone = [] ∧
      s.pwr.allDownCmds = []) :=
  ⟨0, 1800, up, by decide +kernel⟩

theorem witness_StepEngine_8 : ∃ (g : Fin 8) (n : Fin 8) (s : State),
    let x := s.pwr.grp[g]
    (x.st = .upRun ∧ x.stepAt = none ∧ (stepAt x.step s).enables = some (.ldo n) ∧ s.sys.inReset = false) ∧ ((∀ h, h ≠ g → GroupIdle h s)
      ∧ s.pwr.railWaits = [] ∧ s.pwr.autoQueue = []) ∧ (s.pwr.allDown = [] ∧ s.pwr.allDownDone = [] ∧ s.pwr.allDownCmds = []) ∧
      (s.pwr.ldo[n].st = .off ∧ thermHeld (.ldo n) s = false ∧ s.sys.regStopped = false) :=
  ⟨0, 0, withGrp (fun x => { x with st := .upRun }) (setPv Pid.SEQ_STEPS 0 0x10100000 (withGroup up)), by decide +kernel⟩

theorem witness_StepEngine_9 : ∃ (g : Fin 8) (c : Fin 12) (s : State),
    let x := s.pwr.grp[g]
    (x.st = .upRun ∧ x.stepAt = none ∧ (stepAt x.step s).enables = some (.vr c) ∧ s.sys.inReset = false) ∧ ((∀ h, h ≠ g → GroupIdle h s)
      ∧ s.pwr.railWaits = [] ∧ s.pwr.autoQueue = []) ∧ (s.pwr.allDown = [] ∧ s.pwr.allDownDone = [] ∧ s.pwr.allDownCmds = []) ∧
      (s.pwr.vr[c].st = .off ∧ vrUsed c s = true ∧ vrCanStart c s = true ∧ thermHeld (.vr c) s = false ∧ s.sys.regStopped = false) ∧
      (vrBelowOff c s.pwr.vr[c].outMv s = true) :=
  ⟨0, 0, withGrp (fun x => { x with st := .upRun }) (setPv Pid.SEQ_STEPS 0 0x10000000 (withGroup (withChan (fun x => { x with setMv := 0, refMv := 0, outMv := 0 }) (chan0 .off)))), by decide +kernel⟩

theorem witness_StepEngine_10 : ∃ (g : Fin 8) (r : Rail) (s : State),
    let x := s.pwr.grp[g]
    (x.st = .upRun ∧ x.stepAt = none ∧ (stepAt x.step s).enables = some r ∧ s.sys.inReset = false) ∧ ((∀ h, h ≠ g → GroupIdle h s) ∧
      s.pwr.railWaits = [] ∧ s.pwr.autoQueue = []) ∧ (s.pwr.allDown = [] ∧ s.pwr.allDownDone = [] ∧ s.pwr.allDownCmds = []) ∧ (railUp r s
      = false ∧ (thermHeld r s = true ∨ s.sys.regStopped = true ∨ (∃ n, r = .ldo n ∧ s.pwr.ldo[n].st = .latchedOff) ∨ (∃ c, r = .vr c ∧
      s.pwr.vr[c].st = .latchedOff))) :=
  ⟨0, .ldo 0, withLdo (fun x => { x with st := .latchedOff }) (withGrp (fun x => { x with st := .upRun }) (setPv Pid.SEQ_STEPS 0 0x10100000 (withGroup up))), by decide +kernel⟩

theorem witness_StepEngine_11 : ∃ (g : Fin 8) (s : State),
    let x := s.pwr.grp[g]
    let w := stepAt x.step s
    (x.st = .upRun ∧ x.stepAt = none ∧ w.enables = none ∧ s.sys.inReset = false) ∧ ((∀ h, h ≠ g → GroupIdle h s) ∧ s.pwr.railWaits = [] ∧
      s.pwr.autoQueue = []) ∧ (s.pwr.allDown = [] ∧ s.pwr.allDownDone = [] ∧ s.pwr.allDownCmds = []) :=
  ⟨0, withGrp (fun x => { x with st := .upRun }) (setPv Pid.SEQ_STEPS 0 0x40500000 (withGroup up)), by decide +kernel⟩

theorem witness_StepEngine_12 : ∃ (g : Fin 8) (s : State),
    let x := s.pwr.grp[g]
    let w := stepAt x.step s
    (x.st = .upRun ∧ x.stepAt.isSome = true ∧ x.waitOver = false ∧ w.enables = none ∧ s.sys.inReset = false) ∧ ((∀ h, h ≠ g → GroupIdle h
      s) ∧ s.pwr.railWaits = [] ∧ s.pwr.autoQueue = []) ∧ (s.pwr.allDown = [] ∧ s.pwr.allDownDone = [] ∧ s.pwr.allDownCmds = []) :=
  ⟨0, withGrp (fun x => { x with st := .upRun, stepAt := some 5, evLatch := true }) (setPv Pid.SEQ_STEPS 0 0x40500000 (withGroup up)), by decide +kernel⟩

theorem witness_StepEngine_13 : ∃ (g : Fin 8) (s : State),
    let x := s.pwr.grp[g]
    let w := stepAt (x.step + 1) s
    (x.st = .upRun ∧ x.stepAt.isSome = true ∧ x.waitOver = true ∧ x.step < lastStep g s ∧ w.enables = none ∧ s.sys.inReset = false) ∧ ((∀
      h, h ≠ g → GroupIdle h s) ∧ s.pwr.railWaits = [] ∧ s.pwr.autoQueue = []) ∧ (s.pwr.allDown = [] ∧ s.pwr.allDownDone = [] ∧
      s.pwr.allDownCmds = []) :=
  ⟨0, withGrp (fun x => { x with st := .upRun, stepAt := some 5, waitOver := true }) (setPv Pid.SEQ_GROUPS 0 0xC0000200 (setPv Pid.SEQ_STEPS 1 0x30000005 (withGroup up))), by decide +kernel⟩

theorem witness_StepEngine_14 : ∃ (g : Fin 8) (r : Rail) (s : State),
    let x := s.pwr.grp[g]
    (x.st = .upRun ∧ x.stepAt.isSome = true ∧ x.waitOver = false ∧ (stepAt x.step s).enables = some r ∧ railHeld r s = true ∧
      s.sys.inReset = false) ∧ ((∀ h, h ≠ g → GroupIdle h s) ∧ s.pwr.railWaits = [] ∧ s.pwr.autoQueue = []) ∧ (s.pwr.allDown = [] ∧
      s.pwr.allDownDone = [] ∧ s.pwr.allDownCmds = []) :=
  ⟨0, .en 0, withGrp (fun x => { x with st := .upRun, stepAt := some 5 }) (withEn (fun x => { x with st := .discharge, enableHeld := true }) (withGroup up)), by decide +kernel⟩

theorem witness_StepEngine_15 : ∃ (g : Fin 8) (r : Rail) (s : State),
    let x := s.pwr.grp[g]
    (x.st = .downRun ∨ x.st = .backoff) ∧ (x.immediate = false ∧ x.backoffWait = false ∧ x.waitOver = false ∧ x.railAt.isSome = true ∧
      s.sys.inReset = false) ∧ ((stepAt x.step s).enables = some r ∧ railOff r s = false) ∧ ((∀ h, h ≠ g → GroupIdle h s) ∧
      s.pwr.railWaits = [] ∧ s.pwr.autoQueue = []) ∧ (s.pwr.allDown = [] ∧ s.pwr.allDownDone = [] ∧ s.pwr.allDownCmds = []) :=
  ⟨0, .en 0, withGrp (fun x => { x with st := .downRun, railAt := some 5 }) (withEn (fun x => { x with st := .discharge }) (withGroup up)), by decide +kernel⟩

theorem witness_StepEngine_16 : ∃ (g : Fin 8) (r : Rail) (s : State),
    let x := s.pwr.grp[g]
    (x.st = .backoff ∧ x.immediate = false ∧ x.backoffWait = false ∧ x.waitOver = false ∧ x.railAt.isSome = true ∧ s.sys.inReset = false)
      ∧ ((stepAt x.step s).enables = some r ∧ railOff r s = true ∧ x.step = groupFirst g s ∧ x.after = .retry) ∧ ((∀ h, h ≠ g → GroupIdle
      h s) ∧ s.pwr.railWaits = [] ∧ s.pwr.autoQueue = []) ∧ (s.pwr.allDown = [] ∧ s.pwr.allDownDone = [] ∧ s.pwr.allDownCmds = []) :=
  ⟨0, .en 0, withGrp (fun x => { x with st := .backoff, after := .retry, railAt := some 5 }) (withGroup up), by decide +kernel⟩

theorem witness_StepEngine_17 : ∃ (g : Fin 8) (r : Rail) (s : State),
    let x := s.pwr.grp[g]
    (x.st = .backoff ∧ x.immediate = false ∧ x.backoffWait = false ∧ x.waitOver = false ∧ x.railAt.isSome = true ∧ s.sys.inReset = false)
      ∧ ((stepAt x.step s).enables = some r ∧ railOff r s = true ∧ x.step = groupFirst g s ∧ x.after = .toFailed ∧ x.upCmds = []) ∧ ((∀
      h, h ≠ g → GroupIdle h s) ∧ s.pwr.railWaits = [] ∧ s.pwr.autoQueue = []) ∧ (s.pwr.allDown = [] ∧ s.pwr.allDownDone = [] ∧
      s.pwr.allDownCmds = []) :=
  ⟨0, .en 0, withGrp (fun x => { x with st := .backoff, after := .toFailed, railAt := some 5 }) (withGroup up), by decide +kernel⟩

theorem witness_StepEngine_18 : ∃ (g : Fin 8) (s : State),
    let x := s.pwr.grp[g]
    let w := stepAt (x.step + 1) s
    (x.st = .upRun ∧ x.stepAt.isSome = true ∧ (stepAt x.step s).action = 3 ∧ x.step < lastStep g s ∧ w.enables = none) :=
  ⟨0, withGrp (fun x => { x with st := .upRun, stepAt := some 5 }) (setPv Pid.SEQ_GROUPS 0 0xC0000200 (setPv Pid.SEQ_STEPS 0 0x30000005 (setPv Pid.SEQ_STEPS 1 0x30000005 (withGroup up)))), by decide +kernel⟩

theorem witness_StepEngine_19 : ∃ (g : Fin 8) (s : State),
    let x := s.pwr.grp[g]
    (x.st = .upRun ∧ x.stepAt.isSome = true ∧ (stepAt x.step s).action = 3 ∧ s.sys.inReset = false) ∧ (lastStep g s ≤ x.step ∧ x.upCmds =
      []) :=
  ⟨0, withGrp (fun x => { x with st := .upRun, stepAt := some 5 }) (setPv Pid.SEQ_STEPS 0 0x30000000 (withGroup up)), by decide +kernel⟩

theorem witness_StepEngine_20 : ∃ (g : Fin 8) (s : State),
    let x := s.pwr.grp[g]
    (x.stepAt = none ∨ (stepAt x.step s).action ≠ 3 ∨ (x.st ≠ .upRun ∧ x.st ≠ .downRun ∧ x.st ≠ .backoff)) :=
  ⟨0, up, by decide +kernel⟩

theorem witness_StepEngine_21 : ∃ (g : Fin 8) (s : State),
    let x := s.pwr.grp[g]
    let w := stepAt x.step s
    (x.st = .upRun ∧ x.stepAt.isSome = true ∧ x.waitOver = false ∧ s.sys.inReset = false) ∧ ((w.action = 2 ∨ w.action = 4) ∧ w.cont =
      false) :=
  ⟨0, withGrp (fun x => { x with st := .upRun, stepAt := some 5, attempts := 1 }) (setPv Pid.SEQ_STEPS 0 0x20200000 (withGroup up)), by decide +kernel⟩

theorem witness_StepEngine_22 : ∃ (g : Fin 8) (s : State),
    let x := s.pwr.grp[g]
    let w := stepAt x.step s
    (x.st = .upRun ∧ x.stepAt.isSome = true ∧ x.waitOver = false ∧ (w.action = 2 ∨ w.action = 4) ∧ w.cont = true ∧ s.sys.inReset = false) :=
  ⟨0, withGrp (fun x => { x with st := .upRun, stepAt := some 5 }) (setPv Pid.SEQ_STEPS 0 0x21200000 (withGroup up)), by decide +kernel⟩

theorem witness_StepEngine_23 : ∃ (g : Fin 8) (s : State),
    (s.pwr.grp[g].st ≠ .upRun ∨ s.pwr.grp[g].waitOver = true) :=
  ⟨0, up, by decide +kernel⟩

theorem witness_StepEngine_24 : ∃ (g : Fin 8) (s : State),
    let x := s.pwr.grp[g]
    (x.st = .backoff ∧ x.backoffWait = true ∧ s.sys.inReset = false) :=
  ⟨0, withGrp (fun x => { x with st := .backoff, backoffWait := true, attempts := 1, after := .retry }) (withGroup up), by decide +kernel⟩

theorem witness_StepEngine_25 : ∃ (g : Fin 8) (s : State),
    (s.pwr.grp[g].st ≠ .backoff ∨ s.pwr.grp[g].backoffWait = false) :=
  ⟨0, up, by decide +kernel⟩

theorem witness_StepEngine_26 : ∃ (g : Fin 8) (r : Rail) (s : State),
    let x := s.pwr.grp[g]
    ((∀ h, h ≠ g → GroupIdle h s) ∧ s.sys.inReset = false ∧ railGroup r s = some g ∧ railOff r s = false) ∧ (x.st = .downRun ∧
      x.railAt.isSome = true ∧ (stepAt x.step s).enables = some r ∧ x.stuckHalt = true ∧ x.upCmds = [] ∧ x.downCmds = [] ∧ x.heldUp =
      none) :=
  ⟨0, .en 0, withGrp (fun x => { x with st := .downRun, railAt := some 3, stuckHalt := true }) (withEn (fun x => { x with st := .discharge }) (withGroup (allGroups .down up))), by decide +kernel⟩

theorem witness_StepEngine_27 : ∃ (g : Fin 8) (r : Rail) (s : State),
    let x := s.pwr.grp[g]
    ((∀ h, h ≠ g → GroupIdle h s) ∧ s.sys.inReset = false ∧ railGroup r s = some g ∧ railOff r s = false) ∧ (x.st = .downRun ∧
      x.railAt.isSome = true ∧ (stepAt x.step s).enables = some r ∧ x.stuckHalt = false ∧ x.downCmds = [] ∧ x.heldUp = none) ∧ (x.step =
      groupFirst g s ∧ x.after = .toDown) :=
  ⟨0, .en 0, withGrp (fun x => { x with st := .downRun, railAt := some 3 }) (withEn (fun x => { x with st := .discharge }) (withGroup (allGroups .down up))), by decide +kernel⟩

theorem witness_StepEngine_28 : ∃ (g : Fin 8) (n : Fin 8) (mv : Nat) (s : State),
    let x := s.pwr.grp[g]
    (s.pwr.ldo[n].st = .regulate ∧ s.sys.regStopped = false ∧ s.sys.inReset = false ∧ s.hif.slots = []) ∧ (mv * 10 < 9 * pn
      (Pid.LDO_VOUT_MV n.val) s ∧ pn (Pid.LDO_UV_ACT n.val) s = 1) ∧ (railGroup (.ldo n) s = some g ∧ x.st = .up) :=
  ⟨0, 0, 100, withGrp (fun x => { x with st := .up }) (withLdo (fun x => { x with st := .regulate }) (setPv (Pid.LDO_UV_ACT 0) 0 1 (setPv Pid.SEQ_STEPS 0 0x10100000 (withGroup up)))), by decide +kernel⟩

theorem witness_Monitors_1 : ∃ (m : Fin 32) (mv : Nat) (s : State),
    (s.pwr.mon[m].uv = false ∧ s.pwr.mon[m].eval = false ∧ s.sys.regStopped = false) ∧ (s.pwr.mon[m].uvEn = true ∧ mv * 1000 < 2 *
      s.pwr.mon[m].uvCode * pn (Pid.MON_DIV m.val) s) ∧ (∀ n : Fin 16, enMon n s ≠ some m) :=
  ⟨0, 100, withMon (fun x => { x with uvCode := 100, uvEn := true }) (setPv (Pid.MON_DIV 0) 0 1000 up), by decide +kernel⟩

theorem witness_Monitors_2 : ∃ (m : Fin 32) (mv : Nat) (s : State),
    (s.pwr.mon[m].ov = false ∧ s.pwr.mon[m].eval = true ∧ s.sys.regStopped = false ∧ s.sys.inReset = false) ∧ (s.pwr.mon[m].ovEn = true ∧
      2 * s.pwr.mon[m].ovCode * pn (Pid.MON_DIV m.val) s ≤ mv * 1000) ∧ (pn (Pid.MON_ACT m.val) s % 8 < 2) :=
  ⟨0, 200, withMon (fun x => { x with ovCode := 100, ovEn := true, eval := true }) (setPv (Pid.MON_DIV 0) 0 1000 up), by decide +kernel⟩

theorem witness_Monitors_3 : ∃ (m : Fin 32) (g : Fin 8) (mv : Nat) (s : State),
    (s.pwr.mon[m].uv = false ∧ s.pwr.mon[m].eval = true ∧ s.sys.regStopped = false ∧ s.sys.inReset = false) ∧ (s.pwr.mon[m].uvEn = true ∧
      mv * 1000 < 2 * s.pwr.mon[m].uvCode * pn (Pid.MON_DIV m.val) s) ∧ (pn (Pid.MON_ACT m.val) s % 8 = 2 ∨ pn (Pid.MON_ACT m.val) s % 8
      = 3) ∧ (pn (Pid.MON_GROUP m.val) s = g.val ∧ groupEn g s = true ∧ s.pwr.grp[g].st = .up ∧ (∀ n : Fin 16, enMon n s ≠ some m)) :=
  ⟨0, 0, 199, setPv (Pid.MON_DIV 0) 0 1000 (setPv (Pid.MON_ACT 0) 0 2 (withGrp (fun x => { x with st := .up }) (withMon (fun x => { x with uvCode := 100, uvEn := true, eval := true }) (withGroup up)))), by decide +kernel⟩

theorem witness_Monitors_4 : ∃ (m : Fin 32) (g : Fin 8) (mv : Nat) (s : State),
    (s.pwr.mon[m].ov = false ∧ s.pwr.mon[m].eval = true ∧ s.sys.regStopped = false ∧ s.sys.inReset = false) ∧ (s.pwr.mon[m].ovEn = true ∧
      2 * s.pwr.mon[m].ovCode * pn (Pid.MON_DIV m.val) s ≤ mv * 1000) ∧ ((pn (Pid.MON_ACT m.val) s).testBit 2 = true ∧ pn (Pid.MON_GROUP
      m.val) s = g.val) ∧ (s.pwr.grp[g].st = .up ∧ s.pwr.grp[g].upCmds = [] ∧ s.pwr.grp[g].heldUp = none ∧ s.pwr.grp[g].downCmds = []) :=
  ⟨0, 0, 200, setPv (Pid.MON_DIV 0) 0 1000 (setPv (Pid.MON_ACT 0) 0 4 (withGrp (fun x => { x with st := .up }) (withMon (fun x => { x with ovCode := 100, ovEn := true, eval := true }) (withGroup up)))), by decide +kernel⟩

theorem witness_Monitors_5 : ∃ (m : Fin 32) (e : MonEdge) (s : State),
    let x := s.pwr.mon[m]
    let div := pn (Pid.MON_DIV m.val) s
    (s.sys.regStopped = true ∨ (e.side = .uv ∧ (x.uv = true ∨ x.uvEn = false ∨ 2 * x.uvCode * div ≤ e.mv * 1000)) ∨ (e.side = .ov ∧ (x.ov
      = true ∨ x.ovEn = false ∨ e.mv * 1000 < 2 * x.ovCode * div))) :=
  ⟨0, ⟨.ov, 5000⟩, up, by decide +kernel⟩

theorem witness_Monitors_6 : ∃ (m : Fin 32) (e : MonEdge) (s : State),
    let x := s.pwr.mon[m]
    let div := pn (Pid.MON_DIV m.val) s
    let h := 1000 * pn (Pid.MON_HYST_MV m.val) s
    (s.sys.regStopped = true ∨ (e.side = .uv ∧ e.mv * 1000 < 2 * x.uvCode * div + h) ∨ (e.side = .ov ∧ 2 * x.ovCode * div ≤ e.mv * 1000 +
      h)) :=
  ⟨0, ⟨.uv, 199⟩, withMon (fun x => { x with uv := true, uvCode := 100 }) (setPv (Pid.MON_DIV 0) 0 1000 up), by decide +kernel⟩

theorem witness_Monitors_7 : ∃ (m : Fin 32) (e : MonEdge) (s : State),
    let x := s.pwr.mon[m]
    let div := pn (Pid.MON_DIV m.val) s
    let h := 1000 * pn (Pid.MON_HYST_MV m.val) s
    (s.sys.regStopped = false) ∧ ((e.side = .uv ∧ 2 * x.uvCode * div + h ≤ e.mv * 1000) ∨ (e.side = .ov ∧ e.mv * 1000 + h < 2 * x.ovCode
      * div)) ∧ (∀ n : Fin 16, enMon n s = some m → railOnWaiters (.en n) s = []) :=
  ⟨0, ⟨.uv, 5000⟩, withMon (fun x => { x with uv := true, uvCode := 100 }) (setPv (Pid.MON_DIV 0) 0 1000 up), by decide +kernel⟩

theorem witness_Monitors_8 : ∃ (m : Fin 32) (n : Fin 16) (mv : Nat) (p : Port) (x : Slot) (s : State),
    ((∀ k, enMon k s = some m ↔ k = n) ∧ s.pwr.en[n].st = .on ∧ s.sys.regStopped = false) ∧ (2 * s.pwr.mon[m].uvCode * pn (Pid.MON_DIV
      m.val) s + 1000 * pn (Pid.MON_HYST_MV m.val) s ≤ mv * 1000) ∧ (railOnWaiters (.en n) s = [{ port := p, tag := x.tag }] ∧ findSlot p
      x.tag s = some x) ∧ (CqRoom p s) :=
  ⟨0, 0, 5000, .spia, { slotW 0x401 [0x20] with status := .running }, setPv (Pid.EN_MON 0) 0 0 (withMon (fun x => { x with uv := true }) (withEn (fun x => { x with st := .on }) (runningNow 0x401 [0x20] up))), by decide +kernel⟩

theorem witness_Monitors_9 : ∃ (m : Fin 32) (s : State),
    let x := s.pwr.mon[m]
    (pn (Pid.MON_RAIL m.val) s = 0xFF ∧ x.written = true ∧ x.eval = false ∧ s.sys.regStopped = false ∧ s.sys.inReset = false) ∧ (x.ov =
      false ∧ pn (Pid.MON_ACT m.val) s % 8 < 2) :=
  ⟨0, withMon (fun x => { x with uv := true, written := true }) up, by decide +kernel⟩

theorem witness_Monitors_10 : ∃ (m : Fin 32) (n : Fin 8) (s : State),
    ((pn (Pid.MON_RAIL m.val) s = 0x10 + n.val ∧ s.pwr.ldo[n].enabledAt = none) ∨ s.pwr.mon[m].written = false ∨ s.pwr.mon[m].eval =
      true) :=
  ⟨0, 0, up, by decide +kernel⟩

theorem witness_Monitors_11 : ∃ (m : Fin 32) (s : State),
    (s.sys.boot.cfgLoaded = true ∧ s.sys.inReset = false ∧ s.sys.regStopped = false) ∧ (s.pwr.mon[m].widened = false ∧ 12 ≤ pn
      (Pid.MON_RAIL m.val) s) :=
  ⟨0, setPv (Pid.MON_UV_MV 0) 0 900 up, by decide +kernel⟩

theorem witness_Monitors_12 : ∃ (m : Fin 32) (c : Fin 12) (s : State),
    (s.sys.boot.cfgLoaded = true ∧ s.sys.inReset = false ∧ s.sys.regStopped = false) ∧ (s.pwr.mon[m].widened = false ∧ pn (Pid.MON_RAIL
      m.val) s = c.val) :=
  ⟨0, 0, setPv (Pid.MON_RAIL 0) 0 0 (setPv (Pid.MON_UV_MV 0) 0 900 (withChan (fun x => { x with margin := 20 }) up)), by decide +kernel⟩

theorem witness_Monitors_13 : ∃ (_m : Fin 32) (s : State),
    (s.sys.boot.cfgLoaded = false ∨ s.sys.inReset = true ∨ s.sys.regStopped = true) :=
  ⟨0, early, by decide +kernel⟩

theorem witness_StepKeepsCaddyBalance_1 : ∃ (s t : State),
    (caddiesBalance s = true) ∧ (step s = .next t) :=
  ⟨State.reset, State.reset, by decide, rfl⟩

theorem witness_EstimatorReads_1 : ∃ (p : Port) (tag : Tag) (x : Slot) (s : State),
    (Admitted 0x501 p tag x s) ∧ (CqRoom p s) ∧ (bitsOf (x.word 1) 0 8 = 0) :=
  ⟨.spia, 7, slotW 0x501 [0], adm 0x501 [0] up, by decide +kernel⟩

theorem witness_EstimatorReads_2 : ∃ (p : Port) (tag : Tag) (x : Slot) (s : State),
    (Admitted 0x501 p tag x s) ∧ (CqRoom p s) ∧ (bitsOf (x.word 1) 0 8 = 1) :=
  ⟨.spia, 7, slotW 0x501 [1], adm 0x501 [1] up, by decide +kernel⟩

theorem witness_EstimatorReads_3 : ∃ (p : Port) (tag : Tag) (x : Slot) (s : State),
    (Admitted 0x501 p tag x s) ∧ (CqRoom p s) ∧ (bitsOf (x.word 1) 0 8 = 3) :=
  ⟨.spia, 7, slotW 0x501 [3], adm 0x501 [3] up, by decide +kernel⟩

theorem witness_EstimatorReads_4 : ∃ (p : Port) (tag : Tag) (x : Slot) (s : State),
    (Admitted 0x501 p tag x s) ∧ (CqRoom p s) ∧ (4 ≤ bitsOf (x.word 1) 0 8) :=
  ⟨.spia, 7, slotW 0x501 [4], adm 0x501 [4] up, by decide +kernel⟩

theorem witness_EstimatorReads_5 : ∃ (p : Port) (tag : Tag) (x : Slot) (s : State),
    (Admitted 0x501 p tag x s) ∧ (CqRoom p s) ∧ (bitsOf (x.word 1) 0 8 = 2 ∧ s.est.led.accIn < 18446744073709551615 ∧ s.est.led.accOut <
      18446744073709551615) :=
  ⟨.spia, 7, slotW 0x501 [2], adm 0x501 [2] up, by decide +kernel⟩

theorem witness_EstimatorReads_6 : ∃ (p : Port) (tag : Tag) (x : Slot) (e : List W) (a b : List (List W)) (s : State),
    (Admitted 0x502 p tag x s) ∧ (CqRoom p s) ∧ (newest (512 - 8 * lostPages 111 64 s) s.store.nvm.caddy.entries = a ++ e :: b ∧ (e.getD
      0 0) >>> 16 = ((x.word 1).setWidth 16).setWidth 32 ∧ (∀ f ∈ b, (f.getD 0 0) >>> 16 ≠ ((x.word 1).setWidth 16).setWidth 32)) :=
  ⟨.spia, 7, slotW 0x502 [5], [0x50001, 0, 0, 0, 0, 0, 0, 0], [], [], { adm 0x502 [5] up with store := { up.store with nvm := { up.store.nvm with caddy := { entries := [[0x50001, 0, 0, 0, 0, 0, 0, 0]], next := 6 } } } }, by decide +kernel⟩

theorem witness_EstimatorReads_7 : ∃ (p : Port) (tag : Tag) (x : Slot) (s : State),
    (Admitted 0x502 p tag x s) ∧ (CqRoom p s) ∧ (∀ e ∈ s.store.nvm.caddy.entries, (e.getD 0 0) >>> 16 ≠ ((x.word 1).setWidth 16).setWidth
      32) :=
  ⟨.spia, 7, slotW 0x502 [5], adm 0x502 [5] up, by decide +kernel⟩

theorem witness_EstimatorReads_8 : ∃ (p : Port) (tag : Tag) (x : Slot) (e : List W) (a b : List (List W)) (s : State),
    (Admitted 0x512 p tag x s) ∧ (CqRoom p s) ∧ (newest (256 - 8 * lostPages 79 32 s) s.store.nvm.test.entries = a ++ e :: b ∧ (e.getD 0
      0) >>> 16 = ((x.word 1).setWidth 16).setWidth 32 ∧ (∀ f ∈ b, (f.getD 0 0) >>> 16 ≠ ((x.word 1).setWidth 16).setWidth 32)) :=
  ⟨.spia, 7, slotW 0x512 [5], [0x51000, 0, 0, 0, 0, 0, 0, 0], [], [], { adm 0x512 [5] up with store := { up.store with nvm := { up.store.nvm with test := { entries := [[0x51000, 0, 0, 0, 0, 0, 0, 0]], next := 6 } } } }, by decide +kernel⟩

theorem witness_EstimatorReads_9 : ∃ (p : Port) (tag : Tag) (x : Slot) (s : State),
    (Admitted 0x512 p tag x s) ∧ (CqRoom p s) ∧ (∀ e ∈ s.store.nvm.test.entries, (e.getD 0 0) >>> 16 ≠ ((x.word 1).setWidth 16).setWidth
      32) :=
  ⟨.spia, 7, slotW 0x512 [5], adm 0x512 [5] up, by decide +kernel⟩

theorem witness_EstimatorReads_10 : ∃ (op : Nat) (p : Port) (tag : Tag) (x : Slot) (s : State),
    (op = 0x5C0 ∨ op = 0x5C1 ∨ op = 0x5C2) ∧ (Admitted op p tag x s) ∧ (CqRoom p s) ∧ (pn Pid.EST_MODE s ≠ 1) :=
  ⟨0x5C1, .spia, 7, slotW 0x5C1 [], adm 0x5C1 [] up, by decide +kernel⟩

theorem witness_EstimatorReads_11 : ∃ (k : Int) (p : Port) (tag : Tag) (x : Slot) (s : State),
    (Admitted 0x5C0 p tag x s) ∧ (CqRoom p s) ∧ (pn Pid.EST_MODE s = 1 ∧ batTemp s = some (10 * k + 5)) :=
  ⟨24, .spia, 7, slotW 0x5C0 [], setPv Pid.CHG_TSNS 0 0 (setPv Pid.EST_MODE 0 1 (warm 245 (adm 0x5C0 [] up))), by decide +kernel⟩

theorem witness_EstimatorReads_12 : ∃ (p : Port) (tag : Tag) (x : Slot) (s : State),
    (Admitted 0x5C0 p tag x s) ∧ (CqRoom p s) ∧ (pn Pid.EST_MODE s = 1 ∧ batTemp s = none) :=
  ⟨.spia, 7, slotW 0x5C0 [], setPv Pid.EST_MODE 0 1 (adm 0x5C0 [] up), by decide +kernel⟩

theorem witness_EstimatorReads_13 : ∃ (p : Port) (tag : Tag) (x : Slot) (s : State),
    (Admitted 0x5C1 p tag x s) ∧ (CqRoom p s) ∧ (pn Pid.EST_MODE s = 1) :=
  ⟨.spia, 7, slotW 0x5C1 [], setPv Pid.EST_MODE 0 1 (adm 0x5C1 [] up), by decide +kernel⟩

theorem witness_EstimatorReads_14 : ∃ (p : Port) (tag : Tag) (x : Slot) (s : State),
    (Admitted 0x5C2 p tag x s) ∧ (CqRoom p s) ∧ (pn Pid.EST_MODE s = 1) :=
  ⟨.spia, 7, slotW 0x5C2 [], setPv Pid.EST_MODE 0 1 (adm 0x5C2 [] up), by decide +kernel⟩

theorem witness_EstimatorReads_15 : ∃ (p : Port) (tag : Tag) (x : Slot) (s : State),
    (Admitted 0x520 p tag x s) ∧ (CqRoom p s) ∧ (s.sys.mode ≠ .test) :=
  ⟨.spia, 7, slotW 0x520 [], adm 0x520 [] up, by decide +kernel⟩

theorem witness_EstimatorReads_16 : ∃ (p : Port) (tag : Tag) (x : Slot) (s : State),
    (Admitted 0x520 p tag x s) ∧ (CqRoom p s) ∧ (s.sys.mode = .test) :=
  ⟨.spia, 7, slotW 0x520 [], adm 0x520 [] (inMode .test up), by decide +kernel⟩

theorem witness_LedgerCaddyAndTables_1 : ∃ (_code : BitVec 24) (s : State),
    (s.sys.power ≠ .ship ∧ s.sys.porActive = false) :=
  ⟨0xFFFF00, up, by decide +kernel⟩

theorem witness_LedgerCaddyAndTables_2 : ∃ (_code : BitVec 24) (s : State),
    (s.sys.power = .ship ∨ s.sys.porActive = true) :=
  ⟨5, { up with sys := { up.sys with power := .ship } }, by decide +kernel⟩

theorem witness_LedgerCaddyAndTables_3 : ∃ (s : State),
    let l := s.est.led
    let c := s.est.caddy
    (shRuns 4 s = true ∧ c.valid = true ∧ 0 < pn Pid.EST_RSHUNT_UOHM s ∧ pn Pid.EST_MODE s = 0) ∧ (l.accIn < 18446744073709551615 ∧
      l.accOut < 18446744073709551615) :=
  ⟨withCaddy (fun c => { c with valid := true, b := 1000 }) (setPv Pid.EST_RSHUNT_UOHM 0 1000 up), by decide +kernel⟩

theorem witness_LedgerCaddyAndTables_4 : ∃ (s : State),
    (shRuns 4 s = true ∧ s.est.led.accIn = 18446744073709551615 ∧ s.est.flags.getLsbD 13 = false ∧ s.sys.inReset = false) :=
  ⟨{ up with est := { up.est with led := { up.est.led with accIn := 18446744073709551615, lastIn := 18446744073709551615 } } }, by decide +kernel⟩

theorem witness_LedgerCaddyAndTables_5 : ∃ (s : State),
    (shRuns 4 s = false) :=
  ⟨early, by decide +kernel⟩

theorem witness_LedgerCaddyAndTables_6 : ∃ (s : State),
    (s.est.caddy.valid = true) :=
  ⟨withCaddy (fun c => { c with valid := true, b := 1000 }) up, by decide +kernel⟩

theorem witness_LedgerCaddyAndTables_7 : ∃ (s : State),
    (s.est.caddy.valid = false) :=
  ⟨up, by decide +kernel⟩

theorem witness_LedgerCaddyAndTables_8 : ∃ (s : State),
    let c := s.est.caddy
    let q := s.est.pendSelf / 1000
    let l := s.store.nvm.caddy
    (c.valid = true ∧ q ≠ 0 ∧ lostPages 111 64 s = 0 ∧ l.entries.length < 512) :=
  ⟨{ withCaddy (fun c => { c with valid := true, b := 1000 }) up with est := { up.est with caddy := { up.est.caddy with valid := true, b := 1000 }, pendSelf := 2500 } }, by decide +kernel⟩

theorem witness_LedgerCaddyAndTables_9 : ∃ (s : State),
    (s.est.caddy.valid = false) :=
  ⟨up, by decide +kernel⟩

theorem witness_LedgerCaddyAndTables_10 : ∃ (s : State),
    (s.est.driftSince.isSome = true ∧ s.est.flags.getLsbD 9 = false ∧ s.est.pendSelf < 1000 ∧ lostPages 111 64 s = 0) :=
  ⟨{ withCaddy (fun c => { c with valid := true, b := 1000 }) up with est := { up.est with caddy := { up.est.caddy with valid := true }, driftSince := some 5 } }, by decide +kernel⟩

theorem witness_LedgerCaddyAndTables_11 : ∃ (s : State),
    (s.est.driftSince = none ∨ s.est.flags.getLsbD 9 = true) :=
  ⟨up, by decide +kernel⟩

theorem witness_LedgerCaddyAndTables_12 : ∃ (_vbat : Nat) (i : Int) (s : State),
    (shRuns 4 s = true ∧ s.path.link ≠ .battery) :=
  ⟨52000, -500, inLink .start up, by decide +kernel⟩

theorem witness_LedgerCaddyAndTables_13 : ∃ (k : TableKind) (l : List Nat) (sv : EstTable) (s : State),
    let u := tableSet k s
    (u.steep = some l ∧ u.served = some sv ∧ tableConsistent k l (factEntries k s) = true) ∧ (∀ a, u.pourAt = some a → a + 600000000 ≤
      s.sys.devTime) :=
  ⟨.cap, List.replicate (tableLen .cap) 1000, { ver := 65535, factCrc := 0, entries := [] }, { up with est := { up.est with cap := { up.est.cap with steep := some (List.replicate (tableLen .cap) 1000), served := some { ver := 65535, factCrc := 0, entries := [] } } } }, by decide +kernel⟩

theorem witness_LedgerCaddyAndTables_14 : ∃ (k : TableKind) (l : List Nat) (sv : EstTable) (s : State),
    ((tableSet k s).steep = some l ∧ (tableSet k s).served = some sv ∧ tableConsistent k l (factEntries k s) = false ∧ s.sys.inReset =
      false) ∧ (∀ a, (tableSet k s).pourAt = some a → a + 600000000 ≤ s.sys.devTime) :=
  ⟨.cap, [200], { ver := 1, factCrc := 0, entries := [] }, { up with est := { up.est with cap := { up.est.cap with steep := some [200], served := some { ver := 1, factCrc := 0, entries := [] } } } }, by decide +kernel⟩

theorem witness_LedgerCaddyAndTables_15 : ∃ (k : TableKind) (s : State),
    ((tableSet k s).steep = none ∨ (∃ a, (tableSet k s).pourAt = some a ∧ s.sys.devTime < a + 600000000)) :=
  ⟨.rs, up, by decide +kernel⟩

theorem witness_LedgerCaddyAndTables_16 : ∃ (d : Direction) (s : State),
    (s.est.dir ≠ d ∧ s.est.flags.getLsbD 11 = false ∧ s.est.newQFull = none ∧ s.sys.inReset = false ∧ swf {} s.eic.src = true) :=
  ⟨.charge, up, by decide +kernel⟩

theorem witness_LedgerCaddyAndTables_17 : ∃ (s : State),
    (s.est.flags.getLsbD 11 = true ∧ s.est.dir = .charge ∧ s.sys.inReset = false) :=
  ⟨{ up with est := { up.est with dir := .charge, flags := 0x800 } }, by decide +kernel⟩

theorem witness_LedgerCaddyAndTables_18 : ∃ (q : Nat) (s : State),
    (s.est.newQFull = some q ∧ s.est.dir ≠ .discharge ∧ s.est.newU = none ∧ lostPages 111 64 s = 0) :=
  ⟨90000, { up with est := { up.est with newQFull := some 90000, dir := .charge } }, by decide +kernel⟩

theorem witness_LedgerCaddyAndTables_19 : ∃ (s : State),
    (s.est.newQFull = none ∨ s.est.dir = .discharge) :=
  ⟨up, by decide +kernel⟩

theorem witness_FitsAndProbes_1 : ∃ (m : StepMeasure) (s : State),
    let d := (m.after - m.before).natAbs
    (shRuns 4 s = true ∧ s.chg.st ≠ .batteryAbsent ∧ (s.path.link = .source ∨ s.path.link = .battery)) ∧ (pn Pid.EST_PROBE_MIN_MA s ≤ d ∧
      2 * m.before.natAbs ≤ 100 * d ∧ 2 * m.after.natAbs ≤ 100 * d ∧ m.riseUs ≤ 1000) ∧ (100 * (m.before - m.preLo) ≤ m.before.natAbs +
      5000 ∧ 100 * (m.preHi - m.before) ≤ m.before.natAbs + 5000) ∧ (100 * (m.after - m.postLo) ≤ m.after.natAbs + 5000 ∧ 100 * (m.postHi
      - m.after) ≤ m.after.natAbs + 5000) ∧ (s.sys.inReset = false ∧ swf {} s.eic.src = true ∧ s.sys.power ≠ .doze) ∧
      (s.est.flags.getLsbD 5 = true ∨ ((readRs (socInt s) (batTemp s) s).mul ⟨10 * d, 1000⟩).lt (Frac.ofInt m.jumpUv) = false) :=
  ⟨{ before := -1000, after := -3000, riseUs := 500, preLo := -1010, preHi := -1000, postLo := -3000, postHi := -2990, jumpUv := 0 }, linkUp, by decide +kernel⟩

theorem witness_FitsAndProbes_2 : ∃ (m : StepMeasure) (s : State),
    let d := (m.after - m.before).natAbs
    (shRuns 4 s = true ∧ s.chg.st = .off ∧ s.path.link = .battery ∧ m.riseUs ≤ 1000 ∧ s.sys.inReset = false ∧ s.sys.power ≠ .doze) ∧ (pn
      Pid.EST_PROBE_MIN_MA s ≤ d ∧ 2 * m.before.natAbs ≤ 100 * d ∧ 2 * m.after.natAbs ≤ 100 * d) ∧ (m.preLo = m.before ∧ m.preHi =
      m.before ∧ m.postLo = m.after ∧ m.postHi = m.after) ∧ (s.est.flags.getLsbD 5 = false ∧ ((readRs (socInt s) (batTemp s) s).mul ⟨10 *
      d, 1000⟩).lt (Frac.ofInt m.jumpUv) = true) :=
  ⟨{ before := -1000, after := -3000, riseUs := 500, preLo := -1000, preHi := -1000, postLo := -3000, postHi := -3000, jumpUv := 20000000 }, inLink .battery up, by decide +kernel⟩

theorem witness_FitsAndProbes_3 : ∃ (m : StepMeasure) (s : State),
    let d := (m.after - m.before).natAbs
    (shRuns 4 s = false ∨ s.chg.st = .batteryAbsent ∨ d < pn Pid.EST_PROBE_MIN_MA s ∨ 1000 < m.riseUs ∨ 100 * d < 2 * m.after.natAbs ∨
      m.before.natAbs + 5000 < 100 * (m.before - m.preLo) ∨ s.sys.power = .doze) :=
  ⟨{ before := -1000, after := -1001, riseUs := 500, preLo := -1010, preHi := -1000, postLo := -3000, postHi := -2990, jumpUv := 0 }, linkUp, by decide +kernel⟩

theorem witness_FitsAndProbes_4 : ∃ (f : FitMeasure) (s : State),
    (shRuns 4 s = true ∧ s.est.stepHeld = true ∧ f.gap = false ∧ 100 * f.residualUv ≤ f.responseUv + 50000) ∧ (pn Pid.EST_MODE s = 1 ∧
      batTemp s = none ∧ rsOut f.rs s = false) ∧ ((∀ p, s.est.probe = some p → p.ended = false) ∨ jumpBad f.jumpUv f.stepMa s = false) :=
  ⟨{ rs := 16000, rct := 500, cdl := 10, rdif := 300, cdif := 100, residualUv := 500, responseUv := 10000, gap := false, jumpUv := 0, stepMa := 1000 }, setPv Pid.EST_MODE 0 1 { up with est := { up.est with stepHeld := true, rs := { up.est.rs with served := some { ver := 1, factCrc := 0, entries := List.replicate 88 1000 } } } }, by decide +kernel⟩

theorem witness_FitsAndProbes_5 : ∃ (f : FitMeasure) (s : State),
    (shRuns 4 s = true ∧ s.est.stepHeld = true ∧ f.gap = false ∧ 100 * f.residualUv ≤ f.responseUv + 50000) ∧ (rsOut f.rs s = false ∧
      s.chg.st = .off) :=
  ⟨{ rs := 16000, rct := 500, cdl := 10, rdif := 300, cdif := 100, residualUv := 500, responseUv := 10000, gap := false, jumpUv := 0, stepMa := 1000 }, { up with est := { up.est with stepHeld := true, rs := { up.est.rs with served := some { ver := 1, factCrc := 0, entries := List.replicate 88 1000 } } } }, by decide +kernel⟩

theorem witness_FitsAndProbes_6 : ∃ (f : FitMeasure) (s : State),
    (shRuns 4 s = true ∧ s.est.stepHeld = true ∧ (f.gap = true ∨ f.responseUv + 50000 < 100 * f.residualUv)) ∧ ((∀ p, s.est.probe = some
      p → p.ended = false) ∨ jumpBad f.jumpUv f.stepMa s = false) :=
  ⟨{ rs := 1000, rct := 500, cdl := 10, rdif := 300, cdif := 100, residualUv := 5000, responseUv := 10000, gap := false, jumpUv := 0, stepMa := 1000 }, { up with est := { up.est with stepHeld := true } }, by decide +kernel⟩

theorem witness_FitsAndProbes_7 : ∃ (f : FitMeasure) (p : ProbeRun) (s : State),
    (shRuns 4 s = true ∧ s.est.stepHeld = true ∧ f.gap = true ∧ s.chg.st = .off ∧ s.sys.inReset = false) ∧ (s.est.probe = some p ∧
      p.ended = true ∧ s.est.flags.getLsbD 5 = false) ∧ (((readRs (socInt s) (batTemp s) s).mul ⟨10 * f.stepMa, 1000⟩).lt (Frac.ofInt
      f.jumpUv) = true) :=
  ⟨{ rs := 16000, rct := 500, cdl := 10, rdif := 300, cdif := 100, residualUv := 500, responseUv := 10000, gap := true, jumpUv := 20000000, stepMa := 1000 }, { ma := 500, dir := .dischargeLess, hold := false, ended := true }, { up with est := { up.est with stepHeld := true, probe := some { ma := 500, dir := .dischargeLess, hold := false, ended := true } } }, by decide +kernel⟩

theorem witness_FitsAndProbes_8 : ∃ (_f : FitMeasure) (s : State),
    (shRuns 4 s = false ∨ s.est.stepHeld = false) :=
  ⟨{ rs := 1000, rct := 500, cdl := 10, rdif := 300, cdif := 100, residualUv := 500, responseUv := 10000, gap := false, jumpUv := 0, stepMa := 1000 }, up, by decide +kernel⟩

theorem witness_FitsAndProbes_9 : ∃ (i : Int) (s : State),
    (pb Pid.EST_PROBE_EN s = true ∧ pn Pid.EST_MODE s ≠ 1 ∧ shRuns 1 s = true ∧ shRuns 4 s = true ∧ s.est.probe = none) ∧
      (s.heddle.safeHold = false ∧ s.sys.service = .full ∧ s.chg.st ≠ .batteryAbsent ∧ s.path.link = .battery) :=
  ⟨-60000, setPv Pid.EST_PROBE_EN 0 1 (setPv Pid.EST_C_LINK_UF 0 20000 (inLink .battery up)), by decide +kernel⟩

theorem witness_FitsAndProbes_10 : ∃ (i : Int) (s : State),
    (pb Pid.EST_PROBE_EN s = true ∧ pn Pid.EST_MODE s ≠ 1 ∧ shRuns 1 s = true ∧ shRuns 4 s = true ∧ s.est.probe = none) ∧
      (s.heddle.safeHold = false ∧ s.sys.service = .full ∧ s.path.link = .source ∧ s.path.supplement = false) ∧ (s.chg.st.charging = true
      ∧ s.chg.pwm = true ∧ 0 < i) :=
  ⟨2000, setPv Pid.EST_PROBE_EN 0 1 (charging .cc), by decide +kernel⟩

theorem witness_FitsAndProbes_11 : ∃ (_i : Int) (s : State),
    (pb Pid.EST_PROBE_EN s = false ∨ pn Pid.EST_MODE s = 1 ∨ shRuns 1 s = false ∨ s.est.probe ≠ none) :=
  ⟨5, early, by decide +kernel⟩

theorem witness_FitsAndProbes_12 : ∃ (_i : Int) (s : State),
    (s.heddle.safeHold = true ∨ s.sys.service ≠ .full ∨ s.chg.st = .batteryAbsent ∨ s.path.link = .handover ∨ s.path.link = .return) :=
  ⟨5, inLink .return up, by decide +kernel⟩

theorem witness_FitsAndProbes_13 : ∃ (p : ProbeRun) (s : State),
    (s.est.probe = some p ∧ p.ended = false) :=
  ⟨{ ma := 500, dir := .dischargeLess, hold := true, ended := false }, { up with est := { up.est with probe := some { ma := 500, dir := .dischargeLess, hold := true, ended := false } } }, by decide +kernel⟩

theorem witness_FitsAndProbes_14 : ∃ (s : State),
    (s.est.probe = none) :=
  ⟨up, by decide +kernel⟩

theorem witness_FitsAndProbes_15 : ∃ (p : ProbeRun) (_why : HoldRelease) (s : State),
    (s.est.probe = some p ∧ p.hold = true ∧ s.sys.inReset = false ∧ swf {} s.eic.src = true) :=
  ⟨{ ma := 500, dir := .dischargeLess, hold := true, ended := false }, .handover, { up with est := { up.est with probe := some { ma := 500, dir := .dischargeLess, hold := true, ended := false } } }, by decide +kernel⟩

theorem witness_FitsAndProbes_16 : ∃ (_why : HoldRelease) (s : State),
    (∀ p, s.est.probe = some p → p.hold = false) :=
  ⟨.handover, up, by decide +kernel⟩

theorem witness_FitsAndProbes_17 : ∃ (p : ProbeRun) (_why : ProbeCancel) (s : State),
    (s.est.probe = some p ∧ p.ended = false) :=
  ⟨{ ma := 500, dir := .dischargeLess, hold := true, ended := false }, .loadChange 501, { up with est := { up.est with probe := some { ma := 500, dir := .dischargeLess, hold := true, ended := false } } }, by decide +kernel⟩

theorem witness_FitsAndProbes_18 : ∃ (_why : ProbeCancel) (s : State),
    (s.est.probe = none) :=
  ⟨.stateChange, up, by decide +kernel⟩

theorem witness_ReportsLevelsAndCutoff_1 : ∃ (_r : LoadReading) (s : State),
    (s.sys.service ≠ .full ∨ s.heddle.safeHold = true) :=
  ⟨⟨-5000, 51200, 0, 0⟩, early, by decide +kernel⟩

theorem witness_ReportsLevelsAndCutoff_2 : ∃ (r : LoadReading) (s : State),
    (s.sys.service = .full ∧ s.heddle.safeHold = false ∧ s.est.test = none ∧ s.sys.inReset = false) ∧ (s.path.link ≠ .source ∨ r.vbat ≠
      0) :=
  ⟨⟨-5000, 51200, 0, 0⟩, up, by decide +kernel⟩

theorem witness_ReportsLevelsAndCutoff_3 : ∃ (_r : LoadReading) (s : State),
    (s.sys.service = .full ∧ s.heddle.safeHold = false ∧ s.est.test = none ∧ s.sys.inReset = false) ∧ (s.est.dir = .discharge ∧
      s.est.flags.getLsbD 9 = false ∧ s.est.flags.getLsbD 11 = false) :=
  ⟨⟨-5000, 51200, 0, 0⟩, { up with est := { up.est with dir := .discharge, soc := 8000, socQ := 100000 } }, by decide +kernel⟩

theorem witness_ReportsLevelsAndCutoff_4 : ∃ (v : Nat) (s : State),
    (s.est.flags.getLsbD 9 = true ∨ s.est.dir ≠ .discharge ∨ vCut s * cells s < v) :=
  ⟨60000, up, by decide +kernel⟩

theorem witness_ReportsLevelsAndCutoff_5 : ∃ (v : Nat) (s : State),
    (s.est.flags.getLsbD 9 = false ∧ s.est.dir = .discharge ∧ v ≤ vCut s * cells s ∧ s.est.test = none ∧ s.sys.inReset = false) :=
  ⟨30000, { up with est := { up.est with dir := .discharge, soc := 300 } }, by decide +kernel⟩

theorem witness_ReportsLevelsAndCutoff_6 : ∃ (s : State),
    (s.est.flags.getLsbD 9 = true ∧ s.sys.inReset = false) :=
  ⟨{ up with est := { up.est with flags := 0x200 } }, by decide +kernel⟩

theorem witness_ReportsLevelsAndCutoff_7 : ∃ (s : State),
    (s.est.withheld.isSome = true) ∧ (s.path.link = .source ∨ s.est.flags.getLsbD 9 = false) :=
  ⟨{ up with est := { up.est with withheld := some 5 } }, by decide +kernel⟩

theorem witness_ReportsLevelsAndCutoff_8 : ∃ (s : State),
    (s.est.withheld.isSome = true ∧ s.path.link ≠ .source ∧ s.est.flags.getLsbD 9 = true) ∧ ((∀ g : Fin 8, s.pwr.grp[g].st = .down) ∧
      s.pwr.allDown = [] ∧ s.pwr.allDownDone = [] ∧ s.pwr.allDownCmds = []) :=
  ⟨allGroups .down { up with est := { up.est with withheld := some 5, flags := 0x200 } }, by decide +kernel⟩

theorem witness_ReportsLevelsAndCutoff_9 : ∃ (s : State),
    (s.est.withheld = none) :=
  ⟨up, by decide +kernel⟩

theorem witness_BatteryTests_1 : ∃ (p : Port) (tag : Tag) (x : Slot) (s : State),
    (Admitted 0x510 p tag x s) ∧ (CqRoom p s) ∧ (bitsOf (x.word 1) 0 2 = 0 ∨ bitsOf (x.word 1) 0 2 = 3) :=
  ⟨.spia, 7, slotW 0x510 [3], adm 0x510 [3] up, by decide +kernel⟩

theorem witness_BatteryTests_2 : ∃ (p : Port) (tag : Tag) (x : Slot) (s : State),
    let r := if s.path.link ≠ .source then 0x01 else if s.sys.mode ≠ .normal ∨ s.sys.service ≠ .full ∨ s.heddle.safeHold = true then 0x03 else if s.est.flags &&& 0x3C0 ≠ 0 then 0x04 else if ∃ z : Fin 9, s.therm.zone[z].throt = true ∨ s.therm.zone[z].shut = true then 0x05 else if s.est.test.isSome = true then 0x06 else if s.chg.st = .batteryAbsent ∨ s.chg.st = .suspended then 0x07 else if ∃ g : Fin 8, groupEn g s = true ∧ groupAuto g s = true ∧ s.pwr.grp[g].st ≠ .up then 0x08 else 0
    (Admitted 0x510 p tag x s) ∧ (CqRoom p s) ∧ (bitsOf (x.word 1) 0 2 = 1 ∨ (bitsOf (x.word 1) 0 2 = 2 ∧ ((x.word 1).getLsbD 8 = true ∨
      rechargeOk s = true))) ∧ (r ≠ 0) :=
  ⟨.spia, 7, slotW 0x510 [1], adm 0x510 [1] (inMode .recovery linkUp), by decide +kernel⟩

theorem witness_BatteryTests_3 : ∃ (p : Port) (tag : Tag) (x : Slot) (s : State),
    (Admitted 0x510 p tag x s) ∧ (CqRoom p s) ∧ (bitsOf (x.word 1) 0 2 = 2 ∧ (x.word 1).getLsbD 8 = false ∧ rechargeOk s = false ∧
      s.path.link = .source) :=
  ⟨.spia, 7, slotW 0x510 [2], adm 0x510 [2] (setPv Pid.EST_RATED_MA 0 200000 (setPv Pid.EST_RATED_DUR_MIN 0 600 linkUp)), by decide +kernel⟩

theorem witness_BatteryTests_4 : ∃ (p : Port) (tag : Tag) (x : Slot) (s : State),
    let k : TestKind := if bitsOf (x.word 1) 0 2 = 1 then .function else .duration
    (Admitted 0x510 p tag x s) ∧ (CqRoom p s) ∧ (bitsOf (x.word 1) 0 2 = 1 ∨ bitsOf (x.word 1) 0 2 = 2) ∧ (testRefusal k ((x.word
      1).getLsbD 8) s = 0 ∧ s.sys.inReset = false) :=
  ⟨.spia, 7, slotW 0x510 [0x102], adm 0x510 [0x102] linkUp, by decide +kernel⟩

theorem witness_BatteryTests_5 : ∃ (p : Port) (tag : Tag) (x : Slot) (s : State),
    (Admitted 0x511 p tag x s) ∧ (CqRoom p s) ∧ (s.est.test = none) :=
  ⟨.spia, 7, slotW 0x511 [], adm 0x511 [] up, by decide +kernel⟩

theorem witness_BatteryTests_6 : ∃ (p : Port) (tag : Tag) (x : Slot) (r : RunTest) (s : State),
    (Admitted 0x511 p tag x s) ∧ (CqRoom p s) ∧ (s.est.test = some r ∧ s.sys.inReset = false) :=
  ⟨.spia, 7, slotW 0x511 [], running1, adm 0x511 [] (testing running1 linkUp), by decide +kernel⟩

theorem witness_BatteryTests_7 : ∃ (r : RunTest) (s : State),
    (s.est.test = some r ∧ r.kind = .duration ∧ s.sys.mode = .test ∧ s.sys.inReset = false) ∧ (lostPages 79 32 s = 0) :=
  ⟨{ running1 with kind := .duration }, inMode .test (testing { running1 with kind := .duration } linkUp), by decide +kernel⟩

theorem witness_BatteryTests_8 : ∃ (s : State),
    (s.est.test = none) :=
  ⟨up, by decide +kernel⟩

theorem witness_BatteryTests_9 : ∃ (s : State),
    (pb Pid.EST_FT_EN s = true ∧ pb Pid.EST_DT_EN s = false) ∧ (testRefusal .function false s = 0 ∧ s.sys.inReset = false) :=
  ⟨setPv Pid.EST_DT_EN 0 0 (setPv Pid.EST_FT_EN 0 1 linkUp), by decide +kernel⟩

theorem witness_BatteryTests_10 : ∃ (s : State),
    let r := testRefusal .function false s
    (pb Pid.EST_FT_EN s = true ∧ pb Pid.EST_DT_EN s = false ∧ r ≠ 0 ∧ lostPages 79 32 s = 0 ∧ s.sys.inReset = false) :=
  ⟨setPv Pid.EST_DT_EN 0 0 (setPv Pid.EST_FT_EN 0 1 up), by decide +kernel⟩

theorem witness_BatteryTests_11 : ∃ (s : State),
    (pb Pid.EST_FT_EN s = false) :=
  ⟨setPv Pid.EST_FT_EN 0 0 up, by decide +kernel⟩

theorem witness_BatteryTests_12 : ∃ (s : State),
    (pb Pid.EST_DT_EN s = false) :=
  ⟨setPv Pid.EST_DT_EN 0 0 up, by decide +kernel⟩

theorem witness_BatteryTests_13 : ∃ (r : RunTest) (s : State),
    (s.est.test = some r ∧ r.kind = .function ∧ s.sys.inReset = false) ∧ (lostPages 79 32 s = 0) :=
  ⟨running1, testing running1 linkUp, by decide +kernel⟩

theorem witness_BatteryTests_14 : ∃ (s : State),
    (pb Pid.EST_DT_EN s = true) ∧ (testRefusal .duration false s = 0 ∧ s.sys.inReset = false) :=
  ⟨setPv Pid.EST_DT_EN 0 1 linkUp, by decide +kernel⟩

theorem witness_BatteryTests_15 : ∃ (s : State),
    let s0 := { s with est := { s.est with dtDay := some s.store.rtc.cal.dayNo } }
    let r := testRefusal .duration false s0
    (pb Pid.EST_DT_EN s = true ∧ r ≠ 0 ∧ lostPages 79 32 s = 0 ∧ s.sys.inReset = false) :=
  ⟨setPv Pid.EST_DT_EN 0 1 (inLink .battery linkUp), by decide +kernel⟩

theorem witness_Captures_1 : ∃ (p : Port) (tag : Tag) (x : Slot) (s : State),
    let d := parseDesc x
    (Admitted 0x601 p tag x s) ∧ (CqRoom p s) ∧ (d.mode = 3 ∨ d.dec = 0 ∨ 4096 < d.dec ∨ d.inputs = [] ∨ d.n ≤ d.pre ∨ (d.mode = 2 ∧
      d.pre ≠ 0) ∨ d.inputs.length ≠ d.inputSlices.length) :=
  ⟨.spia, 7, slotW 0x601 [0x2000, 0xFFFFFF50, 0x20, 0, 0, 32], adm 0x601 [0x2000, 0xFFFFFF50, 0x20, 0, 0, 32] up, by decide +kernel⟩

theorem witness_Captures_2 : ∃ (k : Fin 8) (p : Port) (tag : Tag) (x : Slot) (s : State),
    let d := parseDesc x
    let bytes := (d.rearms + 1) * d.inputs.length * (64 * (1 + (d.n + 31) / 32))
    (Admitted 0x601 p tag x s) ∧ (CqRoom p s) ∧ (d.malformed = false ∧ (x.word 1).toNat % 8 = k.val ∧ poolFree k.val s < bytes) :=
  ⟨0, .spia, 7, slotW 0x601 [0x2000, 0xFFFFFF50, 0x20, 1, 0, 200000], adm 0x601 [0x2000, 0xFFFFFF50, 0x20, 1, 0, 200000] up, by decide +kernel⟩

theorem witness_Captures_3 : ∃ (k : Fin 8) (p : Port) (tag : Tag) (x : Slot) (s : State),
    let d := parseDesc x
    let bytes := (d.rearms + 1) * d.inputs.length * (64 * (1 + (d.n + 31) / 32))
    (Admitted 0x601 p tag x s) ∧ (CqRoom p s) ∧ (d.malformed = false ∧ (x.word 1).toNat % 8 = k.val ∧ bytes ≤ poolFree k.val s) ∧ (d.mode
      = 0 ∧ d.urgent = false ∧ d.slices &&& protectedMask s ≠ 0) :=
  ⟨0, .spia, 7, slotW 0x601 [0x2000, 0xFFFFFF50, 0x80, 1, 0, 32], setPv Pid.ACQ_ROUND_SLICE 0 7 (adm 0x601 [0x2000, 0xFFFFFF50, 0x80, 1, 0, 32] up), by decide +kernel⟩

theorem witness_Captures_4 : ∃ (k : Fin 8) (p : Port) (tag : Tag) (x : Slot) (s : State),
    let d := parseDesc x
    let bytes := (d.rearms + 1) * d.inputs.length * (64 * (1 + (d.n + 31) / 32))
    (Admitted 0x601 p tag x s) ∧ (CqRoom p s) ∧ (d.malformed = false ∧ (x.word 1).toNat % 8 = k.val ∧ bytes ≤ poolFree k.val s ∧
      breaksR280 d s = false) ∧ (s.heddle.safeHold = true) :=
  ⟨0, .spia, 7, slotW 0x601 [0x2000, 0xFFFFFF50, 0x20, 1, 0, 32], { adm 0x601 [0x2000, 0xFFFFFF50, 0x20, 1, 0, 32] up with heddle := { up.heddle with safeHold := true } }, by decide +kernel⟩

theorem witness_Captures_5 : ∃ (k : Fin 8) (p : Port) (tag : Tag) (x : Slot) (s : State),
    let d := parseDesc x
    let bytes := (d.rearms + 1) * d.inputs.length * (64 * (1 + (d.n + 31) / 32))
    let y := s.acq.slot[k]
    (Admitted 0x601 p tag x s) ∧ (CqRoom p s) ∧ (d.malformed = false ∧ (x.word 1).toNat % 8 = k.val ∧ bytes ≤ poolFree k.val s ∧
      breaksR280 d s = false) ∧ (s.heddle.safeHold = false ∧ s.sys.power = .run ∧ (∀ y ∈ s.hif.slots, y.op = 0x605 → y.status ≠
      .running)) ∧ (d.trig ≠ 0 ∧ d.pre = 0 ∧ (∀ j, j ≠ k → s.acq.slot[j].desc.all (fun e => e.pre == 0) = true)) :=
  ⟨0, .spia, 7, slotW 0x601 [0x2000, 0xFFFFFF50, 0x20, 1, 0, 32], adm 0x601 [0x2000, 0xFFFFFF50, 0x20, 1, 0, 32] up, by decide +kernel⟩

theorem witness_Captures_6 : ∃ (k : Fin 8) (p : Port) (tag : Tag) (x : Slot) (s : State),
    let y := s.acq.slot[k]
    (Admitted 0x602 p tag x s) ∧ (CqRoom p s) ∧ ((x.word 1).toNat % 8 = k.val ∧ (∀ y ∈ s.hif.slots, y.op = 0x605 → y.status ≠ .running) ∧
      y.st ≠ .running) :=
  ⟨0, .spia, 7, slotW 0x602 [0], adm 0x602 [0] (withCap (fun y => { y with st := .armed, desc := some cap1 }) up), by decide +kernel⟩

theorem witness_Captures_7 : ∃ (k : Fin 8) (p : Port) (tag : Tag) (x : Slot) (d : CapDesc) (s : State),
    let y := s.acq.slot[k]
    (Admitted 0x602 p tag x s) ∧ (CqRoom p s) ∧ ((x.word 1).toNat % 8 = k.val ∧ (∀ y ∈ s.hif.slots, y.op = 0x605 → y.status ≠ .running) ∧
      y.st = .running ∧ s.sys.inReset = false) ∧ (y.desc = some d ∧ d.inputs.length = d.inputSlices.length ∧ d.inputs ≠ []) :=
  ⟨0, .spia, 7, slotW 0x602 [0], cap1, adm 0x602 [0] (withCap (fun y => { y with st := .running, desc := some cap1 }) up), by decide +kernel⟩

theorem witness_Captures_8 : ∃ (k : Fin 8) (p : Port) (tag : Tag) (x : Slot) (s : State),
    let y := s.acq.slot[k]
    (Admitted 0x603 p tag x s) ∧ (CqRoom p s) ∧ ((x.word 1).toNat % 8 = k.val ∧ y.recs ≠ []) :=
  ⟨0, .spia, 7, slotW 0x603 [0], adm 0x603 [0] (withCap (fun y => { y with st := .done, recs := [⟨[1], []⟩], seq := 3 }) up), by decide +kernel⟩

theorem witness_Captures_9 : ∃ (k : Fin 8) (p : Port) (tag : Tag) (x : Slot) (s : State),
    let y := s.acq.slot[k]
    (Admitted 0x603 p tag x s) ∧ (CqRoom p s) ∧ ((x.word 1).toNat % 8 = k.val ∧ y.recs = []) :=
  ⟨0, .spia, 7, slotW 0x603 [0], adm 0x603 [0] up, by decide +kernel⟩

theorem witness_Captures_10 : ∃ (k : Fin 8) (i : Nat) (r : CapRec) (p : Port) (tag : Tag) (x : Slot) (s : State),
    (Admitted 0x604 p tag x s) ∧ (CqRoom p s) ∧ ((x.word 1).toNat % 8 = k.val ∧ (x.word 1).toNat / 256 % 256 = i ∧ s.acq.slot[k].recs[i]?
      = some r) :=
  ⟨0, 0, ⟨[1, 2, 3], [5, 6]⟩, .spia, 7, slotW 0x604 [0, 4], adm 0x604 [0, 4] (withCap (fun y => { y with st := .done, recs := [⟨[1, 2, 3], [5, 6]⟩] }) up), by decide +kernel⟩

theorem witness_Captures_11 : ∃ (k : Fin 8) (p : Port) (tag : Tag) (x : Slot) (s : State),
    (Admitted 0x604 p tag x s) ∧ (CqRoom p s) ∧ ((x.word 1).toNat % 8 = k.val ∧ s.acq.slot[k].recs = []) :=
  ⟨0, .spia, 7, slotW 0x604 [0, 0], adm 0x604 [0, 0] up, by decide +kernel⟩

theorem witness_Captures_12 : ∃ (p : Port) (tag : Tag) (x : Slot) (s : State),
    (Admitted 0x605 p tag x s) ∧ (CqRoom p s) ∧ ((∀ y ∈ s.hif.slots, y.op = 0x605 → y.status ≠ .running) ∧ (∀ k : Fin 8, s.acq.slot[k].st
      ≠ .armed ∧ s.acq.slot[k].waiting = false)) :=
  ⟨.spia, 7, slotW 0x605 [0xFF], adm 0x605 [0xFF] up, by decide +kernel⟩

theorem witness_Captures_13 : ∃ (k : Fin 8) (d : CapDesc) (p : Port) (tag : Tag) (x : Slot) (s : State),
    (Admitted 0x605 p tag x s) ∧ (CqRoom p s) ∧ ((∀ y ∈ s.hif.slots, y.op = 0x605 → y.status ≠ .running) ∧ x.payload = [w32 (2 ^ k.val)]
      ∧ s.acq.slot[k].st = .armed ∧ s.acq.slot[k].waiting = false ∧ s.acq.slot[k].desc = some d) ∧ (d.trig = 3 ∧ (∀ j, j ≠ k →
      s.acq.slot[j].st = .idle ∧ s.acq.slot[j].waiting = false) ∧ (s.acq.running = false ∨ overlap d.slices (roundMask s |||
      protectedMask s) = false) ∧ (s.acq.rings = false ∨ overlap d.slices (pn Pid.ACQ_RING_SLICES s) = false)) :=
  ⟨0, { cap1 with trig := 3 }, .spia, 7, slotW 0x605 [1], adm 0x605 [1] (withCap (fun y => { y with st := .armed, desc := some { cap1 with trig := 3 } }) acqUp), by decide +kernel⟩

theorem witness_Captures_14 : ∃ (i : Nat) (p : Port) (tag : Tag) (x : Slot) (s : State),
    let bad := fun (w : W) => 0x70 ≤ w.toNat % 256 ∨ (0x6C ≤ w.toNat % 256 ∧ w.getLsbD 8 = false)
    (Admitted 0x610 p tag x s) ∧ (CqRoom p s) ∧ (i < x.payload.length ∧ bad (x.payload.getD i 0) ∧ (∀ j, j < i → ¬ bad (x.payload.getD j
      0))) :=
  ⟨0, .spia, 7, slotW 0x610 [0x70], adm 0x610 [0x70] up, by decide +kernel⟩

theorem witness_Captures_15 : ∃ (p : Port) (tag : Tag) (x : Slot) (s : State),
    (Admitted 0x610 p tag x s) ∧ (CqRoom p s) ∧ (x.payload ≠ [] ∧ x.payload.all (fun w => decide (w.toNat % 256 < 0x6C)) = true ∧
      s.acq.roundValid = false) :=
  ⟨.spia, 7, slotW 0x610 [0x50], adm 0x610 [0x50] up, by decide +kernel⟩

theorem witness_Captures_16 : ∃ (p : Port) (tag : Tag) (x : Slot) (s : State),
    (Admitted 0x610 p tag x s) ∧ (CqRoom p s) ∧ (s.acq.roundValid = true ∧ x.payload.all (fun w => decide (w.toNat % 256 < 0x70) &&
      w.getLsbD 8 && (sfind s.acq.table (w.toNat % 256)).isSome) = true) :=
  ⟨.spia, 7, slotW 0x610 [0x150], inTable 0x50 { rseq := 1, restarted := false, refSuspect := false, clkDeg := false, corrStale := false, overrange := false, value := 0xFFFF} (adm 0x610 [0x150] up), by decide +kernel⟩

theorem witness_Captures_17 : ∃ (p : Port) (tag : Tag) (x : Slot) (s : State),
    (Admitted 0x610 p tag x s) ∧ (CqRoom p s) ∧ (s.acq.roundValid = true ∧ x.payload.all (fun w => decide (w.toNat % 256 < 0x58) &&
      !w.getLsbD 8 && (sfind s.acq.table (w.toNat % 256)).isSome) = true) :=
  ⟨.spia, 7, slotW 0x610 [0x50], inTable 0x50 { rseq := 1, restarted := false, refSuspect := false, clkDeg := false, corrStale := false, overrange := false, value := 0xFFFF} (adm 0x610 [0x50] up), by decide +kernel⟩

theorem witness_Captures_18 : ∃ (k : Fin 8) (d : CapDesc) (s : State),
    let y := s.acq.slot[k]
    (y.waiting = true ∧ y.desc = some d ∧ converting s = true ∧ (s.acq.running = false ∨ overlap d.slices (roundMask s ||| protectedMask
      s) = false) ∧ (s.acq.rings = false ∨ overlap d.slices (pn Pid.ACQ_RING_SLICES s) = false) ∧ (∀ y ∈ s.hif.slots, y.op = 0x605 →
      y.status ≠ .running)) ∧ (∀ j, j ≠ k → s.acq.slot[j].st = .idle ∧ s.acq.slot[j].waiting = false) :=
  ⟨0, cap1, withCap (fun y => { y with st := .armed, waiting := true, desc := some cap1 }) acqUp, by decide +kernel⟩

theorem witness_Captures_19 : ∃ (k : Fin 8) (s : State),
    (s.acq.slot[k].waiting = false ∨ converting s = false) :=
  ⟨0, acqUp, by decide +kernel⟩

theorem witness_Captures_20 : ∃ (n : Fin 4) (k : Fin 8) (d : CapDesc) (s : State),
    let y := s.acq.slot[k]
    (acqRuns s = true ∧ y.desc = some d ∧ d.trig = 1 ∧ d.trigNo = n.val ∧ y.st = .running) ∧ (∀ j, j ≠ k → s.acq.slot[j].desc = none) :=
  ⟨1, 0, { cap1 with trig := 1, trigNo := 1 }, withCap (fun y => { y with st := .running, desc := some { cap1 with trig := 1, trigNo := 1 } }) acqUp, by decide +kernel⟩

theorem witness_Captures_21 : ∃ (n : Fin 4) (k : Fin 8) (d : CapDesc) (s : State),
    let y := s.acq.slot[k]
    (converting s = true ∧ y.desc = some d ∧ d.trig = 1 ∧ d.trigNo = n.val ∧ y.st = .armed ∧ y.waiting = false ∧ (∀ y ∈ s.hif.slots, y.op
      = 0x605 → y.status ≠ .running)) ∧ ((s.acq.running = false ∨ overlap d.slices (roundMask s ||| protectedMask s) = false) ∧
      (s.acq.rings = false ∨ overlap d.slices (pn Pid.ACQ_RING_SLICES s) = false) ∧ (∀ j, j ≠ k → s.acq.slot[j].desc = none ∧
      s.acq.slot[j].waiting = false)) :=
  ⟨1, 0, { cap1 with trig := 1, trigNo := 1 }, withCap (fun y => { y with st := .armed, desc := some { cap1 with trig := 1, trigNo := 1 } }) acqUp, by decide +kernel⟩

theorem witness_Captures_22 : ∃ (_n : Fin 4) (s : State),
    (acqRuns s = false) :=
  ⟨1, early, by decide +kernel⟩

theorem witness_Captures_23 : ∃ (k : Fin 8) (d : CapDesc) (l : List (BitVec 16)) (c m : Nat) (s : State),
    let y := s.acq.slot[k]
    (y.st = .running ∧ acqRuns s = true ∧ y.desc = some d ∧ d.inputs = [c] ∧ d.inputSlices = [m] ∧ l.length = d.n ∧ y.left = 0) ∧
      (s.sys.inReset = false ∧ swf {} s.eic.src = true ∧ eicExempt (176 + k.val) s = true) :=
  ⟨0, cap1, List.replicate 32 5, 0x50, 32, withCap (fun y => { y with st := .running, desc := some cap1 }) (setPv (Pid.EIC_SRC 176) 0 0x2000 acqUp), by decide +kernel⟩

theorem witness_Captures_24 : ∃ (k : Fin 8) (_data : List (List (BitVec 16))) (s : State),
    (s.acq.slot[k].st ≠ .running ∨ acqRuns s = false) :=
  ⟨0, [], acqUp, by decide +kernel⟩

theorem witness_Captures_25 : ∃ (k : Fin 8) (d : CapDesc) (l : List (BitVec 16)) (c m : Nat) (s : State),
    let y := s.acq.slot[k]
    (y.st = .running ∧ acqRuns s = true ∧ y.desc = some d ∧ d.inputs = [c] ∧ d.inputSlices = [m] ∧ l.length < d.n ∧ y.left = 0) ∧
      (s.sys.inReset = false) :=
  ⟨0, { cap1 with n := 64 }, List.replicate 33 5, 0x50, 32, withCap (fun y => { y with st := .running, desc := some { cap1 with n := 64 } }) acqUp, by decide +kernel⟩

theorem witness_Captures_26 : ∃ (k : Fin 8) (_data : List (List (BitVec 16))) (s : State),
    (s.acq.slot[k].st ≠ .running ∨ acqRuns s = false) :=
  ⟨0, [], acqUp, by decide +kernel⟩

theorem witness_Captures_27 : ∃ (c : Fin 32) (s : State),
    (s.sys.boot.cfgLoaded = true ∧ s.sys.inReset = false ∧ s.sys.pfHeld = false ∧ s.acq.cc[c].armed = true) ∧ (pn (Pid.ACQ_CC_INPUT
      c.val) s < 0x70 ∧ 8 ≤ pn (Pid.ACQ_CC_CAPTURE c.val) s ∧ swf {} s.eic.src = true) :=
  ⟨0, setPv (Pid.ACQ_CC_INPUT 0) 0 0x50 (setPv (Pid.ACQ_CC_CAPTURE 0) 0 0xFF (ccArmed acqUp)), by decide +kernel⟩

theorem witness_Captures_28 : ∃ (c : Fin 32) (k : Fin 8) (d : CapDesc) (s : State),
    let y := s.acq.slot[k]
    (s.sys.boot.cfgLoaded = true ∧ s.sys.inReset = false ∧ s.sys.pfHeld = false ∧ s.acq.cc[c].armed = true) ∧ (pn (Pid.ACQ_CC_INPUT
      c.val) s < 0x70 ∧ pn (Pid.ACQ_CC_CAPTURE c.val) s = k.val ∧ y.st = .running ∧ y.desc = some d ∧ d.trig = 2 ∧ d.trigNo = c.val ∧ swf
      {} s.eic.src = true) :=
  ⟨0, 0, { cap1 with trig := 2 }, withCap (fun y => { y with st := .running, desc := some { cap1 with trig := 2 } }) (setPv (Pid.ACQ_CC_INPUT 0) 0 0x50 (setPv (Pid.ACQ_CC_CAPTURE 0) 0 0 (ccArmed acqUp))), by decide +kernel⟩

theorem witness_Captures_29 : ∃ (c : Fin 32) (s : State),
    (s.acq.cc[c].armed = false ∨ s.sys.boot.cfgLoaded = false) :=
  ⟨0, acqUp, by decide +kernel⟩

theorem witness_Captures_30 : ∃ (c : Fin 32) (s : State),
    (s.acq.cc[c].written = true ∧ s.sys.boot.cfgLoaded = true ∧ s.sys.inReset = false ∧ s.sys.pfHeld = false) :=
  ⟨0, { ccArmed acqUp with acq := { (ccArmed acqUp).acq with cc := vmap (fun x => { x with written := true }) acqUp.acq.cc } }, by decide +kernel⟩

theorem witness_Captures_31 : ∃ (c : Fin 32) (s : State),
    (s.acq.cc[c].tripped = true ∧ s.acq.cc[c].written = false ∧ s.sys.inReset = false ∧ s.sys.pfHeld = false) :=
  ⟨0, { acqUp with acq := { acqUp.acq with cc := vmap (fun x => { x with tripped := true }) acqUp.acq.cc } }, by decide +kernel⟩

theorem witness_Captures_32 : ∃ (c : Fin 32) (s : State),
    (s.acq.cc[c].tripped = false) :=
  ⟨0, acqUp, by decide +kernel⟩

theorem witness_Captures_33 : ∃ (k : Fin 8) (d : CapDesc) (l l2 : List (BitVec 16)) (c c2 m m2 : Nat) (s : State),
    let y := s.acq.slot[k]
    (y.st = .running ∧ acqRuns s = true ∧ y.desc = some d ∧ d.inputs = [c, c2] ∧ d.inputSlices = [m, m2] ∧ y.left = 0) ∧ (l.length = d.n
      ∧ l2.length = d.n) ∧ (s.sys.inReset = false ∧ swf {} s.eic.src = true ∧ eicExempt (176 + k.val) s = true) :=
  ⟨0, { cap1 with inputs := [0x50, 0x51], mask := 33 }, List.replicate 32 5, List.replicate 32 6, 0x50, 0x51, 1, 32, withCap (fun y => { y with st := .running, desc := some { cap1 with inputs := [0x50, 0x51], mask := 33 } }) (setPv (Pid.EIC_SRC 176) 0 0x2000 acqUp), by decide +kernel⟩

theorem witness_RoundsReferenceAndTemperature_1 : ∃ (s : State),
    (acqRuns s = true ∧ s.acq.running = false ∧ (∀ j : Fin 8, s.acq.slot[j].st = .idle)) :=
  ⟨acqUp, by decide +kernel⟩

theorem witness_RoundsReferenceAndTemperature_2 : ∃ (s : State),
    (acqRuns s = true ∧ s.acq.running = true) :=
  ⟨{ acqUp with acq := { acqUp.acq with running := true } }, by decide +kernel⟩

theorem witness_RoundsReferenceAndTemperature_3 : ∃ (r : InputResult) (s : State),
    (converting s = true ∧ s.acq.running = true ∧ roundBlocked s = false ∧ r.code = 0x50) ∧ (∀ w, w < 16 → pn (Pid.ACQ_RW_INPUT w) s ≠
      0x50) :=
  ⟨{ code := 0x50, value := 0x4B00, overrange := false, restarted := false, tempC10 := 0, vfMv := 0 }, { acqUp with acq := { acqUp.acq with running := true } }, by decide +kernel⟩

theorem witness_RoundsReferenceAndTemperature_4 : ∃ (r : InputResult) (w : Nat) (s : State),
    (converting s = true ∧ s.acq.running = true ∧ roundBlocked s = false ∧ r.code = 0x65 ∧ w < 16 ∧ swf {} s.eic.src = true) ∧ (pn
      (Pid.ACQ_RW_INPUT w) s = 0x65 ∧ (∀ i, i < 16 → i ≠ w → pn (Pid.ACQ_RW_INPUT i) s ≠ 0x65)) :=
  ⟨{ code := 0x65, value := 0x6800, overrange := false, restarted := false, tempC10 := 0, vfMv := 0 }, 3, setPv (Pid.ACQ_RW_INPUT 3) 0 0x65 (setPv (Pid.ACQ_RW_HIGH 3) 0 100 { acqUp with acq := { acqUp.acq with running := true } }), by decide +kernel⟩

theorem witness_RoundsReferenceAndTemperature_5 : ∃ (r : InputResult) (i : Fin 12) (z : Fin 9) (s : State),
    let x := s.therm.sens[i]
    let c := readC10 i r s
    let lv := fun k => x.levels.getD k 0
    (converting s = true ∧ s.acq.running = true ∧ roundBlocked s = false ∧ s.sys.inReset = false) ∧ (sensorOf r.code.val = some i ∧
      sensZone i s = some z ∧ z.val < 8 ∧ x.broken = false ∧ (∀ w, w < 16 → pn (Pid.ACQ_RW_INPUT w) s ≠ r.code.val)) ∧ (-550 ≤ c ∧ c ≤
      2000 ∧ (sensKind i s = 1 → 320 ≤ r.value.toInt ∧ r.value.toInt < 31680) ∧ (sensKind i s = 2 → 200 ≤ r.vfMv ∧ r.vfMv ≤ 900)) ∧ (lv 0
      ≤ c ∧ c < lv 1 - 100 ∧ c < lv 2 ∧ 0 ≤ lv 4 ∧ 0 ≤ lv 5 ∧ c < lv 1 - lv 4 - 100 ∧ c < lv 2 - lv 5) ∧ (zoneSens z.val s = [i.val] ∧
      s.therm.zone[z].warn = false ∧ s.therm.zone[z].throt = false ∧ s.therm.zone[z].shut = false ∧ x.fast = false) :=
  ⟨diodeRead 1884, 4, 0, inZone0, by
    intro x c lv
    have h : c = 800 ∨ c = 800 + 1 := of_diode (i := 4) (r := diodeRead 1884) (s := inZone0) rfl _ (by decide +kernel) (by decide +kernel) (by decide +kernel)
    clear_value c
    rcases h with rfl | rfl <;> decide +kernel +revert⟩

theorem witness_RoundsReferenceAndTemperature_6 : ∃ (r : InputResult) (i : Fin 12) (z : Fin 9) (s : State),
    let x := s.therm.sens[i]
    let c := readC10 i r s
    let lv := fun k => x.levels.getD k 0
    (converting s = true ∧ s.acq.running = true ∧ roundBlocked s = false ∧ s.sys.inReset = false) ∧ (sensorOf r.code.val = some i ∧
      sensZone i s = some z ∧ z.val < 8 ∧ x.broken = false ∧ (∀ w, w < 16 → pn (Pid.ACQ_RW_INPUT w) s ≠ r.code.val)) ∧ (-550 ≤ c ∧ c ≤
      2000 ∧ (sensKind i s = 1 → 320 ≤ r.value.toInt ∧ r.value.toInt < 31680) ∧ (sensKind i s = 2 → 200 ≤ r.vfMv ∧ r.vfMv ≤ 900) ∧ lv 2 ≤
      c) ∧ (zoneSens z.val s = [i.val] ∧ s.therm.zone[z].shut = false) :=
  ⟨diodeRead 2151, 4, 0, inZone0, by
    intro x c lv
    have h : c = 1301 ∨ c = 1301 + 1 := of_diode (i := 4) (r := diodeRead 2151) (s := inZone0) rfl _ (by decide +kernel) (by decide +kernel) (by decide +kernel)
    clear_value c
    rcases h with rfl | rfl <;> decide +kernel +revert⟩

theorem witness_RoundsReferenceAndTemperature_7 : ∃ (_e : Nat) (s : State),
    (converting s = true ∧ s.acq.running = true ∧ roundBlocked s = false ∧ s.acq.nextDue = false ∧ s.sys.inReset = false ∧ swf {}
      s.eic.src = true) :=
  ⟨1001, { acqUp with acq := { acqUp.acq with running := true } }, by decide +kernel⟩

theorem witness_RoundsReferenceAndTemperature_8 : ∃ (_e : Nat) (s : State),
    (s.acq.running = false) :=
  ⟨900, acqUp, by decide +kernel⟩

theorem witness_RoundsReferenceAndTemperature_9 : ∃ (_l : List InputResult) (s : State),
    (thermFast s = 0) :=
  ⟨[], acqUp, by decide +kernel⟩

theorem witness_RoundsReferenceAndTemperature_10 : ∃ (r : InputResult) (i : Fin 12) (s : State),
    let x := s.therm.sens[i]
    let c := readC10 i r s
    (converting s = true ∧ roundBlocked s = false ∧ (∀ j : Fin 8, s.acq.slot[j].st = .idle) ∧ nextTick 5 1000 s % 10000 ≠ 0 ∧
      s.sys.inReset = false) ∧ (sensorOf r.code.val = some i ∧ x.fast = true ∧ x.broken = false ∧ x.good = false ∧ sensZone i s = none) ∧
      ((∀ w, w < 16 → pn (Pid.ACQ_RW_INPUT w) s ≠ r.code.val) ∧ -550 ≤ c ∧ c ≤ 2000 ∧ sensKind i s ≠ 0 ∧ (sensKind i s = 1 → 320 ≤
      r.value.toInt ∧ r.value.toInt < 31680) ∧ (sensKind i s = 2 → 200 ≤ r.vfMv ∧ r.vfMv ≤ 900)) :=
  ⟨diodeRead 1884, 4, fastSens4, by
    intro x c
    have h : c = 800 ∨ c = 800 + 1 := of_diode (i := 4) (r := diodeRead 1884) (s := fastSens4) rfl _ (by decide +kernel) (by decide +kernel) (by decide +kernel)
    clear_value c
    rcases h with rfl | rfl <;> decide +kernel +revert⟩

theorem witness_RoundsReferenceAndTemperature_11 : ∃ (s : State),
    (acqRuns s = true ∧ s.acq.settled = false ∧ swf {} s.eic.src = true) :=
  ⟨{ acqUp with acq := { acqUp.acq with settled := false } }, by decide +kernel⟩

theorem witness_RoundsReferenceAndTemperature_12 : ∃ (s : State),
    (acqRuns s = false ∨ s.acq.settled = true) :=
  ⟨acqUp, by decide +kernel⟩

theorem witness_RoundsReferenceAndTemperature_13 : ∃ (s : State),
    (acqRuns s = true ∧ s.acq.ref = 2 ∧ pb Pid.ACQ_REF_AUTO s = true ∧ s.sys.inReset = false) :=
  ⟨setPv Pid.ACQ_REF_AUTO 0 1 { acqUp with acq := { acqUp.acq with ref := 2 } }, by decide +kernel⟩

theorem witness_RoundsReferenceAndTemperature_14 : ∃ (s : State),
    (s.acq.ref ≠ 2 ∨ pb Pid.ACQ_REF_AUTO s = false) :=
  ⟨acqUp, by decide +kernel⟩

theorem witness_RoundsReferenceAndTemperature_15 : ∃ (l : List Coef) (s : State),
    (shRuns 5 s = true ∧ converting s = true ∧ pb Pid.ACQ_CORR_EN s = true ∧ l.length = 16 ∧ s.acq.coef ≠ [] ∧ s.sys.inReset = false) :=
  ⟨List.replicate 16 ⟨1, 2, 3⟩, setPv Pid.ACQ_CORR_EN 0 1 { acqUp with acq := { acqUp.acq with coef := List.replicate 16 ⟨1, 2, 30⟩, corrFails := 2 } }, by decide +kernel⟩

theorem witness_RoundsReferenceAndTemperature_16 : ∃ (c : List Coef) (s : State),
    (s.acq.steep = some c ∧ acqRuns s = true ∧ (∀ j : Fin 8, s.acq.slot[j].st ≠ .running) ∧ s.sys.inReset = false ∧ swf {} s.eic.src =
      true) :=
  ⟨List.replicate 16 ⟨1, 2, 3⟩, { acqUp with acq := { acqUp.acq with steep := some (List.replicate 16 ⟨1, 2, 3⟩) } }, by decide +kernel⟩

theorem witness_RoundsReferenceAndTemperature_17 : ∃ (k : Fin 8) (d : CapDesc) (c : List Coef) (s : State),
    (s.acq.steep = some c ∧ s.acq.slot[k].st = .running ∧ s.acq.slot[k].desc = some d ∧ d.mode ≠ 0 ∧ s.sys.devTime < s.acq.steepAt +
      100000) :=
  ⟨0, { cap1 with mode := 2 }, [], withCap (fun y => { y with st := .running, desc := some { cap1 with mode := 2 } }) { acqUp with acq := { acqUp.acq with steep := some [], steepAt := 950000 } }, by decide +kernel⟩

theorem witness_RoundsReferenceAndTemperature_18 : ∃ (s : State),
    (s.acq.pourAt.isSome = true) :=
  ⟨{ acqUp with acq := { acqUp.acq with pourAt := some 5 } }, by decide +kernel⟩

theorem witness_RoundsReferenceAndTemperature_19 : ∃ (s : State),
    (s.acq.pourAt = none) :=
  ⟨acqUp, by decide +kernel⟩

theorem witness_RoundsReferenceAndTemperature_20 : ∃ (i : Fin 12) (s : State),
    let x := s.therm.sens[i]
    (x.broken = true ∧ x.good = true ∧ acqRuns s = true ∧ s.sys.inReset = false ∧ swf {} s.eic.src = true) :=
  ⟨4, { acqUp with therm := { acqUp.therm with sens := vmap (fun x => { x with broken := true, good := true }) acqUp.therm.sens } }, by decide +kernel⟩

theorem witness_RoundsReferenceAndTemperature_21 : ∃ (i : Fin 12) (s : State),
    (s.therm.sens[i].broken = false ∨ s.therm.sens[i].good = false) :=
  ⟨4, acqUp, by decide +kernel⟩

theorem witness_RoundsReferenceAndTemperature_22 : ∃ (m : BitVec 4) (s : State),
    (m = 0 ∨ m = 1 ∨ m = 2 ∨ m = 4 ∨ m = 8 ∨ (vgetD {} s.therm.zone 8).latch = true) :=
  ⟨4, acqUp, by decide +kernel⟩

theorem witness_RoundsReferenceAndTemperature_23 : ∃ (m : BitVec 4) (s : State),
    (m ≠ 0 ∧ m ≠ 1 ∧ m ≠ 2 ∧ m ≠ 4 ∧ m ≠ 8) ∧ ((vgetD {} s.therm.zone 8).latch = false ∧ s.sys.porActive = false ∧ s.sys.frameRun = true
      ∧ s.sys.inReset = false ∧ s.sys.rstnLong = false) :=
  ⟨3, { up with sys := { up.sys with frameRun := true } }, by decide +kernel⟩

theorem witness_RoundsReferenceAndTemperature_24 : ∃ (i : Fin 12) (s : State),
    (shRuns 5 s = true ∧ 4 ≤ i.val) :=
  ⟨4, up, by decide +kernel⟩

theorem witness_RoundsReferenceAndTemperature_25 : ∃ (_i : Fin 12) (s : State),
    (shRuns 5 s = false) :=
  ⟨4, early, by decide +kernel⟩

theorem witness_TypeCAndContracts_1 : ∃ (u : Fin 2) (s : State),
    let x := pdPort u s
    (pdRuns s = true ∧ pn (Pid.PD_ROLE u.val) s = 0 ∧ pn (Pid.PD_VR u.val) s < 12 ∧ (x.st = .unattachedSnk ∨ x.st = .unattachedSrc)) :=
  ⟨0, withPort (fun x => { x with st := .unattachedSnk, cc := .rd }) (setPv (Pid.PD_ROLE 0) 0 0 pdUp), by decide +kernel⟩

theorem witness_TypeCAndContracts_2 : ∃ (u : Fin 2) (s : State),
    (pdRuns s = false ∨ pn (Pid.PD_ROLE u.val) s ≠ 0 ∨ 12 ≤ pn (Pid.PD_VR u.val) s ∨ (pdPort u s).st = .attachedSnk) :=
  ⟨0, up, by decide +kernel⟩

theorem witness_TypeCAndContracts_3 : ∃ (u : Fin 2) (a : Attach) (s : State),
    let x := pdPort u s
    (pdRuns s = true ∧ a.source = false ∧ a.settled = true ∧ (x.st = .unattachedSnk ∨ x.st = .attachWaitSnk) ∧ s.sys.inReset = false ∧
      swf {} s.eic.src = true) ∧ (pn (Pid.PD_TRY u.val) s ≠ 1) :=
  ⟨0, ⟨false, false, true⟩, withPort (fun x => { x with st := .unattachedSnk, cc := .rd }) (setPv (Pid.PD_TRY 0) 0 0 pdUp), by decide +kernel⟩

theorem witness_TypeCAndContracts_4 : ∃ (u : Fin 2) (c : Fin 12) (a : Attach) (s : State),
    let x := pdPort u s
    (pdRuns s = true ∧ a.source = true ∧ a.settled = true ∧ (x.st = .unattachedSrc ∨ x.st = .attachWaitSrc) ∧ s.sys.inReset = false ∧ swf
      {} s.eic.src = true) ∧ (pn (Pid.PD_TRY u.val) s ≠ 2 ∧ pn (Pid.PD_VR u.val) s = c.val ∧ vrUsed c s = true ∧ s.sys.regStopped = false
      ∧ thermHeld (.vr c) s = false) ∧ (s.pwr.vr[c].st = .off ∧ vrCanStart c s = true ∧ s.pwr.vr[c].outMv = 0 ∧ 0 < pn (Pid.VR_OFF_PCT
      c.val) s) :=
  ⟨0, 0, ⟨true, true, true⟩, withPort (fun x => { x with st := .unattachedSrc, cc := .rp }) (setPv (Pid.PD_TRY 0) 0 0 (withChan (fun x => { x with outMv := 0 }) pdUp)), by decide +kernel⟩

theorem witness_TypeCAndContracts_5 : ∃ (u : Fin 2) (a : Attach) (s : State),
    (pdRuns s = true ∧ a.settled = false) :=
  ⟨0, ⟨true, true, false⟩, withPort (fun x => { x with st := .unattachedSrc, cc := .rp }) pdUp, by decide +kernel⟩

theorem witness_TypeCAndContracts_6 : ∃ (u : Fin 2) (a : Attach) (s : State),
    (pdRuns s = true ∧ a.settled = true ∧ pn (Pid.PD_ROLE u.val) s = 0 ∧ pn (Pid.PD_VR u.val) s < 12) :=
  ⟨0, ⟨false, false, true⟩, withPort (fun x => { x with st := .attachWaitSnk, cc := .rd }) (setPv (Pid.PD_TRY 0) 0 1 (setPv (Pid.PD_ROLE 0) 0 0 pdUp)), by decide +kernel⟩

theorem witness_TypeCAndContracts_7 : ∃ (u : Fin 2) (_a : Attach) (s : State),
    (pdRuns s = false ∨ (pdPort u s).st = .disabled ∨ (pdPort u s).st = .locked ∨ (pdPort u s).st = .errorRecovery) :=
  ⟨0, ⟨true, true, true⟩, pdUp, by decide +kernel⟩

theorem witness_TypeCAndContracts_8 : ∃ (u : Fin 2) (s : State),
    let x := pdPort u s
    (pdRuns s = true ∧ x.st = .attachedSnk ∧ x.source = false ∧ x.svc = false ∧ s.sys.inReset = false) :=
  ⟨0, setPv (Pid.PD_ROLE 0) 0 1 pdSink, by decide +kernel⟩

theorem witness_TypeCAndContracts_9 : ∃ (u : Fin 2) (s : State),
    let x := pdPort u s
    (pdRuns s = true ∧ (x.st = .attachWaitSnk ∨ x.st = .attachWaitSrc) ∧ x.svc = false) :=
  ⟨0, withPort (fun x => { x with st := .attachWaitSnk }) (setPv (Pid.PD_ROLE 0) 0 1 pdUp), by decide +kernel⟩

theorem witness_TypeCAndContracts_10 : ∃ (u : Fin 2) (s : State),
    let x := pdPort u s
    (pdRuns s = false ∨ (x.st ≠ .attachedSnk ∧ x.st ≠ .attachedSrc ∧ x.st ≠ .attachWaitSnk ∧ x.st ≠ .attachWaitSrc)) :=
  ⟨0, pdUp, by decide +kernel⟩

theorem witness_TypeCAndContracts_11 : ∃ (u : Fin 2) (rp : RpLevel) (s : State),
    let x := pdPort u s
    (pdRuns s = true ∧ x.st = .attachedSnk ∧ x.source = false ∧ x.rp ≠ rp ∧ x.pos = 0 ∧ s.sys.inReset = false) :=
  ⟨0, .a30, withPort (fun x => { x with pos := 0 }) pdSink, by decide +kernel⟩

theorem witness_TypeCAndContracts_12 : ∃ (u : Fin 2) (rp : RpLevel) (s : State),
    (pdRuns s = false ∨ (pdPort u s).source = true ∨ (pdPort u s).rp = rp) :=
  ⟨0, .dflt, pdUp, by decide +kernel⟩

theorem witness_TypeCAndContracts_13 : ∃ (u : Fin 2) (v : Nat) (s : State),
    let x := pdPort u s
    (pdRuns s = true ∧ x.st = .attachedSrc ∧ x.source = true ∧ x.chanOn = true ∧ x.gsrc = false ∧ x.hrSrc = false ∧ x.swap = none) ∧
      (chanPg u s = true ∧ v < 800 ∧ (srcAt (usbSrc u) s).gate = false) :=
  ⟨0, 100, withPort (fun x => { x with gsrc := false }) pdSource, by decide +kernel⟩

theorem witness_TypeCAndContracts_14 : ∃ (u : Fin 2) (v : Nat) (s : State),
    (800 ≤ v ∨ chanPg u s = false ∨ (pdPort u s).gsrc = true) :=
  ⟨0, 800, pdSource, by decide +kernel⟩

theorem witness_TypeCAndContracts_15 : ∃ (u : Fin 2) (v : Nat) (s : State),
    let x := pdPort u s
    (x.discharging = true ∧ x.swap = none ∧ x.st ≠ .disabled ∧ v < 800 ∧ s.sys.inReset = false ∧ swf {} s.eic.src = true) :=
  ⟨0, 799, withPort (fun x => { x with st := .errorRecovery, discharging := true }) pdSource, by decide +kernel⟩

theorem witness_TypeCAndContracts_16 : ∃ (_u : Fin 2) (v : Nat) (_s : State),
    (800 ≤ v) :=
  ⟨0, 800, pdSource, by decide +kernel⟩

theorem witness_TypeCAndContracts_17 : ∃ (u : Fin 2) (_pos _ma : Nat) (s : State),
    let x := pdPort u s
    (pdRuns s = true ∧ x.st = .attachedSrc ∧ x.source = true ∧ x.gsrc = true ∧ x.hrSrc = false) :=
  ⟨0, 1, 3000, pdSource, by decide +kernel⟩

theorem witness_TypeCAndContracts_18 : ∃ (u : Fin 2) (v : Nat) (c : Nat × Nat × Nat) (s : State),
    let x := pdPort u s
    (pdRuns s = true ∧ x.st = .attachedSrc ∧ x.source = true ∧ x.gsrc = true ∧ chanPg u s = true ∧ x.swap = none ∧ s.sys.inReset = false)
      ∧ (x.pend = some c ∧ x.slewed = true ∧ 95 * c.2.1 ≤ 100 * v ∧ 100 * v ≤ 105 * c.2.1) :=
  ⟨0, 9100, (2, 9000, 3000), withPort (fun x => { x with pend := some (2, 9000, 3000), slewed := true }) pdSource, by decide +kernel⟩

theorem witness_TypeCAndContracts_19 : ∃ (u : Fin 2) (v : Nat) (c : Nat × Nat × Nat) (s : State),
    let x := pdPort u s
    (x.pend = some c ∧ x.swap = none ∧ (x.slewed = false ∨ 100 * v < 95 * c.2.1 ∨ 105 * c.2.1 < 100 * v)) :=
  ⟨0, 8000, (2, 9000, 3000), withPort (fun x => { x with pend := some (2, 9000, 3000), slewed := true }) pdSource, by decide +kernel⟩

theorem witness_TypeCAndContracts_20 : ∃ (u : Fin 2) (o : OfferedPdo) (s : State),
    let x := pdPort u s
    (pdRuns s = true ∧ x.st = .attachedSnk ∧ x.source = false ∧ o.kind = .fixed ∧ o.pos ≤ 7) ∧ (pn (Pid.PD_SNK_VMIN_MV u.val) s ≤ o.maxMv
      ∧ o.maxMv ≤ pn (Pid.PD_SNK_VMAX_MV u.val) s) :=
  ⟨0, ⟨2, .fixed, 0, 20000, 5000⟩, setPv (Pid.PD_SNK_VMIN_MV 0) 0 9000 (setPv (Pid.PD_SNK_VMAX_MV 0) 0 21000 pdSink), by decide +kernel⟩

theorem witness_TypeCAndContracts_21 : ∃ (u : Fin 2) (_l : List OfferedPdo) (epr : Bool) (s : State),
    (pdRuns s = false ∨ (pdPort u s).source = true ∨ (epr = true ∧ (pdPort u s).epr = false)) :=
  ⟨0, [], true, pdSink, by decide +kernel⟩

theorem witness_TypeCAndContracts_22 : ∃ (u : Fin 2) (s : State),
    let x := pdPort u s
    (pdRuns s = true ∧ x.st = .attachedSnk ∧ x.source = false ∧ x.pps = true ∧ x.pos ≠ 0) :=
  ⟨0, withPort (fun x => { x with pps := true }) pdSink, by decide +kernel⟩

theorem witness_TypeCAndContracts_23 : ∃ (u : Fin 2) (s : State),
    ((pdPort u s).pps = false ∨ (pdPort u s).pos = 0) :=
  ⟨0, pdSink, by decide +kernel⟩

theorem witness_TypeCAndContracts_24 : ∃ (u : Fin 2) (k : Fin 11) (v : Nat) (s : State),
    let x := pdPort u s
    (pdRuns s = true ∧ pn (Pid.PD_VR u.val) s < 12 ∧ k ≠ 0 ∧ pdoValid u k.val s = true ∧ x.withdrawn.getLsbD k.val = false) ∧ (v < pdoMv
      u k.val s + pn Pid.PD_HR_MV s ∧ x.st ≠ .attachedSrc ∧ x.st ≠ .attachedSnk ∧ s.sys.inReset = false) :=
  ⟨0, 1, 9000, withPort (fun x => { x with st := .unattachedSrc }) pdSource, by decide +kernel⟩

theorem witness_TypeCAndContracts_25 : ∃ (u : Fin 2) (k : Fin 11) (v : Nat) (s : State),
    let x := pdPort u s
    (pdRuns s = true ∧ pn (Pid.PD_VR u.val) s < 12 ∧ k ≠ 0 ∧ pdoValid u k.val s = true ∧ x.withdrawn.getLsbD k.val = false) ∧ (v < pdoMv
      u k.val s + pn Pid.PD_HR_MV s ∧ v < 9000 + pn Pid.PD_HR_MV s ∧ s.sys.inReset = false) ∧ (x.st = .attachedSrc ∧ x.source = true ∧
      x.gsrc = true ∧ x.swap = none ∧ x.partnerDrp = true) :=
  ⟨0, 1, 9000, withPort (fun x => { x with partnerDrp := true }) pdSource, by decide +kernel⟩

theorem witness_TypeCAndContracts_26 : ∃ (u : Fin 2) (k : Fin 11) (v : Nat) (s : State),
    (k = 0 ∨ pdoValid u k.val s = false ∨ pdoMv u k.val s + pn Pid.PD_HR_MV s ≤ v) :=
  ⟨0, 0, 0, pdSource, by decide +kernel⟩

theorem witness_TypeCAndContracts_27 : ∃ (u : Fin 2) (k : Fin 11) (v : Nat) (s : State),
    let x := pdPort u s
    (pdRuns s = true ∧ x.withdrawn.getLsbD k.val = true ∧ x.st ≠ .attachedSrc ∧ s.sys.inReset = false) ∧ (pdoMv u k.val s + pn
      Pid.PD_HR_MV s + pn Pid.PD_HR_HYST_MV s ≤ v) :=
  ⟨0, 1, 40000, withPort (fun x => { x with st := .unattachedSrc, withdrawn := 2 }) pdSource, by decide +kernel⟩

theorem witness_TypeCAndContracts_28 : ∃ (u : Fin 2) (k : Fin 11) (v : Nat) (s : State),
    ((pdPort u s).withdrawn.getLsbD k.val = false ∨ v < pdoMv u k.val s + pn Pid.PD_HR_MV s + pn Pid.PD_HR_HYST_MV s) :=
  ⟨0, 1, 0, pdSource, by decide +kernel⟩

theorem witness_TypeCAndContracts_29 : ∃ (u : Fin 2) (vlink : Nat) (i : Nat) (s : State),
    let x := pdPort u s
    (pdRuns s = true ∧ x.st = .attachedSrc ∧ x.source = true ∧ x.swap = none ∧ x.svc = false ∧ x.hrCount < 2 ∧ s.sys.inReset = false) ∧
      ((i = 0 ∧ x.awaitReq = true) ∨ (i = 1 ∧ x.pos ≠ 0 ∧ offered u (x.pos - 1) s = none ∧ vlink < x.mv + 1000)) :=
  ⟨0, 0, 0, withPort (fun x => { x with awaitReq := true }) pdSource, by decide +kernel⟩

theorem witness_TypeCAndContracts_30 : ∃ (u : Fin 2) (s : State),
    ((pdPort u s).awaitReq = false) :=
  ⟨0, up, by decide +kernel⟩

theorem witness_TypeCAndContracts_31 : ∃ (u : Fin 2) (v : Nat) (s : State),
    ((pdPort u s).pos = 0 ∨ (pdPort u s).mv + 1000 ≤ v ∨ (offered u ((pdPort u s).pos - 1) s).isSome = true) :=
  ⟨0, 5, up, by decide +kernel⟩

theorem witness_TypeCAndContracts_32 : ∃ (u : Fin 2) (k : PdTimer) (s : State),
    (pdRuns s = true ∧ k ≠ .srcTransition ∧ k ≠ .srcRecover) :=
  ⟨0, .tryTimer, withPort (fun x => { x with st := .trySrc }) pdUp, by decide +kernel⟩

theorem witness_TypeCAndContracts_33 : ∃ (u : Fin 2) (k : PdTimer) (s : State),
    let x := pdPort u s
    (pdRuns s = true ∧ (x.st = .tryWaitSnk ∧ (k = .pdDebounce ∨ k = .tryWait) ∨ x.st = .tryWaitSrc ∧ k = .tryWait)) ∧ (x.svc = false ∧ pn
      (Pid.PD_ROLE u.val) s = 0) :=
  ⟨0, .tryWait, withPort (fun x => { x with st := .tryWaitSnk }) (setPv (Pid.PD_ROLE 0) 0 0 pdUp), by decide +kernel⟩

theorem witness_TypeCAndContracts_34 : ∃ (u : Fin 2) (s : State),
    let x := pdPort u s
    (pdRuns s = true ∧ x.st = .attachWaitSnk ∧ pn (Pid.PD_TRY u.val) s ≠ 1 ∧ s.sys.inReset = false) :=
  ⟨0, withPort (fun x => { x with st := .attachWaitSnk }) (setPv (Pid.PD_TRY 0) 0 0 pdUp), by decide +kernel⟩

theorem witness_TypeCAndContracts_35 : ∃ (u : Fin 2) (c : Nat × Nat × Nat) (ch : Fin 12) (s : State),
    let x := pdPort u s
    (pdRuns s = true ∧ x.st = .attachedSrc ∧ x.source = true ∧ x.swap = none ∧ x.pend = some c ∧ x.slewed = false ∧ pdChan u s = some ch)
      ∧ (s.pwr.vr[ch].st = .regulate ∧ s.pwr.vr[ch].slewing = false ∧ s.pwr.vr[ch].setMv ≠ c.2.1 ∧ s.sys.inReset = false) :=
  ⟨0, (2, 9000, 3000), 0, withPort (fun x => { x with pend := some (2, 9000, 3000) }) pdSource, by decide +kernel⟩

theorem witness_TypeCAndContracts_36 : ∃ (u : Fin 2) (s : State),
    let x := pdPort u s
    (pdRuns s = true ∧ x.st = .attachedSrc ∧ x.source = true ∧ x.swap = none ∧ x.svc = false ∧ s.sys.inReset = false) :=
  ⟨0, pdSource, by decide +kernel⟩

theorem witness_TypeCAndContracts_37 : ∃ (u : Fin 2) (s : State),
    (pn (Pid.PD_ROLE u.val) s = 3 ∨ pn (Pid.PD_ROLE u.val) s = 1) :=
  ⟨0, setPv (Pid.PD_ROLE 0) 0 1 pdSink, by decide +kernel⟩

theorem witness_SwapsResetsAndProtections_1 : ∃ (u : Fin 2) (_sent : Bool) (s : State),
    let x := pdPort u s
    (pdRuns s = true ∧ x.st = .attachedSrc ∧ x.source = true ∧ x.swap = none ∧ x.svc = false ∧ s.sys.inReset = false) :=
  ⟨0, true, withPort (fun x => { x with hrCount := 2 }) pdSource, by decide +kernel⟩

theorem witness_SwapsResetsAndProtections_2 : ∃ (u : Fin 2) (_sent : Bool) (s : State),
    (pdRuns s = false ∨ ((pdPort u s).st ≠ .attachedSnk ∧ (pdPort u s).st ≠ .attachedSrc)) :=
  ⟨0, false, pdUp, by decide +kernel⟩

theorem witness_SwapsResetsAndProtections_3 : ∃ (u : Fin 2) (s : State),
    let x := pdPort u s
    (pdRuns s = true ∧ x.st = .errorRecovery ∧ x.svc = false) :=
  ⟨0, setPv (Pid.PD_ROLE 0) 0 1 (withPort (fun x => { x with st := .errorRecovery }) pdUp), by decide +kernel⟩

theorem witness_SwapsResetsAndProtections_4 : ∃ (u : Fin 2) (s : State),
    ((pdPort u s).st ≠ .errorRecovery) :=
  ⟨0, pdUp, by decide +kernel⟩

theorem witness_SwapsResetsAndProtections_5 : ∃ (u : Fin 2) (_own : Bool) (s : State),
    let x := pdPort u s
    (pdRuns s = true ∧ x.st = .attachedSrc ∧ x.source = true ∧ x.hrSrc = false ∧ x.hrSnk = false ∧ x.swap = none) :=
  ⟨0, false, pdSource, by decide +kernel⟩

theorem witness_SwapsResetsAndProtections_6 : ∃ (_u : Fin 2) (_own : Bool) (s : State),
    (pdRuns s = false) :=
  ⟨0, false, up, by decide +kernel⟩

theorem witness_SwapsResetsAndProtections_7 : ∃ (u : Fin 2) (_own : Bool) (s : State),
    let x := pdPort u s
    (pdRuns s = true ∧ (x.st = .attachedSrc ∨ x.st = .attachedSnk) ∧ x.svc = false) :=
  ⟨0, false, pdSource, by decide +kernel⟩

theorem witness_SwapsResetsAndProtections_8 : ∃ (u : Fin 2) (_own : Bool) (s : State),
    let x := pdPort u s
    (pdRuns s = true ∧ (x.st = .attachedSrc ∨ x.st = .attachedSnk) ∧ x.swap = none) :=
  ⟨0, false, pdSource, by decide +kernel⟩

theorem witness_SwapsResetsAndProtections_9 : ∃ (u : Fin 2) (_r : Option CableVdo) (s : State),
    let x := pdPort u s
    (pdRuns s = true ∧ x.st = .attachedSnk ∧ x.source = false) :=
  ⟨0, some ⟨true, true, true⟩, withPort (fun x => { x with vconnSrc := true }) pdSink, by decide +kernel⟩

theorem witness_SwapsResetsAndProtections_10 : ∃ (u : Fin 2) (m : PdMessage) (s : State),
    let x := pdPort u s
    (pdRuns s = true ∧ (x.st = .attachedSrc ∨ x.st = .attachedSnk)) ∧ (m = .getSinkCap ∨ m = .unsupported ∨ m = .softReset ∨ m =
      .eprKeepAlive) :=
  ⟨0, .softReset, pdSink, by decide +kernel⟩

theorem witness_SwapsResetsAndProtections_11 : ∃ (u : Fin 2) (c : Nat × Nat × Nat) (s : State),
    let x := pdPort u s
    (pdRuns s = true ∧ x.st = .attachedSnk ∧ x.source = false ∧ x.swap = none ∧ x.pend = some c ∧ pb (Pid.PD_EPR_EN u.val) s = false ∧
      x.held = false ∧ s.sys.inReset = false) :=
  ⟨0, (2, 20000, 3000), setPv (Pid.PD_EPR_EN 0) 0 0 (withPort (fun x => { x with pend := some (2, 20000, 3000) }) pdSink), by decide +kernel⟩

theorem witness_SwapsResetsAndProtections_12 : ∃ (u : Fin 2) (c : Nat × Nat × Nat) (s : State),
    let x := pdPort u s
    (pdRuns s = true ∧ x.st = .attachedSnk ∧ x.source = false ∧ x.swap = none ∧ x.pend = some c ∧ s.sys.inReset = false) ∧ (c.2.1 ≠ (if
      x.pos = 0 then 5000 else x.mv)) :=
  ⟨0, (2, 9000, 3000), withPort (fun x => { x with pend := some (2, 9000, 3000) }) pdSink, by decide +kernel⟩

theorem witness_SwapsResetsAndProtections_13 : ∃ (u : Fin 2) (m : PdMessage) (d : Bool) (s : State),
    let x := pdPort u s
    (pdRuns s = true ∧ (x.st = .attachedSrc ∨ x.st = .attachedSnk)) ∧ (m = .accept ∨ m = .reject ∨ m = .wait ∨ m = .sinkCapabilities d) :=
  ⟨0, .accept, true, withPort (fun x => { x with swap := some .pr, sent := .prSwap }) pdSource, by decide +kernel⟩

theorem witness_SwapsResetsAndProtections_14 : ∃ (_u : Fin 2) (_m : PdMessage) (s : State),
    (pdRuns s = false) :=
  ⟨0, .accept, up, by decide +kernel⟩

theorem witness_SwapsResetsAndProtections_15 : ∃ (u : Fin 2) (v : Vdm) (s : State),
    let x := pdPort u s
    (pdRuns s = true ∧ (x.st = .attachedSrc ∨ x.st = .attachedSnk)) ∧ (v = .unstructured ∨ v = .other ∨ v = .discoverSvids) :=
  ⟨0, .discoverSvids, setPv (Pid.PD_SVC_EN 0) 0 1 pdSink, by decide +kernel⟩

theorem witness_SwapsResetsAndProtections_16 : ∃ (u : Fin 2) (_w : BitVec 16) (_m : Nat) (s : State),
    let x := pdPort u s
    (pdRuns s = true ∧ x.st = .attachedSnk ∧ x.dfp = false ∧ x.svc = false ∧ s.sys.inReset = false) :=
  ⟨0, 0x1234, 1, svidSet (setPv (Pid.PD_SVC_EN 0) 0 1 pdSink), by decide +kernel⟩

theorem witness_SwapsResetsAndProtections_17 : ∃ (u : Fin 2) (v : Nat) (s : State),
    let x := pdPort u s
    (pdRuns s = true ∧ x.st = .attachedSnk ∧ x.source = false ∧ x.svc = false ∧ x.pend = none ∧ s.sys.inReset = false) ∧ (115 * (if x.pos
      = 0 then 5000 else x.mv) ≤ 100 * v ∧ 6000 ≤ v) ∧ ((recentUs 60000000 s.sys.devTime x.faults).length + 1 < pn (Pid.PD_FAULT_MAX
      u.val) s) :=
  ⟨0, 24000, setPv (Pid.PD_FAULT_MAX 0) 0 3 pdSink, by decide +kernel⟩

theorem witness_SwapsResetsAndProtections_18 : ∃ (u : Fin 2) (v : Nat) (s : State),
    let x := pdPort u s
    (pdRuns s = true ∧ x.st = .attachedSnk ∧ x.source = false ∧ x.svc = false ∧ x.pend = none ∧ s.sys.inReset = false) ∧ (115 * (if x.pos
      = 0 then 5000 else x.mv) ≤ 100 * v ∧ 6000 ≤ v) ∧ (pn (Pid.PD_FAULT_MAX u.val) s ≤ (recentUs 60000000 s.sys.devTime x.faults).length
      + 1) :=
  ⟨0, 24000, setPv (Pid.PD_FAULT_MAX 0) 0 1 pdSink, by decide +kernel⟩

theorem witness_SwapsResetsAndProtections_19 : ∃ (_u : Fin 2) (v : Nat) (s : State),
    (pdRuns s = false ∨ v < 6000) :=
  ⟨0, 5999, pdSink, by decide +kernel⟩

theorem witness_SwapsResetsAndProtections_20 : ∃ (u : Fin 2) (ma : Nat) (s : State),
    let x := pdPort u s
    (pdRuns s = true ∧ x.st = .attachedSrc ∧ x.source = true ∧ x.gsrc = true ∧ x.svc = false ∧ x.swap = none ∧ x.hrCount < 2 ∧
      s.sys.inReset = false) ∧ (pn (Pid.PD_OCP_PCT u.val) s * (if x.pos = 0 then 500 else x.ma) ≤ 100 * ma) ∧ ((recentUs 60000000
      s.sys.devTime x.faults).length + 1 < pn (Pid.PD_FAULT_MAX u.val) s) :=
  ⟨0, 9000, setPv (Pid.PD_FAULT_MAX 0) 0 3 pdSource, by decide +kernel⟩

theorem witness_SwapsResetsAndProtections_21 : ∃ (u : Fin 2) (ma : Nat) (s : State),
    let x := pdPort u s
    (x.source = true ∧ (x.gsrc = false ∨ 100 * ma < pn (Pid.PD_OCP_PCT u.val) s * (if x.pos = 0 then 500 else x.ma))) :=
  ⟨0, 1, pdSource, by decide +kernel⟩

theorem witness_SwapsResetsAndProtections_22 : ∃ (u : Fin 2) (d : ReverseDrop) (s : State),
    let x := pdPort u s
    (pdRuns s = true ∧ x.st = .attachedSrc ∧ x.gsrc = true ∧ x.svc = false ∧ s.sys.inReset = false) ∧ (d.sink = false ∧ d.mv ≤ -5) ∧
      ((recentUs 60000000 s.sys.devTime x.faults).length + 1 < pn (Pid.PD_FAULT_MAX u.val) s) :=
  ⟨0, ⟨false, -5⟩, setPv (Pid.PD_FAULT_MAX 0) 0 3 pdSource, by decide +kernel⟩

theorem witness_SwapsResetsAndProtections_23 : ∃ (u : Fin 2) (d : ReverseDrop) (s : State),
    let x := srcAt (usbSrc u) s
    (pdRuns s = true ∧ (pdPort u s).st = .attachedSnk ∧ s.sys.inReset = false) ∧ (d.sink = true ∧ d.mv ≤ -5 ∧ x.gate = true ∧ x.inWin =
      true) ∧ ((recentUs 60000000 s.sys.devTime (pdPort u s).faults).length + 1 < pn (Pid.PD_FAULT_MAX u.val) s) :=
  ⟨0, ⟨true, -6⟩, withUsba (fun x => { x with gate := true, st := .enabled, inWin := true }) (setPv (Pid.PD_FAULT_MAX 0) 0 3 pdSink), by decide +kernel⟩

theorem witness_SwapsResetsAndProtections_24 : ∃ (u : Fin 2) (d : ReverseDrop) (s : State),
    (pdRuns s = false ∨ -5 < d.mv ∨ (d.sink = false ∧ (pdPort u s).gsrc = false) ∨ (d.sink = true ∧ (srcAt (usbSrc u) s).gate = false)) :=
  ⟨0, ⟨false, -5⟩, pdSink, by decide +kernel⟩

theorem witness_SwapsResetsAndProtections_25 : ∃ (u : Fin 2) (s : State),
    let x := pdPort u s
    (pdRuns s = true ∧ x.st = .attachedSrc ∧ x.vconn = true ∧ s.sys.inReset = false) ∧ ((recentUs 60000000 s.sys.devTime x.faults).length
      + 1 < pn (Pid.PD_FAULT_MAX u.val) s) :=
  ⟨0, setPv (Pid.PD_FAULT_MAX 0) 0 3 (withPort (fun x => { x with vconn := true }) pdSource), by decide +kernel⟩

theorem witness_SwapsResetsAndProtections_26 : ∃ (u : Fin 2) (s : State),
    (pdRuns s = false ∨ (pdPort u s).vconn = false) :=
  ⟨0, pdSink, by decide +kernel⟩

theorem witness_SwapsResetsAndProtections_27 : ∃ (u : Fin 2) (s : State),
    let i := usbSrc u
    (frameOn s = true ∧ (srcAt i s).limiting = true ∧ linkRuns s = true ∧ s.path.link = .battery ∧ s.est.test = none) ∧ ((srcAt i s).st ≠
      .quarantined ∧ (srcAt i s).st ≠ .disabled) ∧ ((recentUs 60000000 s.sys.devTime (srcAt i s).exits).length + 1 ≤ pn
      Pid.SRC_BOUNCE_MAX s) :=
  ⟨0, withUsba (fun x => { x with limiting := true, gate := true, st := .enabled, inWin := true }) (inLink .battery linkUp), by decide +kernel⟩

theorem witness_SwapsResetsAndProtections_28 : ∃ (u : Fin 2) (s : State),
    ((srcAt (usbSrc u) s).limiting = false) :=
  ⟨0, up, by decide +kernel⟩

theorem witness_SwapsResetsAndProtections_29 : ∃ (u : Fin 2) (p : Port) (tag : Tag) (x : Slot) (s : State),
    let y := pdPort u s
    (Admitted 0x801 p tag x s) ∧ (CqRoom p s) ∧ ((x.word 1).getLsbD 0 = decide (u = 1) ∧ y.gsrc = false ∧ (srcAt (usbSrc u) s).gate =
      false) :=
  ⟨0, .spia, 7, slotW 0x801 [0], adm 0x801 [0] (withPort (fun x => { x with gsrc := false }) pdSource), by decide +kernel⟩

theorem witness_SwapsResetsAndProtections_30 : ∃ (p : Port) (tag : Tag) (x : Slot) (s : State),
    (Admitted 0x810 p tag x s) ∧ (CqRoom p s) ∧ (s.pd.imageBad = true) :=
  ⟨.spia, 7, slotW 0x810 [], adm 0x810 [] { up with pd := { up.pd with imageBad := true } }, by decide +kernel⟩

theorem witness_SwapsResetsAndProtections_31 : ∃ (p : Port) (tag : Tag) (x : Slot) (s : State),
    (Admitted 0x810 p tag x s) ∧ (s.pd.imageBad = false ∧ s.sys.inReset = false ∧ s.sys.porActive = false ∧ s.pd.a.st ≠ .attachedSnk ∧
      s.pd.b.st ≠ .attachedSnk) :=
  ⟨.spia, 7, slotW 0x810 [], adm 0x810 [] pdSource, by decide +kernel⟩

theorem witness_SwapsResetsAndProtections_32 : ∃ (u : Fin 2) (p : Port) (tag : Tag) (x : Slot) (s : State),
    let y := pdPort u s
    (Admitted 0x811 p tag x s) ∧ (CqRoom p s) ∧ ((x.word 1).getLsbD 0 = decide (u = 1) ∧ (y.st = .disabled ∨ y.st = .locked)) :=
  ⟨0, .spia, 7, slotW 0x811 [0], adm 0x811 [0] up, by decide +kernel⟩

theorem witness_SwapsResetsAndProtections_33 : ∃ (u : Fin 2) (p : Port) (tag : Tag) (x : Slot) (s : State),
    let y := pdPort u s
    (Admitted 0x811 p tag x s) ∧ (CqRoom p s) ∧ ((x.word 1).getLsbD 0 = decide (u = 1) ∧ (x.word 1).getLsbD 8 = true ∧ y.st ≠ .disabled ∧
      y.st ≠ .locked ∧ s.sys.inReset = false) :=
  ⟨0, .spia, 7, slotW 0x811 [0x100], adm 0x811 [0x100] pdSource, by decide +kernel⟩

theorem witness_SwapsResetsAndProtections_34 : ∃ (p : Port) (x : Slot) (s : State),
    (s.sys.boot.bootDone = true ∧ s.sys.inReset = false ∧ s.sys.pfHeld = false ∧ s.pd.imageBad = false ∧ s.pd.coreRuns = false) ∧
      (s.store.fw.pdVersion.isSome = true ∧ s.sys.dbgHalt.getLsbD 7 = false ∧ s.pd.waiters = [(p, x.tag)] ∧ findSlot p x.tag s = some x)
      ∧ (CqRoom p s) :=
  ⟨.spia, { slotW 0x810 [] with status := .running }, pdWaits (runningNow 0x810 [] { up with store := { up.store with fw := { up.store.fw with pdVersion := some 1 } } }), by decide +kernel⟩

theorem witness_SwapsResetsAndProtections_35 : ∃ (_v : Bool) (s : State),
    (s.pd.imageBad = true ∨ s.pd.coreRuns = true ∨ s.sys.boot.bootDone = false ∨ s.sys.inReset = true) :=
  ⟨false, pdUp, by decide +kernel⟩

theorem witness_SwapsResetsAndProtections_36 : ∃ (u : Fin 2) (_sent : Bool) (s : State),
    let x := pdPort u s
    (pdRuns s = true ∧ x.st = .attachedSnk ∧ x.source = false ∧ x.swap = none ∧ x.svc = false ∧ s.sys.inReset = false) :=
  ⟨0, true, pdSink, by decide +kernel⟩

theorem witness_SwapsResetsAndProtections_37 : ∃ (u : Fin 2) (_own : Bool) (s : State),
    let x := pdPort u s
    (pdRuns s = true ∧ x.st = .attachedSnk ∧ x.source = false ∧ x.hrSrc = false ∧ x.hrSnk = false ∧ x.swap = none) ∧ (pb
      (Pid.PD_PRS_ACCEPT u.val) s = false ∨ canSource u s = false ∨ onlyPath u s = true) :=
  ⟨0, false, setPv (Pid.PD_PRS_ACCEPT 0) 0 0 pdSink, by decide +kernel⟩

theorem witness_SwapsResetsAndProtections_38 : ∃ (u : Fin 2) (_own : Bool) (s : State),
    let x := pdPort u s
    (pdRuns s = true ∧ x.st = .attachedSnk ∧ x.source = false ∧ x.hrSrc = false ∧ x.hrSnk = false ∧ x.swap = none) ∧ (pb
      (Pid.PD_PRS_ACCEPT u.val) s = true ∧ canSource u s = true ∧ onlyPath u s = false) :=
  ⟨0, false, setPv (Pid.PD_PRS_ACCEPT 0) 0 1 (withUsba (fun x => { x with gate := true, st := .enabled, inWin := true }) pdSink), by decide +kernel⟩

theorem witness_SwapsResetsAndProtections_39 : ∃ (u : Fin 2) (p : Port) (tag : Tag) (x : Slot) (s : State),
    let y := pdPort u s
    let i := usbSrc u
    (Admitted 0x801 p tag x s) ∧ (CqRoom p s) ∧ ((x.word 1).getLsbD 0 = decide (u = 1) ∧ y.gsrc = false ∧ (srcAt i s).gate = true) :=
  ⟨0, .spia, 7, slotW 0x801 [0], adm 0x801 [0] (withUsba (fun x => { x with gate := true, st := .enabled, inWin := true }) pdSink), by decide +kernel⟩

theorem witness_SwapsResetsAndProtections_40 : ∃ (s : State),
    (s.sys.boot.bootDone = true ∧ s.sys.inReset = false ∧ s.sys.pfHeld = false ∧ s.pd.imageBad = false ∧ s.pd.coreRuns = false) ∧
      (s.store.fw.pdVersion.isSome = true ∧ s.sys.dbgHalt.getLsbD 7 = false ∧ s.pd.waiters = []) ∧ (s.sys.boot.full = true ∧
      s.est.cutDown = none) ∧ (s.pd.a.st = .disabled ∧ s.pd.b.st = .disabled ∧ s.pd.a.svc = false ∧ s.pd.b.svc = false) :=
  ⟨{ up with pd := { up.pd with coreRuns := false }, sys := { up.sys with boot := { up.sys.boot with bootDone := true, full := true } }, store := { up.store with fw := { up.store.fw with pdVersion := some 1 } } }, by decide +kernel⟩

theorem witness_PowerStateSelects_1 : ∃ (p : Port) (tag : Tag) (x : Slot) (s : State),
    let k := bitsOf (x.word 1) 0 2
    (Admitted 0x010 p tag x s) ∧ (CqRoom p s) ∧ (k ≠ 1 ∧ k ≠ 2) :=
  ⟨.spia, 7, slotW 0x010 [3], adm 0x010 [3] up, by decide +kernel⟩

theorem witness_PowerStateSelects_2 : ∃ (p : Port) (tag : Tag) (x : Slot) (s : State),
    let k := bitsOf (x.word 1) 0 2
    (Admitted 0x010 p tag x s) ∧ (CqRoom p s) ∧ ((k = 1 ∨ k = 2) ∧ s.sys.mode ≠ .test ∧ s.heddle.safeHold = false ∧ allGroupsDown s =
      true ∧ s.pd.a.pos = 0 ∧ s.pd.b.pos = 0) :=
  ⟨.spia, 7, slotW 0x010 [1], adm 0x010 [1] (allGroups .down up), by decide +kernel⟩

theorem witness_SleepAndKettle_1 : ∃ (p : Port) (tag : Tag) (x : Slot) (s : State),
    let k := bitsOf (x.word 1) 0 2
    (Admitted 0x010 p tag x s) ∧ (CqRoom p s) ∧ ((k = 1 ∨ k = 2) ∧ (s.sys.mode = .test ∨ s.heddle.safeHold = true ∨ allGroupsDown s =
      false ∨ s.pd.a.pos ≠ 0 ∨ s.pd.b.pos ≠ 0)) :=
  ⟨.spia, 7, slotW 0x010 [2], adm 0x010 [2] (inMode .test up), by decide +kernel⟩

theorem witness_SleepAndKettle_2 : ∃ (s : State),
    (awake s = true ∧ s.sys.porActive = false ∧ s.store.res.switched = false ∧ s.sys.inReset = false ∧ swf {} s.eic.src = true) ∧
      (s.pd.a.st ≠ .attachedSnk ∧ s.pd.b.st ≠ .attachedSnk) :=
  ⟨up, by decide +kernel⟩

theorem witness_SleepAndKettle_3 : ∃ (s : State),
    (awake s = false ∨ s.sys.porActive = true ∨ s.store.res.switched = true) :=
  ⟨{ up with sys := { up.sys with porActive := true } }, by decide +kernel⟩

theorem witness_SleepAndKettle_4 : ∃ (s : State),
    (s.store.res.switched = true ∧ s.sys.pfHeld = true ∧ s.sys.porActive = false) :=
  ⟨{ up with sys := { up.sys with pfHeld := true }, store := { up.store with res := { up.store.res with switched := true } } }, by decide +kernel⟩

theorem witness_SleepAndKettle_5 : ∃ (s : State),
    (s.store.res.switched = false) :=
  ⟨up, by decide +kernel⟩

theorem witness_SleepAndKettle_6 : ∃ (d q : Nat) (s : State),
    (cmdRuns s = true ∧ d ≠ 0 ∧ q * d ≤ 10000 ∧ 10000 < (q + 1) * d ∧ q < 65535) :=
  ⟨500, 20, up, by decide +kernel⟩

theorem witness_SleepAndKettle_7 : ∃ (s : State),
    (cmdRuns s = true) :=
  ⟨up, by decide +kernel⟩

theorem witness_SleepAndKettle_8 : ∃ (_d : Nat) (s : State),
    (cmdRuns s = false) :=
  ⟨1, early, by decide +kernel⟩

theorem witness_SleepAndKettle_9 : ∃ (w : KettleLowCause) (s : State),
    let c : Bool := if w = .voltage then s.store.res.ready && !s.store.res.lowVolt else decide (s.store.res.cEst < pn Pid.KETTLE_C_MIN_UF s)
    (c = true ∧ s.sys.inReset = false ∧ swf {} s.eic.src = true) :=
  ⟨.voltage, { up with store := { up.store with res := { up.store.res with ready := true } } }, by decide +kernel⟩

theorem witness_SleepAndKettle_10 : ∃ (s : State),
    (s.store.res.ready = false ∨ s.store.res.lowVolt = true) :=
  ⟨up, by decide +kernel⟩

theorem witness_SleepAndKettle_11 : ∃ (s : State),
    (pn Pid.KETTLE_C_MIN_UF s ≤ s.store.res.cEst) :=
  ⟨setPv Pid.KETTLE_C_MIN_UF 0 0 up, by decide +kernel⟩

theorem witness_SleepAndKettle_12 : ∃ (s : State),
    (s.sys.saving = true ∧ s.sys.sleepReq = none ∧ s.sys.inReset = false ∧ swf {} s.eic.src = true) :=
  ⟨{ up with sys := { up.sys with saving := true } }, by decide +kernel⟩

theorem witness_SleepAndKettle_13 : ∃ (k : SleepKind) (s : State),
    (s.sys.saving = true ∧ s.sys.sleepReq = some k) :=
  ⟨.deepSleep, { up with sys := { up.sys with saving := true, sleepReq := some .deepSleep } }, by decide +kernel⟩

theorem witness_SleepAndKettle_14 : ∃ (_b : Option (BitVec 8)) (s : State),
    (s.sys.saving = false) :=
  ⟨some 3, up, by decide +kernel⟩

theorem witness_SleepAndKettle_15 : ∃ (w : WakeCause) (s : State),
    (s.sys.power = .deepSleep ∧ (∀ n, w = .gpio n → pn (Pid.GPIO_CFG n.val) s % 16 = 6) ∧ s.sys.saving = false ∧ s.sys.rstnLong = false) :=
  ⟨.rtcAlarm, { up with sys := { up.sys with power := .deepSleep } }, by decide +kernel⟩

theorem witness_SleepAndKettle_16 : ∃ (w : WakeCause) (s : State),
    (s.sys.power ≠ .deepSleep ∨ (∃ n : Fin 16, w = .gpio n ∧ pn (Pid.GPIO_CFG n.val) s % 16 ≠ 6)) :=
  ⟨.wakePin, up, by decide +kernel⟩

theorem witness_SleepAndKettle_17 : ∃ (w : WakeCause) (s : State),
    ((w = .wakePin ∨ w = .rtcAlarm) ∧ s.sys.power = .ship) :=
  ⟨.wakePin, { up with sys := { up.sys with power := .ship } }, by decide +kernel⟩

theorem witness_SleepAndKettle_18 : ∃ (w : WakeCause) (s : State),
    ((w ≠ .wakePin ∧ w ≠ .rtcAlarm) ∨ s.sys.power ≠ .ship) :=
  ⟨.wakePin, up, by decide +kernel⟩

theorem witness_SleepAndKettle_19 : ∃ (_pg : BitVec 8) (s : State),
    (s.sys.saving = true ∧ s.sys.sleepReq = none ∧ s.sys.inReset = false ∧ swf {} s.eic.src = true) :=
  ⟨3, { up with sys := { up.sys with saving := true } }, by decide +kernel⟩

theorem witness_SelvedgePicksAndClears_1 : ∃ (p : Port) (tag : Tag) (x : Slot) (s : State),
    let k := bitsOf (x.word 1) 0 8
    let a := (x.word 2).toNat
    (Admitted 0x901 p tag x s) ∧ (CqRoom p s) ∧ (k = 0 ∨ (k = 1 ∧ a ≤ 0x21F) ∨ (k = 2 ∧ a ≤ 15) ∨ (k = 3 ∧ a ≤ 63) ∨ k = 4) :=
  ⟨.spia, 7, slotW 0x901 [1, 0x108], adm 0x901 [1, 0x108] up, by decide +kernel⟩

theorem witness_SelvedgePicksAndClears_2 : ∃ (p : Port) (tag : Tag) (x : Slot) (s : State),
    let k := bitsOf (x.word 1) 0 8
    let a := (x.word 2).toNat
    (Admitted 0x901 p tag x s) ∧ (CqRoom p s) ∧ (4 < k ∨ (k = 1 ∧ 0x21F < a) ∨ (k = 2 ∧ 15 < a) ∨ (k = 3 ∧ 63 < a)) :=
  ⟨.spia, 7, slotW 0x901 [3, 64], adm 0x901 [3, 64] up, by decide +kernel⟩

theorem witness_SelvedgePicksAndClears_3 : ∃ (p : Port) (tag : Tag) (x : Slot) (s : State),
    let a := bitsOf (x.word 1) 0 10
    (Admitted 0x902 p tag x s) ∧ (CqRoom p s) ∧ (a ≠ 0x3FF ∧ swf 0 s.selv.status = true ∧ swf 0 s.selv.refused = true ∧ s.sys.inReset =
      false ∧ sget 0 s.selv.refused a ≤ 255) :=
  ⟨.spia, 7, slotW 0x902 [0x100, 0x10000], adm 0x902 [0x100, 0x10000] { up with selv := { up.selv with status := [(0x100, 0x10000)] } }, by decide +kernel⟩

theorem witness_SelvedgePicksAndClears_4 : ∃ (p : Port) (tag : Tag) (x : Slot) (s : State),
    (Admitted 0x902 p tag x s) ∧ (CqRoom p s) ∧ (bitsOf (x.word 1) 0 10 = 0x3FF) :=
  ⟨.spia, 7, slotW 0x902 [0x3FF], adm 0x902 [0x3FF] { up with selv := { up.selv with errLatch := true } }, by decide +kernel⟩

theorem witness_SelvedgePicksAndClears_5 : ∃ (p : Port) (tag : Tag) (x : Slot) (s : State),
    (Admitted 0x903 p tag x s) ∧ (CqRoom p s) :=
  ⟨.spia, 7, slotW 0x903 [0, 1340], adm 0x903 [0, 1340] { up with store := { up.store with nvm := { up.store.nvm with faultSets := [(0, faultNow false up)] } } }, by decide +kernel⟩

theorem witness_SelvedgePicksAndClears_6 : ∃ (p : Port) (tag : Tag) (x : Slot) (s : State),
    (Admitted 0x904 p tag x s) ∧ (CqRoom p s) :=
  ⟨.spia, 7, slotW 0x904 [0x10020, 1, 8], adm 0x904 [0x10020, 1, 8] (inMode .test { up with store := { up.store with otp := { up.store.otp with words := [(0x1A0, 1)], shadow := [(0x1A0, 1)] } } }), by decide +kernel⟩

theorem witness_SelvedgePicksAndClears_7 : ∃ (q : IntakePick) (l : List IntakePick) (s : State),
    (s.selv.intake = q :: l ∧ s.sys.inReset = false ∧ merges q s = false) :=
  ⟨⟨mkPick 0x100 0x10 3, false, 5⟩, [], { up with selv := { up.selv with intake := [⟨mkPick 0x100 0x10 3, false, 5⟩] } }, by decide +kernel⟩

theorem witness_SelvedgePicksAndClears_8 : ∃ (q : IntakePick) (l : List IntakePick) (s : State),
    let r := reactSet q.pick s
    (s.selv.intake = q :: l ∧ s.sys.inReset = false ∧ merges q s = false ∧ selvOver s = false) ∧ (q.pick.mild = false ∧ 0x080 ≤
      q.pick.src.toNat ∧ q.carried = false ∧ swf 0 s.selv.status = true ∧ swf {} s.eic.src = true ∧ r.testBit 3 = false) :=
  ⟨⟨mkPick 0x100 0x10 3, false, 5⟩, [], { up with selv := { up.selv with intake := [⟨mkPick 0x100 0x10 3, false, 5⟩] } }, by decide +kernel⟩

theorem witness_SelvedgePicksAndClears_9 : ∃ (q : IntakePick) (l : List IntakePick) (r : SelvRec) (s : State),
    (s.selv.intake = q :: l ∧ s.sys.inReset = false ∧ s.selv.ring.getLast? = some r) ∧ (r.pick = q.pick ∧ q.time ≤ r.time + pn
      Pid.SELV_MERGE_US s ∧ pn Pid.SELV_MERGE_US s ≠ 0) :=
  ⟨⟨mkPick 0x100 0x10 3, false, 5⟩, [], ⟨mkPick 0x100 0x10 3, 255, 0, false, false, false, false, 5⟩, { setPv Pid.SELV_MERGE_US 0 100 up with selv := { up.selv with intake := [⟨mkPick 0x100 0x10 3, false, 5⟩], ring := [⟨mkPick 0x100 0x10 3, 255, 0, false, false, false, false, 5⟩] } }, by decide +kernel⟩

theorem witness_SelvedgePicksAndClears_10 : ∃ (s : State),
    (s.selv.intake = [] ∨ s.sys.inReset = true) :=
  ⟨up, by decide +kernel⟩

theorem witness_SelvedgePicksAndClears_11 : ∃ (s : State),
    (swf 0 s.selv.status = true) :=
  ⟨up, by decide +kernel⟩

theorem witness_EventControllerAndInputs_1 : ∃ (n : BitVec 8) (s : State),
    (s.sys.inReset = false ∧ eicReserved n.toNat = false ∧ swf {} s.eic.src = true) :=
  ⟨84, up, by decide +kernel⟩

theorem witness_EventControllerAndInputs_2 : ∃ (n : BitVec 8) (s : State),
    (s.sys.inReset = true ∨ eicReserved n.toNat = true) :=
  ⟨139, up, by decide +kernel⟩

theorem witness_EventControllerAndInputs_3 : ∃ (n : BitVec 8) (k : Fin 9) (s : State),
    (route n.toNat s = some k.val) :=
  ⟨84, 0, { up with eic := { up.eic with src := [(84, { pending := true, count := 1 })] } }, by decide +kernel⟩

theorem witness_EventControllerAndInputs_4 : ∃ (n : BitVec 8) (s : State),
    ((s.eic.get n.toNat).pending = false ∨ (s.eic.get n.toNat).storm = true ∨ eicPrio n.toNat s = 0) :=
  ⟨84, up, by decide +kernel⟩

theorem witness_EventControllerAndInputs_5 : ∃ (n : Nat) (k : Fin 9) (s : State),
    let y := s.eic.tgt[k]
    (y.assigned = some n ∧ route n s = some k.val ∧ swf {} s.eic.src = true) :=
  ⟨84, 0, { up with eic := { up.eic with src := [(84, { pending := true, count := 1 })], tgt := Vector.replicate 9 { assigned := some 84 } } }, by decide +kernel⟩

theorem witness_EventControllerAndInputs_6 : ∃ (k : Fin 9) (s : State),
    (∀ n, s.eic.tgt[k].assigned = some n → route n s ≠ some k.val) :=
  ⟨0, up, by decide +kernel⟩

theorem witness_EventControllerAndInputs_7 : ∃ (k : Fin 9) (n : BitVec 8) (r : Nat) (l : List (Nat × Nat)) (s : State),
    let y := s.eic.tgt[k]
    (y.claims = (n.toNat, r) :: l) :=
  ⟨0, 84, 3, [], { up with eic := { up.eic with tgt := Vector.replicate 9 { running := 12, claims := [(84, 3)] } } }, by decide +kernel⟩

theorem witness_EventControllerAndInputs_8 : ∃ (k : Fin 9) (n : BitVec 8) (s : State),
    (s.eic.tgt[k].claims.all (fun c => c.1 != n.toNat) = true ∧ s.sys.inReset = false) :=
  ⟨0, 84, up, by decide +kernel⟩

theorem witness_EventControllerAndInputs_9 : ∃ (p : Port) (tag : Tag) (x : Slot) (s : State),
    (Admitted 0x910 p tag x s) ∧ (CqRoom p s) ∧ (s.sys.inReset = false ∧ swf {} s.eic.src = true) :=
  ⟨.spia, 7, slotW 0x910 [232], adm 0x910 [232] up, by decide +kernel⟩

theorem witness_EventControllerAndInputs_10 : ∃ (p : Port) (tag : Tag) (x : Slot) (s : State),
    (Admitted 0x911 p tag x s) ∧ (CqRoom p s) ∧ (swf {} s.eic.src = true) :=
  ⟨.spia, 7, slotW 0x911 [0x1010F], adm 0x911 [0x1010F] { up with eic := { up.eic with src := [(15, { pending := true, count := 1 })] } }, by decide +kernel⟩

theorem witness_EventControllerAndInputs_11 : ∃ (n : Fin 16) (s : State),
    (gpioRuns s = false ∨ gpioFunc n s = 0 ∨ gpioFunc n s = 5) :=
  ⟨0, State.reset, by decide +kernel⟩

theorem witness_EventControllerAndInputs_12 : ∃ (n : Fin 16) (s : State),
    let f := gpioFunc n s
    (gpioRuns s = true ∧ f ≠ 0 ∧ f ≠ 5 ∧ s.gpio[n].fresh = false ∧ swf {} s.eic.src = true ∧ s.est.test = none ∧ (s.eic.get n.val).storm
      = false) ∧ (0 < eicPrio n.val s ∧ (eicTargets n.val s).testBit 0 = true ∧ cmdRuns s = true ∧ eicExempt n.val s = true ∧ f ≠ 4) :=
  ⟨3, setPv (Pid.GPIO_CFG 3) 0 2 (setPv (Pid.EIC_SRC 3) 0 0x2018 { up with gpio := vmap (fun g => { g with fresh := false }) up.gpio }), by decide +kernel⟩

theorem witness_EventControllerAndInputs_13 : ∃ (n : Fin 16) (s : State),
    (gpioRuns s = true ∧ gpioFunc n s ≠ 0 ∧ gpioFunc n s ≠ 5 ∧ swf {} s.eic.src = true ∧ (eicTargets n.val s).testBit 0 = false) :=
  ⟨3, setPv (Pid.GPIO_CFG 3) 0 1 (setPv (Pid.EIC_SRC 3) 0 0x28 up), by decide +kernel⟩

theorem witness_EventControllerAndInputs_14 : ∃ (n : Fin 16) (s : State),
    (gpioRuns s = true ∧ gpioFunc n s = 2 ∧ s.gpio[n].alarmed = true) :=
  ⟨3, setPv (Pid.GPIO_CFG 3) 0 2 { up with gpio := vmap (fun g => { g with alarmed := true }) up.gpio }, by decide +kernel⟩

theorem witness_EventControllerAndInputs_15 : ∃ (n : Fin 16) (s : State),
    (gpioRuns s = true ∧ gpioFunc n s = 3 ∧ s.gpio[n].alarmed = true) :=
  ⟨3, setPv (Pid.GPIO_CFG 3) 0 3 { up with gpio := vmap (fun g => { g with alarmed := true }) up.gpio }, by decide +kernel⟩

theorem witness_EventControllerAndInputs_16 : ∃ (n : Fin 16) (s : State),
    (s.gpio[n].alarmed = false ∨ gpioRuns s = false ∨ gpioFunc n s ≠ 2) :=
  ⟨3, up, by decide +kernel⟩

theorem witness_EventControllerAndInputs_17 : ∃ (n : Fin 16) (s : State),
    (s.gpio[n].alarmed = false ∨ gpioRuns s = false ∨ gpioFunc n s ≠ 3) :=
  ⟨3, up, by decide +kernel⟩

theorem witness_HeddleWindowsAndLadder_1 : ∃ (w : Proc) (d : Fin 16) (c : Nat) (_pc : W) (s : State),
    let i := procCode w
    let x := watch i s
    (watching i s = true ∧ x.armed = true ∧ i ≠ 8 ∧ s.sys.resetBegun = none) ∧ (openCycle i x ≤ c ∧ c < closeCycle i x ∧ (threadsOf
      x).getLsbD d.val = true ∧ x.checked.getLsbD d.val = false) :=
  ⟨.cmd, 0, 240000, 5, { up with heddle := { up.heddle with w := vmap (fun _ => { reg := some ⟨3, 250, 2000⟩, armed := true }) up.heddle.w } }, by decide +kernel⟩

theorem witness_HeddleWindowsAndLadder_2 : ∃ (w : Proc) (_d : Fin 16) (_c : Nat) (_pc : W) (s : State),
    let i := procCode w
    let x := watch i s
    (watching i s = true ∧ x.armed = true ∧ i ≠ 8 ∧ s.sys.resetBegun = none ∧ s.sys.boot.bootDone = true ∧ s.sys.bootErr ≠ 2) :=
  ⟨.cmd, 0, 240, 5, { up with heddle := { up.heddle with w := vmap (fun _ => { reg := some ⟨3, 250, 2000⟩, armed := true }) up.heddle.w } }, by decide +kernel⟩

theorem witness_HeddleWindowsAndLadder_3 : ∃ (w : Proc) (_d : Fin 16) (_c : Nat) (_pc : W) (s : State),
    (watching (procCode w) s = false ∨ (watch (procCode w) s).armed = false) :=
  ⟨.saf, 0, 3, 5, up, by decide +kernel⟩

theorem witness_HeddleWindowsAndLadder_4 : ∃ (w : Proc) (c : Nat) (r : Option Registration) (_pc : W) (s : State),
    let i := procCode w
    let x := watch i s
    (watching i s = true ∧ i ≠ 8 ∧ x.boot = none ∧ x.armed = true ∧ openCycle i x ≤ c ∧ c < closeCycle i x ∧ missingThreads x = 0 ∧ (∀ q,
      r = some q → regOk q = true)) :=
  ⟨.cmd, 480000, some ⟨3, 250, 2000⟩, 5, { up with heddle := { up.heddle with w := vmap (fun _ => { reg := some ⟨3, 250, 2000⟩, armed := true, checked := 3 }) up.heddle.w } }, by decide +kernel⟩

theorem witness_HeddleWindowsAndLadder_5 : ∃ (w : Proc) (c : Nat) (q : Registration) (_pc : W) (s : State),
    let i := procCode w
    let x := watch i s
    (watching i s = true ∧ i ≠ 8 ∧ x.boot = none ∧ x.armed = true ∧ openCycle i x ≤ c ∧ c < closeCycle i x ∧ regOk q = false) :=
  ⟨.cmd, 480000, ⟨0, 250, 2000⟩, 5, { up with heddle := { up.heddle with w := vmap (fun _ => { reg := some ⟨3, 250, 2000⟩, armed := true, checked := 3 }) up.heddle.w } }, by decide +kernel⟩

theorem witness_HeddleWindowsAndLadder_6 : ∃ (w : Proc) (_c : Nat) (_r : Option Registration) (_pc : W) (s : State),
    let i := procCode w
    let x := watch i s
    (watching i s = true ∧ i ≠ 8 ∧ x.boot = none ∧ x.armed = true ∧ s.sys.resetBegun = none ∧ s.sys.boot.bootDone = true ∧ s.sys.bootErr
      ≠ 2) :=
  ⟨.pd, 960000, none, 5, { up with heddle := { up.heddle with w := vmap (fun _ => { reg := some ⟨3, 250, 2000⟩, armed := true, checked := 3, strike := true }) up.heddle.w } }, by decide +kernel⟩

theorem witness_HeddleWindowsAndLadder_7 : ∃ (w : Proc) (_c : Nat) (q : Registration) (_pc : W) (s : State),
    let i := procCode w
    let x := watch i s
    (watching i s = true ∧ i ≠ 8 ∧ x.boot.isSome = true ∧ regOk q = true) :=
  ⟨.sh 2, 480, ⟨1, 100, 500⟩, 5, { up with heddle := { up.heddle with w := vmap (fun _ => { boot := some (0, 100), strike := true }) up.heddle.w } }, by decide +kernel⟩

theorem witness_HeddleWindowsAndLadder_8 : ∃ (w : Proc) (_c : Nat) (r : Option Registration) (_pc : W) (s : State),
    let i := procCode w
    let x := watch i s
    (watching i s = false ∨ (x.boot.isSome = true ∧ r.any regOk = false) ∨ (x.boot = none ∧ x.armed = false)) :=
  ⟨.cmd, 3, none, 5, up, by decide +kernel⟩

theorem witness_HeddleWindowsAndLadder_9 : ∃ (c : Nat) (_pc : W) (s : State),
    let x := watch 8 s
    (watching 8 s = true ∧ (x.boot.isSome = true ∨ (x.armed = true ∧ x.start + 120000 ≤ c ∧ c < x.start + 960000))) :=
  ⟨480000, 5, { up with heddle := { up.heddle with w := vmap (fun _ => { armed := true }) up.heddle.w } }, by decide +kernel⟩

theorem witness_HeddleWindowsAndLadder_10 : ∃ (c : Nat) (_pc : W) (s : State),
    let x := watch 8 s
    (watching 8 s = true ∧ x.boot = none ∧ x.armed = true ∧ s.sys.resetBegun = none ∧ s.sys.boot.bootDone = true ∧ s.sys.bootErr ≠ 2) ∧
      (c < x.start + 120000 ∨ x.start + 960000 ≤ c) :=
  ⟨960000, 5, { up with heddle := { up.heddle with w := vmap (fun _ => { armed := true }) up.heddle.w } }, by decide +kernel⟩

theorem witness_HeddleWindowsAndLadder_11 : ∃ (_c : Nat) (_pc : W) (s : State),
    (watching 8 s = false ∨ ((watch 8 s).boot = none ∧ (watch 8 s).armed = false)) :=
  ⟨3, 5, up, by decide +kernel⟩

theorem witness_HeddleWindowsAndLadder_12 : ∃ (w : Proc) (_pc : W) (s : State),
    let i := procCode w
    let x := watch i s
    (watching i s = true ∧ x.armed = true ∧ s.sys.resetBegun = none ∧ s.sys.boot.bootDone = true ∧ s.sys.bootErr ≠ 2) :=
  ⟨.saf, 5, { up with heddle := { up.heddle with count := 3, w := vmap (fun _ => { armed := true, strike := true }) up.heddle.w } }, by decide +kernel⟩

theorem witness_HeddleWindowsAndLadder_13 : ∃ (w : Proc) (_pc : W) (s : State),
    let i := procCode w
    (watching i s = true ∧ (watch i s).boot.isSome = true ∧ s.sys.resetBegun = none ∧ s.sys.boot.bootDone = true ∧ s.sys.bootErr ≠ 2) :=
  ⟨.sh 0, 5, { up with heddle := { up.heddle with w := vmap (fun _ => { boot := some (0, 100), strike := true }) up.heddle.w } }, by decide +kernel⟩

theorem witness_HeddleWindowsAndLadder_14 : ∃ (w : Proc) (_pc : W) (s : State),
    let i := procCode w
    (watching i s = false ∨ s.sys.resetBegun.isSome = true ∨ (watch i s).armed = false) :=
  ⟨.cmd, 5, up, by decide +kernel⟩

theorem witness_HeddleWindowsAndLadder_15 : ∃ (w : Proc) (_pc : W) (s : State),
    let i := procCode w
    (watching i s = false ∨ s.sys.resetBegun.isSome = true ∨ (watch i s).boot = none) :=
  ⟨.cmd, 5, up, by decide +kernel⟩

theorem witness_HeddleWindowsAndLadder_16 : ∃ (w : Proc) (s : State),
    let i := procCode w
    let x := watch i s
    (x.strike = true ∧ x.good.isSome = true ∧ s.sys.inReset = false ∧ swf {} s.eic.src = true) :=
  ⟨.cmd, { up with heddle := { up.heddle with count := 2, w := vmod up.heddle.w 0 (fun _ => { strike := true, good := some (5, 6) }) } }, by decide +kernel⟩

theorem witness_HeddleWindowsAndLadder_17 : ∃ (w : Proc) (s : State),
    ((watch (procCode w) s).strike = false ∨ (watch (procCode w) s).good = none ∨ s.sys.inReset = true) :=
  ⟨.cmd, up, by decide +kernel⟩

theorem witness_HeddleWindowsAndLadder_18 : ∃ (p : Port) (tag : Tag) (x : Slot) (s : State),
    (Admitted 0xA01 p tag x s) ∧ (CqRoom p s) :=
  ⟨.spia, 7, slotW 0xA01 [0], adm 0xA01 [0] up, by decide +kernel⟩

theorem witness_SafeHoldIsLeftOnlyByItsExit_1 : ∃ (c : Instr) (s t : State),
    (s.heddle.safeHold = true ∧ s.sys.mode = .recovery) ∧ (exec c s = .next t) :=
  ⟨.postedEvent, { up with heddle := { up.heddle with safeHold := true }, sys := { up.sys with mode := .recovery } }, { up with heddle := { up.heddle with safeHold := true }, sys := { up.sys with mode := .recovery } }, by decide, rfl⟩

theorem witness_FirmwareBanksAndTrials_1 : ∃ (p : Port) (tag : Tag) (x : Slot) (s : State),
    (Admitted 0xB10 p tag x s) ∧ (CqRoom p s) ∧ ((x.word 1).getLsbD 8 = true) :=
  ⟨.spia, 7, slotW 0xB10 [0x101, 5], adm 0xB10 [0x101, 5] { up with store := { up.store with fw := { up.store.fw with flash := [(0x3A1000, 3)] } } }, by decide +kernel⟩

theorem witness_FirmwareBanksAndTrials_2 : ∃ (p : Port) (tag : Tag) (x : Slot) (s : State),
    (Admitted 0xB10 p tag x s) ∧ (CqRoom p s) ∧ ((x.word 1).getLsbD 8 = false ∧ Memory.wf .flash s.store.fw.flash = true) :=
  ⟨.spia, 7, slotW 0xB10 [1, 0, 0x01020304, 5], adm 0xB10 [1, 0, 0x01020304, 5] up, by decide +kernel⟩

theorem witness_FirmwareBanksAndTrials_3 : ∃ (p : Port) (tag : Tag) (f : BankFacts) (x : Slot) (s : State),
    (Admitted 0xB11 p tag x s) ∧ (CqRoom p s) ∧ ((x.word 1).getLsbD 0 = false) :=
  ⟨.spia, 7, ⟨goodImg, goodImg, goodImg, false⟩, slotW 0xB11 [0], adm 0xB11 [0] up, by decide +kernel⟩

theorem witness_FirmwareBanksAndTrials_4 : ∃ (p : Port) (tag : Tag) (f : BankFacts) (x : Slot) (s : State),
    (Admitted 0xB11 p tag x s) ∧ (CqRoom p s) ∧ ((x.word 1).getLsbD 0 = false ∧ s.store.fw.trial = false ∧ s.est.test = none ∧ seqBusy s
      = false ∧ hortoOk f.horto s = true ∧ pdOk f.pd s = true) ∧ (cfgOk f.cfg f.horto.version s = true ∧ f.cfgRulesOk = true ∧ Memory.wf
      .flash s.store.fw.flash = true) ∧ (s.sys.inReset = false ∧ s.sys.porActive = false ∧ s.sys.resetBegun = none) :=
  ⟨.spia, 7, ⟨goodImg, goodImg, goodImg, true⟩, slotW 0xB11 [0], adm 0xB11 [0] up, by decide +kernel⟩

theorem witness_FirmwareBanksAndTrials_5 : ∃ (p : Port) (tag : Tag) (_f : ImgFacts) (x : Slot) (s : State),
    (Admitted 0xB11 p tag x s) ∧ (CqRoom p s) ∧ ((x.word 1).getLsbD 0 = true) :=
  ⟨.spia, 7, { goodImg with sigOk := false }, slotW 0xB11 [1], adm 0xB11 [1] up, by decide +kernel⟩

theorem witness_FirmwareBanksAndTrials_6 : ∃ (p : Port) (tag : Tag) (f : ImgFacts) (x : Slot) (s : State),
    let b := actBank s
    (Admitted 0xB11 p tag x s) ∧ ((x.word 1).getLsbD 0 = true ∧ usedRecs b s < 64 ∧ pdOk f s = true) ∧ (s.sys.inReset = false ∧
      s.sys.porActive = false ∧ s.pd.a.st ≠ .attachedSnk ∧ s.pd.b.st ≠ .attachedSnk) :=
  ⟨.spia, 7, goodImg, slotW 0xB11 [1], adm 0xB11 [1] up, by decide +kernel⟩

theorem witness_FirmwareBanksAndTrials_7 : ∃ (p : Port) (tag : Tag) (x : Slot) (f : BootFacts) (s : State),
    let w := s.store.fw
    (Admitted 0xB12 p tag x s) ∧ (CqRoom p s) ∧ (w.facts = some f ∧ w.written = false) :=
  ⟨.spia, 7, slotW 0xB12 [], goodFacts, adm 0xB12 [] { up with store := { up.store with fw := { up.store.fw with facts := some goodFacts } } }, by decide +kernel⟩

theorem witness_FirmwareBanksAndTrials_8 : ∃ (p : Port) (tag : Tag) (x : Slot) (s : State),
    (Admitted 0xB12 p tag x s) ∧ (CqRoom p s) :=
  ⟨.spia, 7, slotW 0xB12 [], adm 0xB12 [] up, by decide +kernel⟩

theorem witness_FirmwareBanksAndTrials_9 : ∃ (_h : OtpBench) (s : State),
    (s.store.fw.trial = true ∧ s.sys.boot.full = true ∧ cmdRuns s = true ∧ anyStrike s = false ∧ s.sys.resetBegun = none) :=
  ⟨⟨800, 6500, 5000, 250, none, none⟩, inMode .test { up with store := { up.store with fw := { up.store.fw with trial := true, facts := some { goodFacts with a := { goodBank with horto := { goodImg with rollback := 3 } } } } } }, by decide +kernel⟩

theorem witness_FirmwareBanksAndTrials_10 : ∃ (_h : OtpBench) (s : State),
    (s.store.fw.trial = false ∨ cmdRuns s = false ∨ anyStrike s = true ∨ s.sys.boot.full = false) :=
  ⟨⟨800, 6500, 5000, 250, none, none⟩, up, by decide +kernel⟩

theorem witness_FirmwareBanksAndTrials_11 : ∃ (_h : OtpBench) (s : State),
    (s.store.fw.pdTrial = true ∧ s.pd.coreRuns = true ∧ cmdRuns s = true ∧ s.heddle.w[(7 : Fin 9)].strike = false ∧ s.sys.resetBegun =
      none) :=
  ⟨⟨800, 6500, 5000, 250, none, none⟩, { up with pd := { up.pd with coreRuns := true }, store := { up.store with fw := { up.store.fw with pdTrial := true } } }, by decide +kernel⟩

theorem witness_FirmwareBanksAndTrials_12 : ∃ (_h : OtpBench) (s : State),
    (s.store.fw.pdTrial = false ∨ s.pd.coreRuns = false ∨ cmdRuns s = false ∨ s.heddle.w[(7 : Fin 9)].strike = true) :=
  ⟨⟨800, 6500, 5000, 250, none, none⟩, up, by decide +kernel⟩

theorem witness_FirmwareBanksAndTrials_13 : ∃ (_h : OtpBench) (f : BootFacts) (s : State),
    (s.store.fw.burnDue = true ∧ cmdRuns s = true ∧ s.store.fw.pdTrial = false ∧ s.store.fw.facts = some f) :=
  ⟨⟨800, 6500, 5000, 250, none, none⟩, { goodFacts with a := { goodBank with pd0 := { goodImg with rollback := 2 } } }, inMode .test { up with store := { up.store with fw := { up.store.fw with burnDue := true, facts := some { goodFacts with a := { goodBank with pd0 := { goodImg with rollback := 2 } } } } } }, by decide +kernel⟩

theorem witness_FirmwareBanksAndTrials_14 : ∃ (_h : OtpBench) (s : State),
    (s.store.fw.burnDue = false ∨ cmdRuns s = false ∨ s.store.fw.pdTrial = true) :=
  ⟨⟨800, 6500, 5000, 250, none, none⟩, up, by decide +kernel⟩

theorem witness_OtpLifeCycleAndLogs_1 : ∃ (p : Port) (tag : Tag) (x : Slot) (s : State),
    (Admitted 0xB20 p tag x s) ∧ (CqRoom p s) :=
  ⟨.spia, 7, slotW 0xB20 [0xC1F4], adm 0xB20 [0xC1F4] up, by decide +kernel⟩

theorem witness_OtpLifeCycleAndLogs_2 : ∃ (p : Port) (tag : Tag) (_h : OtpBench) (x : Slot) (s : State),
    (Admitted 0xB21 p tag x s) ∧ (CqRoom p s) :=
  ⟨.spia, 7, ⟨800, 6500, 5000, 250, none, none⟩, slotW 0xB21 [0x1000, 1], adm 0xB21 [0x1000, 1] up, by decide +kernel⟩

theorem witness_OtpLifeCycleAndLogs_3 : ∃ (p : Port) (tag : Tag) (h : OtpBench) (x : Slot) (s : State),
    let a := bitsOf (x.word 1) 0 9
    let n := bitsOf (x.word 1) 12 4
    (Admitted 0xB21 p tag x s) ∧ (CqRoom p s) ∧ (1 ≤ n ∧ n ≤ 8 ∧ a + n ≤ 512 ∧ (∀ i, i < n → otpAllowed (a + i) s = true) ∧ benchRow h s
      = 0 ∧ swf 0 s.store.otp.words = true) ∧ (s.sys.inReset = false) :=
  ⟨.spia, 7, ⟨800, 6500, 5000, 250, none, none⟩, slotW 0xB21 [0x1000, 5], adm 0xB21 [0x1000, 5] (inMode .test up), by decide +kernel⟩

theorem witness_OtpLifeCycleAndLogs_4 : ∃ (p : Port) (tag : Tag) (h : OtpBench) (x : Slot) (s : State),
    let a := bitsOf (x.word 1) 0 9
    (Admitted 0xB21 p tag x s) ∧ (CqRoom p s) ∧ (bitsOf (x.word 1) 12 4 = 1 ∧ otpAllowed a s = true ∧ benchRow h s = 0 ∧ h.failAfter =
      none ∧ h.badBit = some 0 ∧ s.sys.inReset = false) ∧ (x.word 2 &&& ~~~(otpWord a s) ≠ 0 ∧ a < 432) :=
  ⟨.spia, 7, ⟨800, 6500, 5000, 250, none, some 0⟩, slotW 0xB21 [0x1000, 5], adm 0xB21 [0x1000, 5] (inMode .test up), by decide +kernel⟩

theorem witness_OtpLifeCycleAndLogs_5 : ∃ (p : Port) (tag : Tag) (_h : OtpBench) (x : Slot) (s : State),
    let r := bitsOf (x.word 1) 0 3
    let fin := finalised r (fun a => otpWord a s)
    (Admitted 0xB22 p tag x s) ∧ (CqRoom p s) ∧ (0 = r ∨ 4 < r ∨ fin = true ∨ finaliseAllowed r s = false) :=
  ⟨.spia, 7, ⟨800, 6500, 5000, 250, none, none⟩, slotW 0xB22 [4], adm 0xB22 [4] up, by decide +kernel⟩

set_option maxRecDepth 100000 in
theorem witness_OtpLifeCycleAndLogs_6 : ∃ (p : Port) (tag : Tag) (h : OtpBench) (x : Slot) (d : Nat × Nat × Nat) (s : State),
    let r := bitsOf (x.word 1) 0 3
    (Admitted 0xB22 p tag x s) ∧ (CqRoom p s) ∧ (otpRegion r = some d ∧ finalised r (fun a => otpWord a s) = false ∧ finaliseAllowed r s
      = true ∧ benchRow h s = 0) ∧ (h.failAfter = none ∧ h.badBit = none ∧ swf 0 s.store.otp.words = true ∧ s.sys.inReset = false) :=
  ⟨.spia, 7, ⟨800, 6500, 5000, 250, none, none⟩, slotW 0xB22 [1], (0x000, 0x07E, 0x07E), adm 0xB22 [1] (inMode .test up), by decide +kernel⟩

theorem witness_OtpLifeCycleAndLogs_7 : ∃ (p : Port) (tag : Tag) (_h : OtpBench) (x : Slot) (s : State),
    (Admitted 0xB23 p tag x s) ∧ (CqRoom p s) :=
  ⟨.spia, 7, ⟨800, 6500, 5000, 250, none, none⟩, slotW 0xB23 [3, 0x4C430000], adm 0xB23 [3, 0x4C430000] up, by decide +kernel⟩

theorem witness_OtpLifeCycleAndLogs_8 : ∃ (p : Port) (tag : Tag) (h : OtpBench) (l : Lc) (x : Slot) (s : State),
    (Admitted 0xB23 p tag x s) ∧ (CqRoom p s) ∧ (x.word 2 = 0x4C430000 ∧ lcTarget (bitsOf (x.word 1) 0 8) = some l ∧ lcNextOk (lcNow s) l
      = true ∧ benchRow h s = 0 ∧ lcUnmet l s = 0) ∧ (h.failAfter = none ∧ h.badBit = none ∧ swf 0 s.store.otp.words = true ∧
      s.sys.inReset = false ∧ s.sys.resetBegun = none) :=
  ⟨.spia, 7, ⟨800, 6500, 5000, 250, none, none⟩, .vendorTest, slotW 0xB23 [1, 0x4C430000], adm 0xB23 [1, 0x4C430000] (inMode .test up), by decide +kernel⟩

theorem witness_OtpLifeCycleAndLogs_9 : ∃ (p : Port) (tag : Tag) (_h : OtpBench) (x : Slot) (s : State),
    let lc := lcNow s == .provisioned || lcNow s == .customerLocked
    (Admitted 0xB30 p tag x s) ∧ (CqRoom p s) ∧ (x.word 1 ≠ 0 ∨ x.word 2 ≠ 0x4C4B0000 ∨ lc = false ∨ s.store.nvm.idBad = true) :=
  ⟨.spia, 7, ⟨800, 6500, 5000, 250, none, none⟩, slotW 0xB30 [0, 0x4C4B0000], adm 0xB30 [0, 0x4C4B0000] up, by decide +kernel⟩

theorem witness_OtpLifeCycleAndLogs_10 : ∃ (p : Port) (tag : Tag) (h : OtpBench) (x : Slot) (s : State),
    (Admitted 0xB30 p tag x s) ∧ (CqRoom p s) ∧ (x.word 1 = 0 ∧ x.word 2 = 0x4C4B0000 ∧ (lcNow s = .provisioned ∨ lcNow s =
      .customerLocked) ∧ s.store.nvm.idBad = false) ∧ (benchRow h s = 0 ∧ h.failAfter = none ∧ h.badBit = none ∧ swf 0 s.store.otp.words
      = true ∧ s.sys.inReset = false) :=
  ⟨.spia, 7, ⟨800, 6500, 5000, 250, none, none⟩, slotW 0xB30 [0, 0x4C4B0000], adm 0xB30 [0, 0x4C4B0000] (inMode .test { up with store := { up.store with otp := { words := [(0x1A0, 3)], shadow := [(0x1A0, 3)] } } }), by decide +kernel⟩

theorem witness_OtpLifeCycleAndLogs_11 : ∃ (p : Port) (tag : Tag) (x : Slot) (s : State),
    (Admitted 0xB31 p tag x s) ∧ (CqRoom p s) :=
  ⟨.spia, 7, slotW 0xB31 [60], adm 0xB31 [60] up, by decide +kernel⟩

theorem witness_OtpLifeCycleAndLogs_12 : ∃ (p : Port) (tag : Tag) (x : Slot) (s : State),
    (Admitted 0xB32 p tag x s) ∧ (CqRoom p s) ∧ (swf 0 s.store.nvm.idPage = true) :=
  ⟨.spia, 7, slotW 0xB32 [62, 5, 6], adm 0xB32 [62, 5, 6] up, by decide +kernel⟩

theorem witness_OtpLifeCycleAndLogs_13 : ∃ (p : Port) (tag : Tag) (x : Slot) (s : State),
    (Admitted 0xB33 p tag x s) ∧ (CqRoom p s) :=
  ⟨.spia, 7, slotW 0xB33 [0], adm 0xB33 [0] { up with store := { up.store with nvm := { up.store.nvm with event := { entries := [[5, 1, 2, 3, 4, 5, 6, 7]], next := 1 } } } }, by decide +kernel⟩

theorem witness_OtpLifeCycleAndLogs_14 : ∃ (s : State),
    (nvmFree s = true) :=
  ⟨up, by decide +kernel⟩

theorem witness_OtpLifeCycleAndLogs_15 : ∃ (_b : BitVec 8) (s : State),
    (nvmFree s = true ∧ swf {} s.eic.src = true) :=
  ⟨80, up, by decide +kernel⟩

theorem witness_OtpLifeCycleAndLogs_16 : ∃ (s : State),
    (nvmFree s = true ∧ s.store.nvm.learnedDirty = true) :=
  ⟨{ up with store := { up.store with nvm := { up.store.nvm with learnedDirty := true } } }, by decide +kernel⟩

theorem witness_OtpLifeCycleAndLogs_17 : ∃ (_b : Option (BitVec 8)) (s : State),
    (nvmFree s = false) :=
  ⟨none, State.reset, by decide +kernel⟩

theorem witness_OtpLifeCycleAndLogs_18 : ∃ (_b : Option (BitVec 8)) (s : State),
    (nvmFree s = false ∨ s.store.nvm.learnedDirty = false) :=
  ⟨some 3, up, by decide +kernel⟩

theorem witness_OtpLifeCycleAndLogs_19 : ∃ (_b : BitVec 8) (s : State),
    (nvmFree s = true ∧ s.store.nvm.learnedDirty = true) :=
  ⟨80, { up with store := { up.store with nvm := { up.store.nvm with learnedDirty := true } } }, by decide +kernel⟩

theorem witness_CalendarAndDebugWindow_1 : ∃ (_p : HPort) (s : State),
    (hifOpen s = true ∧ s.sys.power = .run) :=
  ⟨.i2c, up, by decide +kernel⟩

theorem witness_CalendarAndDebugWindow_2 : ∃ (_p : HPort) (s : State),
    (hifOpen s = true ∧ s.sys.power = .run) :=
  ⟨.spia, up, by decide +kernel⟩

theorem witness_CalendarAndDebugWindow_3 : ∃ (_p : HPort) (s : State),
    (hifOpen s = false) :=
  ⟨.spia, State.reset, by decide +kernel⟩

theorem witness_CalendarAndDebugWindow_4 : ∃ (_p : HPort) (s : State),
    (hifOpen s = false) :=
  ⟨.spia, State.reset, by decide +kernel⟩

theorem witness_CalendarAndDebugWindow_5 : ∃ (_p : HPort) (v : W) (s : State),
    (hifOpen s = true ∧ s.sys.power = .run ∧ s.store.rtc.locked = false) :=
  ⟨.spib, 30, up, by decide +kernel⟩

theorem witness_CalendarAndDebugWindow_6 : ∃ (_p : HPort) (a : BitVec 16) (_v : W) (s : State),
    (hifOpen s = true ∧ s.sys.power = .run ∧ s.store.rtc.locked = false ∧ (a = 0x108 ∨ a = 0x118 ∨ a = 0x11C)) :=
  ⟨.spia, 0x118, 13, up, by decide +kernel⟩

theorem witness_CalendarAndDebugWindow_7 : ∃ (p : HPort) (ws : List W) (n : Fin 2) (v : W) (i : Fin 2) (s : State),
    (hifOpen s = true ∧ s.sys.power = .run ∧ s.store.rtc.locked = true ∧ ws ≠ [] ∧ s.sys.inReset = false) :=
  ⟨.spia, [5], 0, 3, 0, { up with store := { up.store with rtc := { up.store.rtc with lockVcc5 := true } } }, by decide +kernel⟩

theorem witness_CalendarAndDebugWindow_8 : ∃ (_p : HPort) (a : BitVec 16) (ws : List W) (s : State),
    (hifOpen s = false ∨ (ws = [] ∧ s.sys.power = .run) ∨ (s.sys.power = .run ∧ a = 0x100 ∧ ws.length = 1)) :=
  ⟨.spia, 0x100, [5], up, by decide +kernel⟩

theorem witness_CalendarAndDebugWindow_9 : ∃ (_p : HPort) (_n : Fin 2) (_v : W) (s : State),
    (hifOpen s = true ∧ s.sys.power = .run ∧ s.store.rtc.locked = false) :=
  ⟨.spia, 1, 0x7C000000, up, by decide +kernel⟩

theorem witness_CalendarAndDebugWindow_10 : ∃ (s : State),
    let c := s.store.rtc.cal
    let d := monthDays c.year c.month
    (s.store.rtc.held = false ∧ c.sec ≤ 59 ∧ c.min ≤ 59 ∧ c.hour ≤ 23 ∧ 1 ≤ c.day ∧ c.day ≤ d ∧ c.wday ≤ 7 ∧ c.month ≤ 12 ∧ c.year ≤ 99) :=
  ⟨{ up with store := { up.store with rtc := { up.store.rtc with cal := ⟨59, 59, 23, 28, 7, 2, 3⟩ } } }, by decide +kernel⟩

theorem witness_CalendarAndDebugWindow_11 : ∃ (n : Fin 2) (s : State),
    let x := if n = 0 then s.store.rtc.alm0 else s.store.rtc.alm1
    let other := if n = 0 then s.store.rtc.alm1 else s.store.rtc.alm0
    (s.store.rtc.held = false ∧ almMatch x s.store.rtc.cal.tick = true ∧ other = 0 ∧ s.sys.inReset = false ∧ swf {} s.eic.src = true) :=
  ⟨0, { up with store := { up.store with rtc := { up.store.rtc with alm0 := 0x4000001 } } }, by decide +kernel⟩

theorem witness_CalendarAndDebugWindow_12 : ∃ (s : State),
    (s.store.rtc.held = true) :=
  ⟨{ up with store := { up.store with rtc := { up.store.rtc with held := true } } }, by decide +kernel⟩

theorem witness_CalendarAndDebugWindow_13 : ∃ (d q : Int) (s : State),
    (s.store.rtc.rc = true ∧ pb Pid.RTC_RC_TRIM_EN s = true ∧ s.sys.inReset = false ∧ s.sys.power = .run ∧ s.store.rtc.locked = false ∧
      -(d * 1000000) = q * 327680) :=
  ⟨32768, -100000, setPv Pid.RTC_RC_TRIM_EN 0 1 { up with store := { up.store with rtc := { up.store.rtc with rc := true } } }, by decide +kernel⟩

theorem witness_CalendarAndDebugWindow_14 : ∃ (_d : Int) (s : State),
    (s.store.rtc.rc = false ∨ pb Pid.RTC_RC_TRIM_EN s = false ∨ s.sys.inReset = true) :=
  ⟨5, up, by decide +kernel⟩

theorem witness_CalendarAndDebugWindow_15 : ∃ (_w : LockoutSupply) (s : State),
    (s.store.rtc.locked = false ∧ s.sys.inReset = false ∧ swf {} s.eic.src = true) :=
  ⟨.vddio, up, by decide +kernel⟩

theorem witness_CalendarAndDebugWindow_16 : ∃ (_w : LockoutSupply) (s : State),
    (s.store.rtc.locked = true) :=
  ⟨.vddio, { up with store := { up.store with rtc := { up.store.rtc with lockVcc5 := true } } }, by decide +kernel⟩

theorem witness_CalendarAndDebugWindow_17 : ∃ (w : LockoutSupply) (s : State),
    (s.sys.inReset = false ∧ swf {} s.eic.src = true) :=
  ⟨.vcc5, { up with store := { up.store with rtc := { up.store.rtc with lockVcc5 := true } } }, by decide +kernel⟩

theorem witness_CalendarAndDebugWindow_18 : ∃ (_p : HPort) (_v : W) (s : State),
    (hifOpen s = true ∧ s.sys.power = .run) :=
  ⟨.spia, 0x1FF, { up with store := { up.store with otp := { up.store.otp with shadow := [(0x1A0, 7)] } } }, by decide +kernel⟩

theorem witness_CalendarAndDebugWindow_19 : ∃ (_p : HPort) (a : BitVec 16) (_v : W) (s : State),
    (hifOpen s = true ∧ s.sys.power = .run ∧ s.store.rtc.locked = false ∧ (a = 0x10C ∨ a = 0x110 ∨ a = 0x114)) :=
  ⟨.spia, 0x10C, 5, up, by decide +kernel⟩

theorem witness_CalendarAndDebugWindow_20 : ∃ (_p : HPort) (a b h d e f g : W) (s : State),
    (hifOpen s = true ∧ s.sys.power = .run ∧ s.store.rtc.locked = false) ∧ (bitsOf a 0 6 ≤ 59 ∧ bitsOf b 0 6 ≤ 59 ∧ bitsOf h 0 5 ≤ 23 ∧ 1
      ≤ bitsOf d 0 5 ∧ 1 ≤ bitsOf e 0 3) ∧ (1 ≤ bitsOf f 0 4 ∧ bitsOf f 0 4 ≤ 12 ∧ bitsOf g 0 7 ≤ 99 ∧ bitsOf d 0 5 ≤ monthDays (bitsOf g
      0 7) (bitsOf f 0 4)) :=
  ⟨.spia, 1, 2, 3, 4, 5, 6, 7, up, by decide +kernel⟩

end Sys2Proof.Tests
end

/-! PROOF. Committed and discarded writes of the register window (R73, R74, R77, R79, R80): what a write transfer leaves alone, when it is
committed, and what each register takes. -/

namespace Sys2Proof.Machine

/-! ### What a write on one port leaves alone -/

@[simp] theorem dozeWake_hif (s : State) : (dozeWake s).hif = s.hif := by
  unfold dozeWake
  split <;> rfl

@[simp] theorem dozeWake_rstBits (s : State) : (dozeWake s).sys.rstBits = s.sys.rstBits := by
  unfold dozeWake
  split <;> rfl

theorem PortOnly.trans {p : Port} {s t u : State} (h1 : PortOnly p s t) (h2 : PortOnly p t u) : PortOnly p s u := by
  obtain ⟨port1, slots1, events1, rest1⟩ := h1
  obtain ⟨port2, slots2, events2, rest2⟩ := h2
  refine ⟨fun q hq => (port2 q hq).trans (port1 q hq), slots2.trans slots1, events2.trans events1, ?_⟩
  rw [rest2, rest1]

theorem portOnly_onPort (p : Port) (f : PortState → PortState) (s : State) : PortOnly p s (onPort p f s) :=
  ⟨fun q hq => by simp [hq], by simp, by simp, rfl⟩

theorem portOnly_onPortNew (p : Port) (f : PortState → PortState) (s : State) : PortOnly p s (onPortNew p f s) :=
  ⟨fun q hq => by simp [hq], by simp, by simp, rfl⟩

/-- The end of an I2C transfer moves no register and no queue of any port. -/
@[simp] theorem i2cEnd_port (p : HPort) (a : Nat) (q : Port) (s : State) : (i2cEnd p a s).hif.port q = s.hif.port q := by
  unfold i2cEnd
  split
  · cases q <;> rfl
  · rfl

@[simp] theorem i2cEnd_sys (p : HPort) (a : Nat) (s : State) : (i2cEnd p a s).sys = s.sys := by
  unfold i2cEnd
  split <;> rfl

theorem portOnly_i2cEnd (p : HPort) (a : Nat) (q : Port) (s : State) : PortOnly q s (i2cEnd p a s) := by
  refine ⟨fun r _ => i2cEnd_port p a r s, ?_⟩
  unfold i2cEnd
  split <;> exact ⟨rfl, rfl, rfl⟩

@[simp] theorem writeIrqMask_port (p q : Port) (m : BitVec 6) (s : State) :
    (writeIrqMask p m s).hif.port q = if q = p then { s.hif.port p with irqMask := m } else s.hif.port q := by
  have released (h : Hif) (c : Bool) : (if c then { h with alertReleased := false } else h).port q = h.port q := by
    cases c <;> cases q <;> rfl
  exact (released _ _).trans (onPort_port p q (fun r => { r with irqMask := m }) s)

theorem portOnly_writeIrqMask (p : Port) (m : BitVec 6) (s : State) : PortOnly p s (writeIrqMask p m s) := by
  refine ⟨fun q hq => by simp [hq], ?_, ?_, rfl⟩ <;> unfold writeIrqMask <;>
    simp only [State.onHif_hif, apply_ite Hif.slots, apply_ite Hif.events, ite_self, onPort_slots, onPort_events]

/-! ### When a write is committed -/

/-- A committed write answers with its words written, once DOZE has ended and the I2C pointer stands behind it. -/
theorem answers_windowWrite {p : HPort} {a : BitVec 16} {ws : List W} {s : State} {P : State → Prop} (hopen : hifOpen s = true)
    (hok : writeOk a.toNat ws.length (dozeWake s) = true)
    (h : P (writeWindow (hport p) a.toNat ws (i2cEnd p (a.toNat + 4 * ws.length) (dozeWake s)))) :
    Answers (.windowRegisterWrite p a ws) s P := by
  refine ⟨_, rfl, ?_⟩
  simpa [hifDo, hopen, hok] using h

/-- A write that is not committed changes one error flag of its port: FRM_ERR above 64 words, else ADDR_ERR. -/
theorem answers_windowWrite_discarded {p : HPort} {a : BitVec 16} {ws : List W} {s : State} {P : State → Prop}
    (hopen : hifOpen s = true) (hok : writeOk a.toNat ws.length (dozeWake s) = false) (hne : 1 ≤ ws.length)
    (h : ∀ t, t.hif.port (hport p) = (if 64 < ws.length then { s.hif.port (hport p) with frmErr := true }
        else { s.hif.port (hport p) with addrErr := true }) → PortOnly (hport p) (dozeWake s) t → P t) :
    Answers (.windowRegisterWrite p a ws) s P := by
  have hnil : ws.isEmpty = false := by cases ws <;> simp_all
  refine ⟨_, rfl, ?_⟩
  have flagged (f : PortState → PortState) :=
    (portOnly_i2cEnd p (a.toNat + 4 * ws.length) (hport p) (dozeWake s)).trans (portOnly_onPortNew _ f _)
  by_cases hlong : 64 < ws.length
  · simpa [hifDo, hopen, hok, hnil, hlong] using h _ (by simp [hlong]) (flagged (fun r => { r with frmErr := true }))
  · simpa [hifDo, hopen, hok, hnil, hlong] using h _ (by simp [hlong]) (flagged (fun r => { r with addrErr := true }))

/-- One word at a word address of a writable region is committed (R73). -/
theorem writeOk_one {a : Nat} {s : State} (halign : a % 4 = 0) (hreg : writableRegion a s ≠ 0) : writeOk a 1 s = true := by
  simp [writeOk, burstAddrs, halign, hreg]

/-- A burst of more than 64 words is not committed (R73). -/
theorem writeOk_long {a n : Nat} {s : State} (h : 64 < n) : writeOk a n s = false := by
  have : ¬ n ≤ 64 := by omega
  simp [writeOk, this]

/-- A burst whose last word lies in another region than its first is not committed (R73). -/
theorem writeOk_leaves {a n : Nat} {s : State} (hn : 1 ≤ n) (h : writableRegion (a + 4 * (n - 1)) s ≠ writableRegion a s) :
    writeOk a n s = false := by
  have hmem : a + 4 * (n - 1) ∈ burstAddrs a n := List.mem_map.2 ⟨n - 1, List.mem_range.2 (by omega), rfl⟩
  have hall : (burstAddrs a n).all (fun b => writableRegion b s == writableRegion a s) = false :=
    List.all_eq_false.2 ⟨_, hmem, by simpa using h⟩
  simp [writeOk, hall]

/-- No register or queue that a host may write lies at these addresses (R79). -/
theorem writableRegion_none {a : Nat} {s : State}
    (h : (0x0140 ≤ a ∧ a < 0x0180) ∨ (0x0200 ≤ a ∧ a < 0x1000) ∨ 0x2000 ≤ a) : writableRegion a s = 0 := by
  unfold writableRegion
  grind

theorem writableRegion_regs {a : Nat} {s : State} : writableRegion a s = 1 ↔ a < 0x0034 := by
  unfold writableRegion
  grind

theorem writableRegion_queue {a : Nat} {s : State} : writableRegion a s = 4 ↔ 0x1000 ≤ a ∧ a < 0x2000 := by
  unfold writableRegion
  grind

/-- The starts and lengths of a burst that R73 discards with ADDR_ERR. -/
theorem writeOk_misplaced {a n : Nat} {s : State} (hn : 1 ≤ n)
    (h : a % 4 ≠ 0 ∨ (0x0140 ≤ a ∧ a < 0x0180) ∨ (0x0200 ≤ a ∧ a < 0x1000) ∨ 0x2000 ≤ a ∨
      (a < 0x0034 ∧ 0x0034 < a + 4 * n) ∨ (0x1000 ≤ a ∧ a < 0x2000 ∧ 0x2000 < a + 4 * n)) : writeOk a n s = false := by
  by_cases halign : a % 4 = 0
  case neg => simp [writeOk, halign]
  have outside (hout : (0x0140 ≤ a ∧ a < 0x0180) ∨ (0x0200 ≤ a ∧ a < 0x1000) ∨ 0x2000 ≤ a) : writeOk a n s = false := by
    simp [writeOk, writableRegion_none hout]
  obtain h | h | h | h | ⟨hfirst, hlast⟩ | ⟨hlow, hhigh, hlast⟩ := h
  · exact absurd halign h
  · exact outside (.inl h)
  · exact outside (.inr (.inl h))
  · exact outside (.inr (.inr h))
  · have inRegs : writableRegion a s = 1 := writableRegion_regs.2 hfirst
    refine writeOk_leaves hn (fun heq => ?_)
    have := writableRegion_regs.1 (heq.trans inRegs)
    omega
  · have inQueue : writableRegion a s = 4 := writableRegion_queue.2 ⟨hlow, hhigh⟩
    refine writeOk_leaves hn (fun heq => ?_)
    have := writableRegion_queue.1 (heq.trans inQueue)
    omega

/-! ### One word -/

/-- One word below 0x0034 goes to its interface register. -/
theorem answers_hifRegWrite {p : HPort} {a : BitVec 16} {v : W} {s : State} {P : State → Prop} (hopen : hifOpen s = true)
    (halign : a.toNat % 4 = 0) (hlt : a.toNat < 0x0034)
    (h : P (writeHifReg (hport p) a.toNat v (i2cEnd p (a.toNat + 4) (dozeWake s)))) : Answers (.windowRegisterWrite p a [v]) s P := by
  have hreg : writableRegion a.toNat (dozeWake s) ≠ 0 := by rw [writableRegion_regs.2 hlt]; decide
  refine answers_windowWrite hopen (writeOk_one halign hreg) ?_
  simpa [writeWindow, burstAddrs, hlt, foldS] using h

/-- A write of RSTCAUSE changes its own bits, and of what the transfer itself changed nothing more. -/
theorem writeHifReg_rstcause_frame (p : Port) (v : W) {s t : State} (h : t = { s with hif := t.hif }) :
    writeHifReg p 0x0030 v t = { s with hif := (writeHifReg p 0x0030 v t).hif,
                                        sys := { s.sys with rstBits := (writeHifReg p 0x0030 v t).sys.rstBits } } := by
  rw [h]
  rfl

/-- One word in 0x1000 to 0x1FFF goes to its word of the submission queue. -/
theorem answers_sqWordWrite {p : HPort} {i : Nat} {v : W} {s : State} {P : State → Prop} (hopen : hifOpen s = true) (hi : i < 1024)
    (h : P (writeSqWord (hport p) i v (i2cEnd p (0x1000 + 4 * i + 4) (dozeWake s)))) :
    Answers (.windowRegisterWrite p (BitVec.ofNat 16 (0x1000 + 4 * i)) [v]) s P := by
  have ha : (BitVec.ofNat 16 (0x1000 + 4 * i)).toNat = 0x1000 + 4 * i := by simp; omega
  have hreg : writableRegion (0x1000 + 4 * i) (dozeWake s) ≠ 0 := by rw [writableRegion_queue.2 (by omega)]; decide
  refine answers_windowWrite hopen (by rw [ha]; exact writeOk_one (by omega) hreg) ?_
  rw [ha]
  have h1 : ¬ 0x1000 + 4 * i < 0x0034 := by omega
  have h2 : ¬ 0x1000 + 4 * i < 0x0140 := by omega
  have h3 : ¬ 0x1000 + 4 * i < 0x0200 := by omega
  simpa [writeWindow, burstAddrs, h1, h2, h3, foldS] using h

/-- A word of the submission queue just written is what its port reads there. -/
theorem readWindow_writeSqWord {p : HPort} {i : Nat} {v : W} {s : State} (hi : i < 1024)
    (hwf : Memory.wf .queue (s.hif.port (hport p)).sqMem = true) : readWindow p (0x1000 + 4 * i) (writeSqWord (hport p) i v s) = v := by
  have inQueue : readWindow p (0x1000 + 4 * i) (writeSqWord (hport p) i v s) =
      Memory.readW .queue ((writeSqWord (hport p) i v s).hif.port (hport p)).sqMem (4 * i) := by
    unfold readWindow
    grind
  rw [inQueue]
  simpa [writeSqWord] using Memory.readW_writeW_same .queue _ (4 * i) v hwf

/-- A word of the submission queue just written leaves every other byte of it alone. -/
theorem read_writeSqWord_other {p : Port} {i a : Nat} {v : W} {s : State} (ha : a < 4 * i ∨ 4 * i + 4 ≤ a) :
    Memory.read .queue ((writeSqWord p i v s).hif.port p).sqMem a = Memory.read .queue (s.hif.port p).sqMem a := by
  simpa [writeSqWord] using Memory.read_writeW_other .queue _ (4 * i) a v ha

/-! ### The statement -/

/-- Settles O18: a committed word reaches its register or queue word alone, and a discarded burst sets its flag alone. -/
theorem windowWrites : Obligations.WindowWrites := by
  have ended (p : HPort) (a : Nat) (s : State) := portOnly_i2cEnd p a (hport p) (dozeWake s)
  refine ⟨?irqMask, ?status, ?rstcause, ?sqWord, ?readOnly, ?misplaced, ?tooLong⟩
  case irqMask =>
    intro p v s hopen
    refine answers_hifRegWrite hopen (by decide) (by decide) ⟨?_, (ended _ _ _).trans (portOnly_writeIrqMask _ _ _)⟩
    simp [writeHifReg]
  case status =>
    intro p v s q hopen
    refine answers_hifRegWrite hopen (by decide) (by decide) ⟨?_, (ended _ _ _).trans (portOnly_onPort _ _ _)⟩
    simp [writeHifReg, PortState.writeStatus, q]
  case rstcause =>
    intro p v s hopen
    obtain ⟨-, slots, -, rest⟩ := ended p 0x34 s
    refine answers_hifRegWrite hopen (by decide) (by decide) ⟨?_, fun q => ?_, slots.trans (by simp), ?_⟩
    · simp [writeHifReg]
    · simp [writeHifReg]
    · exact writeHifReg_rstcause_frame _ v rest
  case sqWord =>
    intro p i v s q hopen hi hwf
    refine answers_sqWordWrite hopen hi ⟨readWindow_writeSqWord hi (by simpa using hwf), (ended _ _ _).trans (portOnly_onPort _ _ _), ?_,
      fun a ha => (read_writeSqWord_other ha).trans (by simp [q])⟩
    simp [writeSqWord, q]
  case readOnly =>
    intro p a v s hopen ha
    obtain rfl | rfl | rfl | rfl | rfl := ha <;>
      exact answers_hifRegWrite hopen (by decide) (by decide) ⟨fun q => by simp [writeHifReg], ended _ _ _⟩
  case misplaced =>
    intro p a ws s q hopen hlen hbad
    refine answers_windowWrite_discarded hopen (writeOk_misplaced hlen.1 hbad) hlen.1 (fun t hport hrest => ⟨?_, hrest⟩)
    rwa [if_neg (by omega)] at hport
  case tooLong =>
    intro p a ws s q hopen hlong
    refine answers_windowWrite_discarded hopen (writeOk_long hlong) (by omega) (fun t hport hrest => ⟨?_, hrest⟩)
    rwa [if_pos hlong] at hport

end Sys2Proof.Machine

/-! PROOF. What placing a configuration image, charging, the path, the rails, the sequencer, the estimator, the event controller and the
completions leave alone: their backdrop. One lemma for each operation of these parts, in the order of their definitions. -/

namespace Sys2Proof.Machine

/-- The system block, the USB ports, the GPIOs, the Heddle, the waiting commands, the image's values, OTP and firmware, and whether each EN
output is high-impedance: what the operations of the other parts do not touch. -/
structure Backdrop where
  sys : Sys
  pd : Pd
  gpio : Vector Gpio 16
  heddle : Heddle
  pending : List Instr
  img : Sparse Int
  otp : Otp
  fw : Fw
  hiZ : List Bool

/-- The backdrop of a state. -/
def backdrop (s : State) : Backdrop :=
  ⟨s.sys, s.pd, s.gpio, s.heddle, s.pending, s.store.par.img, s.store.otp, s.store.fw, s.pwr.en.toList.map (·.hiZ)⟩

theorem backdrop_sys {s t : State} (h : backdrop t = backdrop s) : t.sys = s.sys := congrArg Backdrop.sys h

theorem backdrop_gpio {s t : State} (h : backdrop t = backdrop s) : t.gpio = s.gpio := congrArg Backdrop.gpio h

theorem backdrop_img {s t : State} (h : backdrop t = backdrop s) : t.store.par.img = s.store.par.img := congrArg Backdrop.img h

theorem backdrop_hiZ {s t : State} (h : backdrop t = backdrop s) (e : Fin 16) : t.pwr.en[e].hiZ = s.pwr.en[e].hiZ := by
  have flags : t.pwr.en.toList.map (·.hiZ) = s.pwr.en.toList.map (·.hiZ) := congrArg Backdrop.hiZ h
  simpa using congrArg (·[e.val]?) flags

/-! ### Control flow -/

@[simp] theorem backdrop_ite {c : Prop} [Decidable c] (s t : State) :
    backdrop (if c then s else t) = if c then backdrop s else backdrop t := apply_ite backdrop c s t

@[simp] theorem backdrop_when (c : Bool) (f : State → State) (s : State) :
    backdrop (when_ c f s) = if c then backdrop (f s) else backdrop s := by
  simp [when_]

@[simp] theorem backdrop_foldS {α : Type} {f : α → State → State} (h : ∀ a t, backdrop (f a t) = backdrop t) (l : List α)
    (s : State) : backdrop (foldS f l s) = backdrop s := foldS_keeps h l s

/-! ### Updates of one part

With `(rfl)`, and not `rfl`, `simp` also uses such a lemma where it discharges the side condition of `backdrop_foldS`. -/

@[simp] theorem backdrop_onHif (f : Hif → Hif) (s : State) : backdrop (s.onHif f) = backdrop s := (rfl)
@[simp] theorem backdrop_onPath (f : Path → Path) (s : State) : backdrop (s.onPath f) = backdrop s := (rfl)
@[simp] theorem backdrop_onChg (f : Chg → Chg) (s : State) : backdrop (s.onChg f) = backdrop s := (rfl)
@[simp] theorem backdrop_onEst (f : Est → Est) (s : State) : backdrop (s.onEst f) = backdrop s := (rfl)
@[simp] theorem backdrop_onAcq (f : Acq → Acq) (s : State) : backdrop (s.onAcq f) = backdrop s := (rfl)
@[simp] theorem backdrop_onSelv (f : Selv → Selv) (s : State) : backdrop (s.onSelv f) = backdrop s := (rfl)
@[simp] theorem backdrop_onEic (f : Eic → Eic) (s : State) : backdrop (s.onEic f) = backdrop s := (rfl)
@[simp] theorem backdrop_onNvm (f : Nvm → Nvm) (s : State) : backdrop (s.onNvm f) = backdrop s := (rfl)
@[simp] theorem backdrop_onRtc (f : Rtc → Rtc) (s : State) : backdrop (s.onRtc f) = backdrop s := (rfl)

/-- A change of the regulators that leaves the EN outputs alone. -/
@[simp] theorem backdrop_onPwr {f : Pwr → Pwr} {s : State} (h : (f s.pwr).en = s.pwr.en) : backdrop (s.onPwr f) = backdrop s := by
  simp [backdrop, h]

/-! ### Events, picks, ports and completions -/

@[simp] theorem backdrop_onPort (p : Port) (f : PortState → PortState) (s : State) : backdrop (onPort p f s) = backdrop s := (rfl)
@[simp] theorem backdrop_onPortNew (p : Port) (f : PortState → PortState) (s : State) : backdrop (onPortNew p f s) = backdrop s := (rfl)
@[simp] theorem backdrop_onSlots (f : List Slot → List Slot) (s : State) : backdrop (onSlots f s) = backdrop s := (rfl)

@[simp] theorem backdrop_raiseEvent (code : Nat) (d : W) (s : State) : backdrop (raiseEvent code d s) = backdrop s := by
  simp [raiseEvent]

@[simp] theorem backdrop_raisePickEv (src kind detail : Nat) (ev : Option (Nat × W)) (s : State) :
    backdrop (raisePickEv src kind detail ev s) = backdrop s := by
  rw [raisePickEv_frame]
  rfl

@[simp] theorem backdrop_raisePick (src kind detail : Nat) (s : State) : backdrop (raisePick src kind detail s) = backdrop s :=
  backdrop_raisePickEv src kind detail none s

@[simp] theorem backdrop_groupsSee (n : Nat) (s : State) : backdrop (s.onPwr (groupsSee n)) = backdrop s := backdrop_onPwr rfl

@[simp] theorem backdrop_latchEic (n : Nat) (s : State) : backdrop (latchEic n s) = backdrop s := by
  unfold latchEic latchEicInj
  split
  · rfl
  · simp [stormCheck, mirrorEvent]

@[simp] theorem backdrop_finish (x : Slot) (st : Nat) (ws : List W) (s : State) : backdrop (finish x st ws s) = backdrop s := by
  simp [finish]

@[simp] theorem backdrop_complete (p : Port) (tag : Tag) (st : Nat) (ws : List W) (s : State) :
    backdrop (complete p tag st ws s) = backdrop s := by
  unfold complete
  split <;> simp

@[simp] theorem backdrop_completeW (c : CmdRef) (st : Nat) (ws : List W) (s : State) : backdrop (completeW c st ws s) = backdrop s := by
  unfold completeW
  split <;> simp

@[simp] theorem backdrop_completeAllW (l : List CmdRef) (st : Nat) (ws : List W) (s : State) :
    backdrop (completeAllW l st ws s) = backdrop s := by
  simp [completeAllW]

@[simp] theorem backdrop_logEvent (code : Nat) (d : W) (t : Nat) (s : State) : backdrop (logEvent code d t s) = backdrop s := (rfl)

/-! ### The estimator -/

@[simp] theorem backdrop_setFlag (k : Nat) (b : Bool) (s : State) : backdrop (setFlag k b s) = backdrop s := (rfl)
@[simp] theorem backdrop_setSig (x : Nat) (s : State) : backdrop (setSig x s) = backdrop s := (rfl)
@[simp] theorem backdrop_setSoc (x : Nat) (s : State) : backdrop (setSoc x s) = backdrop s := (rfl)
@[simp] theorem backdrop_takeSelf (q : Nat) (s : State) : backdrop (takeSelf q s) = backdrop s := (rfl)
@[simp] theorem backdrop_caddyEntry (ty d : Nat) (a : Int) (s : State) : backdrop (caddyEntry ty d a s) = backdrop s := (rfl)
@[simp] theorem backdrop_onTable (k : TableKind) (f : TableSet → TableSet) (s : State) : backdrop (onTable k f s) = backdrop s := (rfl)

@[simp] theorem backdrop_setLevel (k : Nat) (b : Bool) (s : State) : backdrop (setLevel k b s) = backdrop s := by
  simp [setLevel]

@[simp] theorem backdrop_postSelf (s : State) : backdrop (postSelf s) = backdrop s := by
  simp [postSelf]

@[simp] theorem backdrop_rebase (ty d : Nat) (target : Int) (s : State) : backdrop (rebase ty d target s) = backdrop s := by
  simp [rebase]

@[simp] theorem backdrop_estFull (s : State) : backdrop (estFull s) = backdrop s := by
  simp [estFull]

@[simp] theorem backdrop_estCharger (old new : ChgState) (b : Bool) (s : State) : backdrop (estCharger old new b s) = backdrop s := by
  simp [estCharger]

@[simp] theorem backdrop_checkTable (k : TableKind) (s : State) : backdrop (checkTable k s) = backdrop s := by
  unfold checkTable
  split <;> simp

@[simp] theorem backdrop_checkTables (s : State) : backdrop (checkTables s) = backdrop s := by
  simp [checkTables]

/-! ### The charger -/

@[simp] theorem backdrop_chgDrive (s : State) : backdrop (chgDrive s) = backdrop s := (rfl)

@[simp] theorem backdrop_chgSet (st : ChgState) (b : Bool) (s : State) : backdrop (chgSet st b s) = backdrop s := by
  simp [chgSet]

@[simp] theorem backdrop_chgEval (s : State) : backdrop (chgEval s) = backdrop s := by
  simp [chgEval, startCheck]

@[simp] theorem backdrop_chgWait (s : State) : backdrop (chgWait s) = backdrop s := by
  simp [chgWait]

@[simp] theorem backdrop_enterAbsent (det : Nat) (b : Bool) (s : State) : backdrop (enterAbsent det b s) = backdrop s := by
  simp [enterAbsent]

@[simp] theorem backdrop_chgRestart (s : State) : backdrop (chgRestart s) = backdrop s := by
  simp [chgRestart]

@[simp] theorem backdrop_chgSafeHold (s : State) : backdrop (chgSafeHold s) = backdrop s := by
  simp [chgSafeHold, chgStop]

/-! ### The power path -/

@[simp] theorem backdrop_onSrc (i : Fin 4) (f : Source → Source) (s : State) : backdrop (onSrc i f s) = backdrop s := (rfl)
@[simp] theorem backdrop_pathOff (i : Fin 4) (s : State) : backdrop (pathOff i s) = backdrop s := (rfl)
@[simp] theorem backdrop_startQual (i : Fin 4) (s : State) : backdrop (startQual i s) = backdrop s := (rfl)
@[simp] theorem backdrop_noteCarrier (s : State) : backdrop (noteCarrier s) = backdrop s := (rfl)

@[simp] theorem backdrop_refreshLimit (i : Fin 4) (s : State) : backdrop (refreshLimit i s) = backdrop s := by
  simp [refreshLimit, setLimit]

@[simp] theorem backdrop_judgeWindow (d : Fin 2) (s : State) : backdrop (judgeWindow d s) = backdrop s := by
  simp [judgeWindow]

@[simp] theorem backdrop_setGdbat (b : Bool) (s : State) : backdrop (setGdbat b s) = backdrop s := by
  simp [setGdbat]

@[simp] theorem backdrop_setLink (st : LinkState) (s : State) : backdrop (setLink st s) = backdrop s := by
  simp [setLink]

@[simp] theorem backdrop_logHw (d : Nat) (s : State) : backdrop (logHw d s) = backdrop s := by
  simp [logHw]

@[simp] theorem backdrop_transfer (new old : LinkState) (gain lose cause : Nat) (s : State) :
    backdrop (transfer new old gain lose cause s) = backdrop s := by
  simp [transfer]

@[simp] theorem backdrop_returnCheck (s : State) : backdrop (returnCheck s) = backdrop s := by
  unfold returnCheck
  split
  · rfl
  · split <;> simp

@[simp] theorem backdrop_toBattery (s : State) : backdrop (toBattery s) = backdrop s := by
  simp [toBattery]

@[simp] theorem backdrop_handoverCheck (s : State) : backdrop (handoverCheck s) = backdrop s := by
  simp [handoverCheck]

@[simp] theorem backdrop_linkStart (s : State) : backdrop (linkStart s) = backdrop s := by
  simp [linkStart]

@[simp] theorem backdrop_linkRestart (s : State) : backdrop (linkRestart s) = backdrop s := by
  simp [linkRestart]

/-! ### Rails and monitors -/

@[simp] theorem backdrop_onMon (m : Fin 32) (f : Mon → Mon) (s : State) : backdrop (onMon m f s) = backdrop s := by
  simp [onMon]

@[simp] theorem backdrop_onVr (c : Fin 12) (f : Chan → Chan) (s : State) : backdrop (onVr c f s) = backdrop s := by
  simp [onVr]

@[simp] theorem backdrop_onLdo (n : Fin 8) (f : Ldo → Ldo) (s : State) : backdrop (onLdo n f s) = backdrop s := by
  simp [onLdo]

@[simp] theorem backdrop_onPh (k : Fin 24) (f : Phase → Phase) (s : State) : backdrop (onPh k f s) = backdrop s := by
  unfold onPh
  dsimp only
  split
  · simp
  · split <;> simp

@[simp] theorem backdrop_onPhs (l : List (Fin 24)) (f : Phase → Phase) (s : State) : backdrop (onPhs l f s) = backdrop s := by
  simp [onPhs]

/-- A change of an EN output that leaves it driven or high-impedance as it was. -/
@[simp] theorem backdrop_onEn {n : Fin 16} {f : En → En} {s : State} (h : ∀ y, (f y).hiZ = y.hiZ) :
    backdrop (onEn n f s) = backdrop s := by
  have flags : (vmod s.pwr.en n f).toList.map (·.hiZ) = s.pwr.en.toList.map (·.hiZ) := by
    refine List.ext_getElem (by simp) (fun i h1 h2 => ?_)
    simp [vmod, Vector.getElem_set]
    grind
  simp [backdrop, onEn, flags]

@[simp] theorem backdrop_ungate (r : Rail) (s : State) : backdrop (ungate r s) = backdrop s := by
  simp [ungate]

@[simp] theorem backdrop_chanDischarge (c : Fin 12) (s : State) : backdrop (chanDischarge c s) = backdrop s := by
  simp [chanDischarge, phasesOff, chanGo]

@[simp] theorem backdrop_applyPending (r : Rail) (s : State) : backdrop (applyPending r s) = backdrop s := (rfl)

@[simp] theorem backdrop_disableRail (r : Rail) (s : State) : backdrop (disableRail r s) = backdrop s := by
  cases r with
  | vr c => simp [disableRail, disableVr]
  | ldo n => simp [disableRail, disableLdo]
  | en n =>
    simp [disableRail, disableEn, apply_ite En.hiZ]

@[simp] theorem backdrop_withdrawHeld (r : Rail) (s : State) : backdrop (withdrawHeld r s) = backdrop s := by
  cases r <;> simp [withdrawHeld]

@[simp] theorem backdrop_addRailWait (r : Rail) (c : Option CmdRef) (s : State) : backdrop (addRailWait r c s) = backdrop s := by
  simp [addRailWait]

/-! ### The sequencer -/

@[simp] theorem backdrop_onGrp (g : Fin 8) (f : Group → Group) (s : State) : backdrop (onGrp g f s) = backdrop s := (rfl)

@[simp] theorem backdrop_setGroup (g : Fin 8) (st : GroupState) (s : State) : backdrop (setGroup g st s) = backdrop s := by
  simp [setGroup]

@[simp] theorem backdrop_abortUps (g : Fin 8) (w : W) (s : State) : backdrop (abortUps g w s) = backdrop s := by
  simp [abortUps]

@[simp] theorem backdrop_finishDowns (g : Fin 8) (st : Nat) (s : State) : backdrop (finishDowns g st s) = backdrop s := by
  simp [finishDowns]

@[simp] theorem backdrop_startSeries (g : Fin 8) (s : State) : backdrop (startSeries g s) = backdrop s := by
  simp [startSeries, startAttempt]

@[simp] theorem backdrop_startWalk (g : Fin 8) (i : Nat) (a : AfterDown) (st : GroupState) (s : State) :
    backdrop (startWalk g i a st s) = backdrop s := by
  simp [startWalk]

@[simp] theorem backdrop_armDown (g : Fin 8) (a : AfterDown) (s : State) : backdrop (armDown g a s) = backdrop s := (rfl)

@[simp] theorem backdrop_withdrawStep (g : Fin 8) (s : State) : backdrop (withdrawStep g s) = backdrop s := by
  unfold withdrawStep
  split <;> simp

@[simp] theorem backdrop_enterDown (g : Fin 8) (s : State) : backdrop (enterDown g s) = backdrop s := by
  unfold enterDown
  dsimp only
  split <;> simp

@[simp] theorem backdrop_requestUp (g : Fin 8) (l : List CmdRef) (s : State) : backdrop (requestUp g l s) = backdrop s := by
  unfold requestUp
  dsimp only
  split <;> simp

@[simp] theorem backdrop_requestDown (g : Fin 8) (l : List CmdRef) (w : W) (a : AfterDown) (s : State) :
    backdrop (requestDown g l w a s) = backdrop s := by
  unfold requestDown
  dsimp only
  split <;> simp

@[simp] theorem backdrop_abortAllDown (g : Fin 8) (w : W) (s : State) : backdrop (abortAllDown g w s) = backdrop s := by
  simp [abortAllDown]

@[simp] theorem backdrop_immediateOff (g : Fin 8) (w : W) (s : State) : backdrop (immediateOff g w s) = backdrop s := by
  unfold immediateOff
  dsimp only
  split
  · simp
  · split <;> simp

@[simp] theorem backdrop_monActions (m : Fin 32) (s : State) : backdrop (monActions m s) = backdrop s := by
  unfold monActions
  dsimp only
  split <;> simp

@[simp] theorem backdrop_monFault (m : Fin 32) (w : MonSide) (s : State) : backdrop (monFault m w s) = backdrop s := by
  simp [monFault]

@[simp] theorem backdrop_monEvaluate (m : Fin 32) (s : State) : backdrop (monEvaluate m s) = backdrop s := by
  simp [monEvaluate]

@[simp] theorem backdrop_monWrite (m : Fin 32) (s : State) : backdrop (monWrite m s) = backdrop s := by
  simp [monWrite]

end Sys2Proof.Machine

/-! PROOF. Secure boot (R391, R428, R429), and what it shares with the configuration image: boot errors and deferred decisions. -/

namespace Sys2Proof.Machine

/-! ### Vectors -/

@[simp] theorem getElem_vmap {α β : Type} {n : Nat} (f : α → β) (v : Vector α n) (i : Nat) (h : i < n) : (vmap f v)[i] = f v[i] := by
  simp [vmap]

@[simp] theorem getElem_vmod {α : Type} {n : Nat} (v : Vector α n) (i : Fin n) (f : α → α) (j : Nat) (h : j < n) :
    (vmod v i f)[j] = if i.val = j then f v[i] else v[j] := by
  simp [vmod, Vector.getElem_set]

/-! ### The intake -/

/-- A pick in the intake stays there while others arrive. -/
theorem mem_intake_raisePickEv {x : IntakePick} {src kind detail : Nat} {ev : Option (Nat × W)} {s : State} (h : x ∈ s.selv.intake) :
    x ∈ (raisePickEv src kind detail ev s).selv.intake := by
  have arrives (q : IntakePick) (v : Selv) (hv : x ∈ v.intake) : x ∈ (Selv.deliver q v).intake := by
    unfold Selv.deliver
    split <;> simp [hv]
  cases hr : s.sys.inReset
  · rw [raisePickEv_run _ _ _ _ _ hr]
    exact arrives _ _ h
  · have kept (f : FrameFlag) : (Selv.setFlag f s.selv).intake = s.selv.intake := by
      unfold Selv.setFlag
      split <;> rfl
    unfold raisePickEv
    rw [if_pos hr]
    split <;> simp [kept, h]

/-! ### Decisions on deferred commands (R90, R429) -/

/-- Of `s`, a decision of admission may change only the slots, queues and credits of the host interface, and what admission promises. -/
def Decided (s t : State) : Prop :=
  t.hif.events = s.hif.events ∧
    t = { s with
      hif := t.hif
      sys := { s.sys with reserved := t.sys.reserved, class0Starts := t.sys.class0Starts, nvmBusy := t.sys.nvmBusy } }

theorem Decided.refl (s : State) : Decided s s := ⟨rfl, rfl⟩

theorem Decided.trans {s t u : State} (h1 : Decided s t) (h2 : Decided t u) : Decided s u := by
  obtain ⟨events1, rest1⟩ := h1
  obtain ⟨events2, rest2⟩ := h2
  refine ⟨events2.trans events1, ?_⟩
  rw [rest2, rest1]

theorem decided_finish (x : Slot) (st : Nat) (ws : List W) (s : State) : Decided s (finish x st ws s) := by
  unfold finish
  dsimp only
  split
  · exact ⟨by simp, rfl⟩
  · split <;> exact ⟨by simp, rfl⟩

theorem decided_complete (p : Port) (tag : Tag) (st : Nat) (ws : List W) (s : State) : Decided s (complete p tag st ws s) := by
  unfold complete
  split
  · exact Decided.refl s
  · exact Decided.trans (t := onSlots (removeSlot p tag) s) ⟨rfl, rfl⟩ (decided_finish _ _ _ _)

theorem decided_serveAgain (x : Slot) (s : State) : Decided s (serveAgain x s) := by
  unfold serveAgain
  split
  · split
    · exact decided_complete _ _ _ _ _
    · exact Decided.refl s
    · exact ⟨rfl, rfl⟩
  · exact Decided.refl s

theorem decided_decideAgain (x : Slot) (s : State) : Decided s (decideAgain x s) := by
  unfold decideAgain
  split
  · exact decided_complete _ _ _ _ _
  · exact Decided.refl s
  · exact ⟨rfl, rfl⟩

theorem decided_admitServed (s : State) : Decided s (admitServed s) :=
  foldS_ind (P := Decided s) (fun x _ h => h.trans (decided_serveAgain x _)) _ _ (Decided.refl s)

theorem decided_decideDeferred (s : State) : Decided s (decideDeferred s) :=
  foldS_ind (P := Decided s) (fun x _ h => h.trans (decided_decideAgain x _)) _ _ (Decided.refl s)

/-! ### Boot errors (R429) -/

/-- Out of reset, FW_VERIFY with FW_IMAGE: the pick is delivered, the event raised, and nothing else changes. -/
theorem fwEvent_raisePick {n : Nat} {s : State} (h : s.sys.inReset = false) :
    fwEvent n (raisePick 0x210 0x28 0 s) =
      { s with selv := Selv.deliver { pick := mkPick 0x210 0x28 0, carried := false, time := s.sys.devTime } s.selv,
               hif := { s.hif with events := s.hif.events ++ [{ code := 0xB001, detail := w32 n, time := s.sys.devTime }] } } := by
  simp [fwEvent, raisePick, raisePickEv_run _ _ _ _ _ h, raiseEvent_eq, h]

/-- After a boot error, out of reset: its pick and its event, and the decisions on the deferred commands; the rest is as it was. -/
theorem bootError_served {n : Nat} {s t : State} (h : s.sys.inReset = false)
    (ht : t = admitServed (fwEvent n (raisePick 0x210 0x28 0 s))) :
    Picked 0x210 0x28 0 s t ∧ Raised 0xB001 (w32 n) s t ∧ t.store = s.store ∧ t.pwr = s.pwr ∧
      ∃ r c b, t.sys = { s.sys with reserved := r, class0Starts := c, nvmBusy := b } := by
  obtain ⟨events, rest⟩ := decided_admitServed (fwEvent n (raisePick 0x210 0x28 0 s))
  rw [fwEvent_raisePick h] at events rest ht
  rw [← ht] at events rest
  exact ⟨(congrArg State.selv rest :), events, (congrArg State.store rest :), (congrArg State.pwr rest :), _, _, _,
    (congrArg State.sys rest :)⟩

/-! ### Secure boot (R391, R428) -/

/-- Programming flash bytes moves no selection of a bank or image. -/
theorem program_bankB (l : List Byte) (a : Nat) (f : Fw) : (Fw.program a l f).bankB = f.bankB := by
  induction l generalizing a f with
  | nil => rfl
  | cons b l ih => rw [Fw.program, ih]

/-- Writing an activation record changes the firmware part alone, and not which bank is booted. -/
theorem putRec_frame (b : Bool) (i : Nat) (r : BankRec) (s : State) :
    ∃ w : Fw, putRec b i r s = s.onFw (fun _ => w) ∧ w.bankB = s.store.fw.bankB := by
  have applied (f : Fw → Fw) : s.onFw f = s.onFw (fun _ => f s.store.fw) := rfl
  unfold putRec
  split
  · exact ⟨s.store.fw, rfl, rfl⟩
  · exact ⟨_, applied _, program_bankB _ _ _⟩

theorem appendRec_frame (b : Bool) (f : BankRec → BankRec) (s : State) :
    ∃ w : Fw, appendRec b f s = s.onFw (fun _ => w) ∧ w.bankB = s.store.fw.bankB := putRec_frame _ _ _ _

/-- What taking a PD image leaves alone: the Heddle, the booted bank, of the system block all but ID_PDFW, and the picks that wait. -/
structure PdTaken (s t : State) : Prop where
  heddle : t.heddle = s.heddle
  sys : ∃ v, t.sys = { s.sys with pdfw := v }
  bankB : t.store.fw.bankB = s.store.fw.bankB
  intake : ∀ x ∈ s.selv.intake, x ∈ t.selv.intake

theorem PdTaken.refl (s : State) : PdTaken s s := ⟨rfl, ⟨_, rfl⟩, rfl, fun _ h => h⟩

theorem PdTaken.trans {s t u : State} (h1 : PdTaken s t) (h2 : PdTaken t u) : PdTaken s u where
  heddle := h2.heddle.trans h1.heddle
  sys := by
    obtain ⟨v, hv⟩ := h1.sys
    obtain ⟨w, hw⟩ := h2.sys
    exact ⟨w, by rw [hw, hv]⟩
  bankB := h2.bankB.trans h1.bankB
  intake x hx := h2.intake x (h1.intake x hx)

theorem PdTaken.ite {c : Prop} [Decidable c] {s t u : State} (ht : PdTaken s t) (hu : PdTaken s u) : PdTaken s (if c then t else u) := by
  split
  · exact ht
  · exact hu

theorem pdTaken_onPd (f : Pd → Pd) (s : State) : PdTaken s (s.onPd f) := ⟨rfl, ⟨_, rfl⟩, rfl, fun _ h => h⟩

theorem pdTaken_loadPd (slot : Bool) (x : ImgFacts) (s : State) : PdTaken s (loadPd slot x s) := ⟨rfl, ⟨_, rfl⟩, rfl, fun _ h => h⟩

theorem pdTaken_raisePickEv (src kind detail : Nat) (ev : Option (Nat × W)) (s : State) : PdTaken s (raisePickEv src kind detail ev s) :=
  ⟨by simp, ⟨_, raisePickEv_sys _ _ _ _ _⟩, by simp, fun _ h => mem_intake_raisePickEv h⟩

theorem pdTaken_flipPd (s : State) : PdTaken s (flipPd s) := by
  obtain ⟨w, hw, hb⟩ := appendRec_frame s.store.fw.bankB (fun r => { r with pdSel := !s.store.fw.pdSel, pdTrial := false }) s
  unfold flipPd
  simp only [hw]
  exact ⟨rfl, ⟨_, rfl⟩, hb, fun _ h => h⟩

theorem pdTaken_takePd (s : State) : PdTaken s (takePd s) := by
  unfold takePd
  split
  · exact .refl s
  · have flipped {c : Prop} [Decidable c] : PdTaken s
        (if c then s.onPd (fun q => { q with imageBad := false }) else flipPd (s.onPd (fun q => { q with imageBad := false }))) :=
      .ite (pdTaken_onPd _ s) ((pdTaken_onPd _ s).trans (pdTaken_flipPd _))
    have noImage : PdTaken s ((s.onPd (fun q => { q with imageBad := true })).onSys (fun y => { y with pdfw := 0 })) :=
      ⟨rfl, ⟨_, rfl⟩, rfl, fun _ h => h⟩
    exact .ite (noImage.trans (pdTaken_raisePickEv _ _ _ _ _))
      (.trans (.ite (flipped.trans (pdTaken_raisePickEv _ _ _ _ _)) (.ite (flipped.trans (pdTaken_raisePickEv _ _ _ _ _)) flipped))
        (pdTaken_loadPd _ _ _))

/-- Every processor out of reset has its boot window opened. -/
def releaseProcs (s : State) : State :=
  foldS (fun i t => when_ (!t.sys.pfHeld || i == 0 || i == 8) (armBoot i) t) (allFin 9) s

/-- With the processors free and Horto to run, opening the boot windows changes nothing but the windows. -/
theorem armBoot_onHeddle {s : State} {h : Heddle} (hErr : s.sys.bootErr ≠ 2) (hHold : h.safeHold = false) (i : Fin 9) :
    armBoot i (s.onHeddle (fun _ => h)) = s.onHeddle (fun _ =>
      { h with w := vmod h.w i (fun w => { w.disarm with boot := some (s.sys.devTime, bootMs s), last := 0 }) }) := by
  unfold armBoot
  rw [if_neg (by simp [hHold]; exact decide_eq_false hErr)]
  rfl

/-- The boot windows of the processors in a list open, and those open already stay so. -/
theorem foldS_armBoot {s : State} (hErr : s.sys.bootErr ≠ 2) (hHeld : s.sys.pfHeld = false) (l : List (Fin 9)) (h : Heddle)
    (hHold : h.safeHold = false) :
    ∃ h' : Heddle, foldS (fun i t => when_ (!t.sys.pfHeld || i == 0 || i == 8) (armBoot i) t) l (s.onHeddle (fun _ => h)) =
        s.onHeddle (fun _ => h') ∧ h'.safeHold = false ∧
      ∀ j : Fin 9, j ∈ l ∨ h.w[j].boot = some (s.sys.devTime, bootMs s) → h'.w[j].boot = some (s.sys.devTime, bootMs s) := by
  induction l generalizing h with
  | nil => exact ⟨h, rfl, hHold, fun j hj => by simpa using hj⟩
  | cons i l ih =>
    obtain ⟨h', rest, hold', opened⟩ := ih
      { h with w := vmod h.w i (fun w => { w.disarm with boot := some (s.sys.devTime, bootMs s), last := 0 }) } hHold
    refine ⟨h', ?_, hold', fun j hj => opened j ?_⟩
    · rw [← rest]
      simp only [foldS, when_, State.onHeddle_sys, hHeld, Bool.not_false, Bool.true_or, if_true, armBoot_onHeddle hErr hHold]
    · by_cases hji : i = j
      · simp [hji]
      · have : i.val ≠ j.val := fun h => hji (Fin.ext h)
        simpa [this, Ne.symm hji] using hj

/-- Released with no block held, every processor has its boot window open, and nothing else changes (R391). -/
theorem releaseProcs_eq {s : State} (hErr : s.sys.bootErr ≠ 2) (hHeld : s.sys.pfHeld = false) (hHold : s.heddle.safeHold = false) :
    ∃ h : Heddle, releaseProcs s = s.onHeddle (fun _ => h) ∧ h.safeHold = false ∧
      ∀ i : Fin 9, h.w[i].boot = some (s.sys.devTime, bootMs s) := by
  obtain ⟨h, rest, hold, opened⟩ := foldS_armBoot hErr hHeld (allFin 9) s.heddle hHold
  exact ⟨h, rest, hold, fun i => opened i (.inl (List.mem_finRange i))⟩

/-- Releasing processors touches the Heddle's windows alone. -/
theorem releaseProcs_frame (s : State) :
    ∃ h : Heddle, releaseProcs s = s.onHeddle (fun _ => h) ∧ h.safeHold = s.heddle.safeHold := by
  refine foldS_ind (P := fun t => ∃ h : Heddle, t = s.onHeddle (fun _ => h) ∧ h.safeHold = s.heddle.safeHold) ?_ _ _
    ⟨s.heddle, rfl, rfl⟩
  rintro i _ ⟨h, rfl, hHold⟩
  refine when_ind (P := fun t => ∃ h : Heddle, t = s.onHeddle (fun _ => h) ∧ h.safeHold = s.heddle.safeHold)
    (fun _ => ⟨h, rfl, hHold⟩) (fun _ => ?_)
  unfold armBoot
  split <;> exact ⟨_, rfl, hHold⟩

/-- A bank is booted: it is the booted one, its Horto runs under its version, and then the processors are released. -/
theorem bootBank_eq (b : Bool) (s : State) :
    ∃ t : State, bootBank b s = releaseProcs t ∧ t.heddle = s.heddle ∧ t.store.fw.bankB = b ∧
      (∀ x ∈ s.selv.intake, x ∈ t.selv.intake) ∧
      ∃ v, t.sys = { s.sys with pdfw := v, hortoRuns := true, stage := 0x03, boot := { s.sys.boot with bootDone := true },
                                hortoVer := (s.store.fw.facts.map (fun f => bankOf f b)).elim 0 (fun x => x.horto.version) } := by
  have taken (g : Fw → Fw) := pdTaken_takePd (s.onFw g)
  refine ⟨_, rfl, (taken _).heddle, (taken _).bankB, (taken _).intake, ?_⟩
  obtain ⟨v, hv⟩ := (taken _).sys
  exact ⟨v, by rw [State.onSys_sys, hv]; rfl⟩

/-- The verdicts on the images as secure boot notes them, with no trial ended. -/
def noteFacts (f : BootFacts) (s : State) : State := s.onFw (fun w => { w with facts := some f, reverted := false })

/-- Secure boot after a start that ended no trial: the active bank first, then the other one, then the boot loader in ROM (R428). -/
theorem exec_secureBoot {f : BootFacts} {s : State}
    (hopen : s.sys.boot.earlyOpen = true ∧ s.sys.inReset = false ∧ s.sys.boot.bootDone = false ∧ s.sys.bootErr ≠ 2)
    (hlc : lcNow s ≠ .decommissioned) (hlast : s.sys.rstLast ≠ 5) :
    exec (.secureBoot f) s = .next (
      if bootable f (activeBank s) s then holdAgain (bootBank (activeBank s) (noteFacts f s))
      else if bootable f (!activeBank s) s then holdAgain (bootBank (!activeBank s) (bootSecond (activeBank s) (noteFacts f s)))
      else bootFailed (noteFacts f s)) := by
  obtain ⟨hearly, hreset, hdone, herr⟩ := hopen
  have noTrial (r : Bool) : (r && s.sys.rstLast == 5) = false := by
    rw [beq_eq_false_iff_ne.2 hlast, Bool.and_false]
  show execSecureBoot f s = _
  unfold execSecureBoot
  rw [if_neg (by simpa [hearly, hreset, hdone, hlc] using herr)]
  simp only [noTrial, when_, Bool.false_eq_true, if_false]
  rfl

/-- The second bank's boot has its boot error in force. -/
@[simp] theorem bootSecond_sys (first : Bool) (s : State) :
    (bootSecond first s).sys = { s.sys with bootErr := if first then 5 else 1 } := by
  cases first <;> simp [bootSecond, fwEvent, raisePick]

@[simp] theorem bootSecond_heddle (first : Bool) (s : State) : (bootSecond first s).heddle = s.heddle := by
  simp [bootSecond, fwEvent, raisePick]

/-- FW_VERIFY of the second bank's boot finds room in the intake. -/
theorem mem_intake_bootSecond {first : Bool} {s : State} (hreset : s.sys.inReset = false) (hroom : s.selv.intake.length < 12) :
    { pick := mkPick 0x210 0x28 0, carried := false, time := s.sys.devTime } ∈ (bootSecond first s).selv.intake := by
  have room : s.selv.intake.length < 16 := by omega
  simp only [bootSecond]
  rw [fwEvent_raisePick]
  · simp [Selv.deliver, room]
  · exact hreset

theorem holdAgain_free {s : State} (h : s.heddle.safeHold = false) : holdAgain s = s := by
  simp [holdAgain, h]

/-- The active bank's Horto image verifies: it is booted, with 100 ms boot windows (R391, R428). -/
theorem answers_secureBoot_first {f : BootFacts} {s : State}
    (hopen : s.sys.boot.earlyOpen = true ∧ s.sys.inReset = false ∧ s.sys.boot.bootDone = false ∧ s.sys.bootErr ≠ 2)
    (hlc : lcNow s ≠ .decommissioned) (hlast : s.sys.rstLast ≠ 5)
    (hfree : s.heddle.safeHold = false ∧ s.sys.pfHeld = false ∧ s.sys.boot.cfgLoaded = false)
    (hboot : bootable f (activeBank s) s = true) :
    Answers (.secureBoot f) s (fun t => t.sys.boot.bootDone = true ∧ t.sys.hortoRuns = true ∧ t.sys.stage = 0x03 ∧
      t.sys.hortoVer = (bankOf f (activeBank s)).horto.version ∧ t.store.fw.bankB = activeBank s ∧ t.sys.bootErr = s.sys.bootErr ∧
      ∀ i : Fin 9, t.heddle.w[i].boot = some (s.sys.devTime, 100)) := by
  obtain ⟨hHold, hHeld, hCfg⟩ := hfree
  obtain ⟨-, -, -, herr⟩ := id hopen
  obtain ⟨t, booted, heddle, bank, -, v, sys⟩ := bootBank_eq (activeBank s) (noteFacts f s)
  obtain ⟨h, released, hold, windows⟩ := releaseProcs_eq (s := t) (by rw [sys]; exact herr) (by rw [sys]; exact hHeld)
    (by rw [heddle]; exact hHold)
  refine ⟨_, exec_secureBoot hopen hlc hlast, ?_⟩
  simp only [hboot, if_true, booted, released, holdAgain_free (s := t.onHeddle (fun _ => h)) hold]
  have window : (t.sys.devTime, bootMs t) = (s.sys.devTime, 100) := by simp [bootMs, sys, hCfg, noteFacts]
  refine ⟨?_, ?_, ?_, ?_, bank, ?_, fun i => (windows i).trans (congrArg some window)⟩ <;> simp [sys, noteFacts]

/-- Only the other bank's Horto image verifies: it is booted, with FW_VERIFY and its boot error (R428, R429). -/
theorem answers_secureBoot_second {f : BootFacts} {s : State}
    (hopen : s.sys.boot.earlyOpen = true ∧ s.sys.inReset = false ∧ s.sys.boot.bootDone = false ∧ s.sys.bootErr ≠ 2)
    (hlc : lcNow s ≠ .decommissioned) (hlast : s.sys.rstLast ≠ 5) (hHold : s.heddle.safeHold = false)
    (hboot : bootable f (activeBank s) s = false ∧ bootable f (!activeBank s) s = true) :
    Answers (.secureBoot f) s (fun t => t.sys.bootErr = (if activeBank s = true then 5 else 1) ∧ t.sys.boot.bootDone = true ∧
      t.store.fw.bankB = !activeBank s ∧ Delivered 0x210 0x28 0 s t) := by
  obtain ⟨t, booted, heddle, bank, intake, v, sys⟩ := bootBank_eq (!activeBank s) (bootSecond (activeBank s) (noteFacts f s))
  obtain ⟨h, released, hold⟩ := releaseProcs_frame t
  obtain ⟨-, hreset, -⟩ := id hopen
  refine ⟨_, exec_secureBoot hopen hlc hlast, ?_⟩
  have free : h.safeHold = false := by
    rw [hold, heddle, bootSecond_heddle]
    exact hHold
  simp only [hboot, if_true, Bool.false_eq_true, if_false]
  rw [booted, released, holdAgain_free free]
  refine ⟨?_, ?_, bank, fun hroom => intake _ ?_⟩
  · simp [sys]
  · simp [sys]
  · exact mem_intake_bootSecond hreset hroom

/-- No Horto image verifies: BOOT_ERR 2 with FW_VERIFY, and the boot loader in ROM serves what the service allows (R429). -/
theorem answers_secureBoot_none {f : BootFacts} {s : State}
    (hopen : s.sys.boot.earlyOpen = true ∧ s.sys.inReset = false ∧ s.sys.boot.bootDone = false ∧ s.sys.bootErr ≠ 2)
    (hlc : lcNow s ≠ .decommissioned) (hlast : s.sys.rstLast ≠ 5) (hboot : ∀ b, bootable f b s = false) :
    Answers (.secureBoot f) s (fun t => t.sys.bootErr = 2 ∧ t.sys.boot.bootDone = false ∧ t.sys.hortoRuns = s.sys.hortoRuns ∧
      t.sys.mode = s.sys.mode ∧ Picked 0x210 0x28 0 s t ∧ Raised 0xB001 2 s t ∧ t.pwr = s.pwr) := by
  refine ⟨_, exec_secureBoot hopen hlc hlast, ?_⟩
  simp only [hboot, Bool.false_eq_true, if_false]
  obtain ⟨-, hreset, hdone, -⟩ := hopen
  obtain ⟨picked, raised, -, pwr, _, _, _, sys⟩ := bootError_served (n := 2)
    (s := ((noteFacts f s).onSys (fun y => { y with bootErr := 2 })).onFw (fun w => { w with bankB := false })) hreset
    (t := bootFailed (noteFacts f s)) rfl
  exact ⟨by rw [sys]; rfl, by rw [sys]; exact hdone, by rw [sys]; rfl, by rw [sys]; rfl, picked, raised, pwr⟩

end Sys2Proof.Machine

/-! PROOF. The configuration image, full service and auto-start. -/

namespace Sys2Proof.Machine

/-! ### The configuration image (R14, R45, R429) -/

@[simp] theorem backdrop_carryPicks (s : State) : backdrop (carryPicks s) = backdrop s := by
  simp [carryPicks]

@[simp] theorem backdrop_placePhases (s : State) : backdrop (placePhases s) = backdrop s := by
  simp [placePhases]

@[simp] theorem backdrop_placeAtts (s : State) : backdrop (placeAtts s) = backdrop s := by
  simp [placeAtts]

@[simp] theorem backdrop_placeGroups (s : State) : backdrop (placeGroups s) = backdrop s := by
  simp [placeGroups]

@[simp] theorem backdrop_placeMons (s : State) : backdrop (placeMons s) = backdrop s := by
  simp [placeMons]

@[simp] theorem backdrop_placeDc (d : Fin 2) (s : State) : backdrop (placeDc d s) = backdrop s := by
  simp [placeDc]

@[simp] theorem backdrop_placeLink (s : State) : backdrop (placeLink s) = backdrop s := by
  simp [placeLink]

@[simp] theorem backdrop_placeAcq (s : State) : backdrop (placeAcq s) = backdrop s := by
  simp [placeAcq, setRef]

@[simp] theorem backdrop_writeLevels (i : Fin 12) (s : State) : backdrop (writeLevels i s) = backdrop s := (rfl)

@[simp] theorem backdrop_placeChg (s : State) : backdrop (placeChg s) = backdrop s := by
  simp [placeChg]

@[simp] theorem backdrop_tryAlloc (s : State) : backdrop (tryAlloc s) = backdrop s := by
  simp [tryAlloc]

/-- Every EN and every GPIO output leaves high impedance. -/
def leaveHiZ (s : State) : State :=
  (s.onPwr (fun w => { w with en := vmap (fun x => { x with hiZ := false }) w.en })).onGpio
    (fun v => vmap (fun g => { g with hiZ := false, fresh := true }) v)

@[simp] theorem leaveHiZ_sys (s : State) : (leaveHiZ s).sys = s.sys := rfl

@[simp] theorem leaveHiZ_store (s : State) : (leaveHiZ s).store = s.store := rfl

/-- What the blocks take from the image shows in the backdrop by the outputs that leave high impedance alone. -/
theorem backdrop_placeAll (s : State) : backdrop (placeAll s) = backdrop (leaveHiZ s) := by
  simp [placeAll, leaveHiZ]

theorem takeImage_img (m : Sparse Int) (s : State) : (takeImage m s).store.par.img = m := by
  simp [takeImage, withImage]

/-- A valid image is taken: its serial and values, and every EN and GPIO output out of high impedance. -/
theorem answers_configLoad_valid {serial : W} {img : List (Nat × List W)} {s : State}
    (hdue : s.sys.boot.bootDone = true ∧ s.sys.boot.cfgLoaded = false ∧ s.sys.inReset = false ∧ s.sys.bootErr = 0)
    (himg : imageOk img s = true) :
    Answers (.configLoad serial img) s (fun t => t.sys.boot.cfgLoaded = true ∧ t.sys.cfgSerial = serial ∧ t.sys.bootErr = 0 ∧
      t.store.par.img = imageKeys img ∧ (∀ e : Fin 16, t.pwr.en[e].hiZ = false) ∧ ∀ n : Fin 16, t.gpio[n].hiZ = false) := by
  obtain ⟨hdone, hcfg, hreset, herr⟩ := hdue
  let s2 := (takeImage (imageKeys img) s).onSys (fun y => { y with cfgSerial := serial, boot := { y.boot with cfgLoaded := true } })
  have row : exec (.configLoad serial img) s = .next (placeAll (carryPicks s2)) := by
    show execConfigLoad serial img s = _
    simp [execConfigLoad, hdone, hcfg, hreset, herr, himg, s2]
  have carried : backdrop (carryPicks s2) = backdrop s2 := backdrop_carryPicks s2
  have placed := backdrop_placeAll (carryPicks s2)
  have sys : (placeAll (carryPicks s2)).sys = s2.sys := by
    rw [backdrop_sys placed, leaveHiZ_sys, backdrop_sys carried]
  have image : (placeAll (carryPicks s2)).store.par.img = imageKeys img := by
    rw [backdrop_img placed, leaveHiZ_store, backdrop_img carried]
    exact takeImage_img _ s
  refine ⟨_, row, by rw [sys]; rfl, by rw [sys]; rfl, by rw [sys]; exact herr, image, fun e => ?_, fun n => ?_⟩
  · rw [backdrop_hiZ placed]
    simp [leaveHiZ]
  · simp [backdrop_gpio placed, leaveHiZ]

/-- An image that is not valid gives BOOT_ERR 3 (R429). -/
theorem answers_configLoad_bad {serial : W} {img : List (Nat × List W)} {s : State}
    (hdue : s.sys.boot.bootDone = true ∧ s.sys.boot.cfgLoaded = false ∧ s.sys.inReset = false ∧ s.sys.bootErr = 0)
    (himg : imageOk img s = false) :
    Answers (.configLoad serial img) s (fun t => t.sys.bootErr = 3 ∧ t.sys.boot.cfgLoaded = false ∧ Picked 0x210 0x28 0 s t ∧
      Raised 0xB001 3 s t ∧ t.store = s.store ∧ t.pwr = s.pwr) := by
  obtain ⟨hdone, hcfg, hreset, herr⟩ := hdue
  have row : exec (.configLoad serial img) s = .next (imageBad s) := by
    show execConfigLoad serial img s = _
    simp [execConfigLoad, hdone, hcfg, hreset, herr, himg]
  obtain ⟨picked, raised, store, pwr, _, _, _, sys⟩ := bootError_served (n := 3) (s := s.onSys (fun y => { y with bootErr := 3 }))
    hreset (t := imageBad s) rfl
  exact ⟨_, row, by rw [sys]; rfl, by rw [sys]; exact hcfg, picked, raised, store, pwr⟩

/-! ### Full service (R35, R36, R45, R90) -/

/-- The mode, the service, the stage and the progress of the start. -/
def standing (s : State) : Mode × Service × BitVec 8 × Boot := (s.sys.mode, s.sys.service, s.sys.stage, s.sys.boot)

theorem standing_of_backdrop {s t : State} (h : backdrop t = backdrop s) : standing t = standing s := by
  simp only [standing, backdrop_sys h]

theorem standing_of_decided {s t : State} (h : Decided s t) : standing t = standing s := by
  obtain ⟨-, rest⟩ := h
  rw [rest]
  rfl

@[simp] theorem backdrop_logTest (low : Nat) (ws : List W) (s : State) : backdrop (logTest low ws s) = backdrop s := (rfl)

@[simp] theorem standing_ite {c : Prop} [Decidable c] (s t : State) :
    standing (if c then s else t) = if c then standing s else standing t := apply_ite standing c s t

@[simp] theorem standing_when (c : Bool) (f : State → State) (s : State) :
    standing (when_ c f s) = if c then standing (f s) else standing s := by
  cases c <;> rfl

@[simp] theorem standing_takeFree (s : State) : standing (takeFree s) = standing s := (rfl)

@[simp] theorem standing_logTest (low : Nat) (ws : List W) (s : State) : standing (logTest low ws s) = standing s :=
  standing_of_backdrop (backdrop_logTest low ws s)

@[simp] theorem standing_raiseEvent (code : Nat) (d : W) (s : State) : standing (raiseEvent code d s) = standing s :=
  standing_of_backdrop (backdrop_raiseEvent code d s)

@[simp] theorem standing_postpone (k : TestKind) (r : Nat) (s : State) : standing (postpone k r s) = standing s := by
  have counted (n : Nat) (t : State) : standing (setPostponed k n t) = standing t := rfl
  cases k <;> simp [postpone, counted, logNoTest]

@[simp] theorem standing_missedTests (s : State) : standing (missedTests s) = standing s := by
  simp [missedTests]

@[simp] theorem backdrop_startEntry (s : State) : backdrop (startEntry s) = backdrop s := by
  simp [startEntry]

@[simp] theorem backdrop_rebuildCaddy (s : State) : backdrop (rebuildCaddy s) = backdrop s := by
  unfold rebuildCaddy
  split
  · rfl
  · simp

@[simp] theorem backdrop_estStart (s : State) : backdrop (estStart s) = backdrop s := by
  have half (t : State) : backdrop (sigHalf t) = backdrop t := backdrop_setSig 5000 t
  unfold estStart
  split
  · rfl
  · split
    · simp
    · split
      · exact half s
      · simp [half, shipGap]

@[simp] theorem backdrop_programAlarms (s : State) : backdrop (programAlarms s) = backdrop s := by
  simp [programAlarms, rtcLockedWrite]

@[simp] theorem backdrop_postResult (s : State) : backdrop (postResult s) = backdrop s := by
  unfold postResult
  split <;> simp

/-- The first full service of a start leaves the mode, the service and the stage as they are. -/
theorem standing_firstService (s : State) :
    standing (firstService s) = (s.sys.mode, s.sys.service, s.sys.stage, { s.sys.boot with full := true }) := by
  have before : standing (postResult (programAlarms (missedTests (startEntry (estStart s))))) = standing s := by
    rw [standing_of_backdrop (backdrop_postResult _), standing_of_backdrop (backdrop_programAlarms _), standing_missedTests,
      standing_of_backdrop (backdrop_startEntry _), standing_of_backdrop (backdrop_estStart _)]
  simp only [standing, Prod.mk.injEq] at before
  obtain ⟨mode, service, stage, boot⟩ := before
  simp only [standing, firstService, State.onSys_sys, mode, service, stage, boot]

@[simp] theorem backdrop_monWiden (m : Fin 32) (s : State) : backdrop (monWiden m s) = backdrop s := by
  simp [monWiden, monUnite]

@[simp] theorem backdrop_applyMargin (c : Fin 12) (m : Int) (s : State) : backdrop (applyMargin c m s) = backdrop s := by
  simp [applyMargin, slewTo]

@[simp] theorem backdrop_testRemnants (s : State) : backdrop (testRemnants s) = backdrop s := by
  simp [testRemnants, endMargins]

/-- Full service makes the mode NORMAL. -/
theorem standing_enterFull (s : State) : standing (enterFull s) = (.normal, .full, 0x04, s.sys.boot) := by
  have normal (t : State) : standing (setMode .normal t) = (.normal, t.sys.service, t.sys.stage, t.sys.boot) := by
    rw [setMode_frame]
    rfl
  have full (t : State) : (setService .full t).sys.service = .full ∧ (setService .full t).sys.boot = t.sys.boot := by
    unfold setService
    split
    · next h => exact ⟨h, rfl⟩
    · simp
  have limp (c : Bool) (t : State) : (when_ c (raisePick 0x001 0x12 0) t).sys = t.sys := by
    cases c <;> simp [when_, raisePick]
  unfold enterFull
  dsimp only
  rw [standing_of_decided (decided_decideDeferred _), normal, backdrop_sys (backdrop_testRemnants _)]
  simp [full, limp]

/-- FULL_SERVICE with every processor at its work: the first service of a start, and full service unless Safe Hold keeps RECOVERY. -/
theorem exec_fullService {s : State} (hready : serviceReady s = true) (hdue : s.sys.boot.full = false ∨ s.sys.cmdDown = true) :
    exec .fullService s = .next (
      let s1 := when_ (!s.sys.boot.full) firstService s
      if s.heddle.safeHold then s1 else enterFull s1) := by
  show execFullService s = _
  obtain h | h := hdue <;> simp [execFullService, hready, h]

/-- Full service at a start makes the mode NORMAL (R35). -/
theorem answers_fullService_start {s : State} (hready : serviceReady s = true) (hfull : s.sys.boot.full = false)
    (hHold : s.heddle.safeHold = false) :
    Answers .fullService s (fun t => t.sys.mode = .normal ∧ t.sys.service = .full ∧ t.sys.stage = 0x04 ∧ t.sys.boot.full = true) := by
  have first := standing_firstService s
  have entered := standing_enterFull (firstService s)
  simp only [standing, Prod.mk.injEq] at first entered
  obtain ⟨-, -, -, boot⟩ := first
  obtain ⟨mode, service, stage, boot'⟩ := entered
  refine ⟨_, exec_fullService hready (.inl hfull), ?_⟩
  simp [hfull, hHold, when_, mode, service, stage, boot, boot']

/-- In Safe Hold full service leaves the mode and the service (R36). -/
theorem answers_fullService_safeHold {s : State} (hready : serviceReady s = true) (hHold : s.heddle.safeHold = true) :
    Answers .fullService s (fun t => t.sys.mode = s.sys.mode ∧ t.sys.service = s.sys.service) := by
  have first := standing_firstService s
  simp only [standing, Prod.mk.injEq] at first
  obtain ⟨mode, service, -, -⟩ := first
  by_cases hdue : s.sys.boot.full = false ∨ s.sys.cmdDown = true
  · refine ⟨_, exec_fullService hready hdue, ?_⟩
    cases hfull : s.sys.boot.full <;> simp [hHold, when_, mode, service]
  · refine ⟨s, ?_, rfl, rfl⟩
    show execFullService s = _
    simp only [not_or, Bool.not_eq_false, Bool.not_eq_true] at hdue
    simp [execFullService, hdue]

/-! ### Auto-start (R46, R215) -/

/-- An edge at the event controller reaches the groups by the latches of those that wait for it alone (R207). -/
theorem latchEic_pwr (n : Nat) (s : State) : (latchEic n s).pwr = s.pwr ∨ (latchEic n s).pwr = groupsSee n s.pwr := by
  have storm (t : State) : (stormCheck n t).pwr = t.pwr := by
    unfold stormCheck
    exact when_ind (P := fun u => u.pwr = t.pwr) (fun _ => rfl) (fun _ => by simp)
  have mirror (t : State) : (mirrorEvent n t).pwr = t.pwr := by
    rw [← mirrorEvent_frame]
  unfold latchEic latchEicInj
  split
  · exact .inl rfl
  · exact .inr (by rw [storm, mirror]; rfl)

/-- The rails, the queue of the auto-start groups, and a group's state and attempts. -/
def railsAndGroup (g : Fin 8) (s : State) : Vector Chan 12 × Vector Ldo 8 × Vector En 16 × List (Fin 8) × GroupState × Nat :=
  (s.pwr.vr, s.pwr.ldo, s.pwr.en, s.pwr.autoQueue, s.pwr.grp[g].st, s.pwr.grp[g].attempts)

theorem railsAndGroup_latchEic (g : Fin 8) (n : Nat) (s : State) : railsAndGroup g (latchEic n s) = railsAndGroup g s := by
  obtain h | h := latchEic_pwr n s
  · simp only [railsAndGroup, h]
  · simp only [railsAndGroup, h, groupsSee, Fin.getElem_fin, getElem_vmap]
    split <;> rfl

/-- A group that changes its state keeps its attempts, and the rails stay. -/
theorem railsAndGroup_setGroup {g : Fin 8} {st : GroupState} {s : State} (h : s.pwr.grp[g].st ≠ st) :
    railsAndGroup g (setGroup g st s) = (s.pwr.vr, s.pwr.ldo, s.pwr.en, s.pwr.autoQueue, st, s.pwr.grp[g].attempts) := by
  unfold setGroup
  rw [if_neg h, railsAndGroup_latchEic]
  simp [railsAndGroup, onGrp]

/-- A group that is down starts its first attempt; nothing of the rails changes yet (R210, R211). -/
theorem railsAndGroup_requestUp {g : Fin 8} {s : State} (h : s.pwr.grp[g].st = .down) :
    railsAndGroup g (requestUp g [] s) = (s.pwr.vr, s.pwr.ldo, s.pwr.en, s.pwr.autoQueue, .upRun, 1) := by
  unfold requestUp
  simp only [h]
  unfold startSeries startAttempt
  rw [railsAndGroup_setGroup]
  · simp [onGrp]
  · have h' : s.pwr.grp[g.val].st = .down := h
    simp [onGrp, h']

/-- The first group of the sequence that starts by itself begins its first attempt; the others queue behind it (R46, R215). -/
theorem answers_autoStart_first {g : Fin 8} {l : List (Fin 8)} {s : State}
    (hdue : s.sys.boot.autoDue = true ∧ s.sys.boot.firstRound = true ∧ s.sys.boot.full = true)
    (hauto : (seqOrder s).filter (fun k => groupAuto k s) = g :: l) (hdown : s.pwr.grp[g].st = .down) :
    Answers .autoStart s (fun t => t.sys.boot.autoDue = false ∧ t.pwr.autoQueue = g :: l ∧ t.pwr.grp[g].st = .upRun ∧
      t.pwr.grp[g].attempts = 1 ∧ t.pwr.vr = s.pwr.vr ∧ t.pwr.ldo = s.pwr.ldo ∧ t.pwr.en = s.pwr.en) := by
  obtain ⟨hAuto, hRound, hFull⟩ := hdue
  let s1 := (s.onSys (fun y => { y with boot := { y.boot with autoDue := false } })).onPwr (fun w => { w with autoQueue := g :: l })
  have row : exec .autoStart s = .next (requestUp g [] s1) := by
    have auto : (seqOrder (s.onSys (fun y => { y with boot := { y.boot with autoDue := false } }))).filter
        (fun k => groupAuto k (s.onSys (fun y => { y with boot := { y.boot with autoDue := false } }))) = g :: l := hauto
    show execAutoStart s = _
    simp only [execAutoStart, hAuto, hRound, hFull, auto]
    rfl
  have started := railsAndGroup_requestUp (s := s1) hdown
  simp only [railsAndGroup, Prod.mk.injEq] at started
  obtain ⟨vr, ldo, en, queue, st, attempts⟩ := started
  have sys := backdrop_sys (backdrop_requestUp g [] s1)
  exact ⟨_, row, by rw [sys]; rfl, queue, st, attempts, vr, ldo, en⟩

/-- With no auto-start group, the start is only noted (R215). -/
theorem answers_autoStart_none {s : State}
    (hdue : s.sys.boot.autoDue = true ∧ s.sys.boot.firstRound = true ∧ s.sys.boot.full = true)
    (hauto : (seqOrder s).filter (fun k => groupAuto k s) = []) :
    Answers .autoStart s (fun t => t = { s with sys := { s.sys with boot := { s.sys.boot with autoDue := false } } }) := by
  obtain ⟨hAuto, hRound, hFull⟩ := hdue
  refine ⟨_, ?_, rfl⟩
  have auto : (seqOrder (s.onSys (fun y => { y with boot := { y.boot with autoDue := false } }))).filter
      (fun k => groupAuto k (s.onSys (fun y => { y with boot := { y.boot with autoDue := false } }))) = [] := hauto
  show execAutoStart s = _
  unfold execAutoStart
  rw [if_neg (by simp [hAuto, hRound, hFull])]
  simp only [auto]
  rfl

end Sys2Proof.Machine

/-! PROOF. The recall: what it serves and gives back, and the statement of secure boot to full service. -/

namespace Sys2Proof.Machine

/-! ### The recall's parts (R404, R409, R410, R413) -/

/-- BOOT_ERR after the recall's check of the parameters and the kettle sets. -/
def noteRecallError (s : State) : State :=
  when_ (recallError s && s.sys.bootErr == 0) (State.onSys (fun y => { y with bootErr := 4 })) s

/-- The learned data served and, when the start is due, the kettle set given back. -/
def recallServed (b : Boot) (s : State) : State :=
  when_ b.autoDue (recallKettle b.startEntryDue) (recallLearned b.autoDue (noteRecallError s))

/-- The recall's end: whether the last run ended without a save, reported when a start entry is due. -/
def recallEnd (b : Boot) (s : State) : State :=
  let stale := b.startEntryDue && staleKettle s
  (when_ stale (recallPick 0x13 0) s).onSys (fun y => { y with boot := { y.boot with recallDone := true, staleRun := stale } })

/-- NVM_RECALL when it is due. -/
theorem exec_nvmRecall {bad : List Nat} {s : State} (hlock : s.sys.boot.sysLocked = true) (hdone : s.sys.boot.recallDone = false)
    (hfree : s.sys.porActive = false ∧ s.sys.resetHeld = false ∧ s.sys.digestHold = none) :
    exec (.nvmRecall bad) s = .next (recallEnd s.sys.boot (recallServed s.sys.boot (noteLost s (foldS badPage bad s)))) := by
  obtain ⟨hpor, hheld, hdigest⟩ := hfree
  show execNvmRecall bad s = _
  unfold execNvmRecall
  rw [if_neg (by simp [hlock, hdone, hpor, hheld, hdigest])]
  rfl

theorem noteRecallError_frame (s : State) :
    noteRecallError s = { s with sys := { s.sys with bootErr := (noteRecallError s).sys.bootErr } } := by
  unfold noteRecallError
  cases recallError s && s.sys.bootErr == 0 <;> rfl

theorem bootErr_noteRecallError (s : State) :
    (noteRecallError s).sys.bootErr =
      if s.store.nvm.params = [] ∧ s.sys.bootErr = 0 then 4 else
      if newestKettle s = none ∧ s.store.nvm.faultSets ≠ [] ∧ s.sys.bootErr = 0 then 4 else s.sys.bootErr := by
  have read : (noteRecallError s).sys.bootErr = if recallError s && s.sys.bootErr == 0 then 4 else s.sys.bootErr := by
    unfold noteRecallError
    cases recallError s && s.sys.bootErr == 0 <;> rfl
  rw [read]
  by_cases herr : s.sys.bootErr = 0#8
  · by_cases hpar : s.store.nvm.params = [] <;> simp [recallError, herr, hpar]
  · simp [herr]

/-- The recall's end changes the Selvedge and the boot flags alone, and the Selvedge only when the last run ended without a save. -/
theorem recallEnd_frame (b : Boot) (s : State) :
    ∃ v, recallEnd b s = { s with
        selv := v
        sys := { s.sys with boot := { s.sys.boot with recallDone := true, staleRun := b.startEntryDue && staleKettle s } } } ∧
      (b.startEntryDue = false → v = s.selv) := by
  refine ⟨(recallEnd b s).selv, ?_, fun h => by simp [recallEnd, when_, h]⟩
  unfold recallEnd
  cases b.startEntryDue && staleKettle s <;> rfl

/-- No table is lost while the learned data is as it was. -/
theorem noteLost_same {s t : State} (h : t.store.nvm.learned = s.store.nvm.learned) : noteLost s t = t := by
  unfold noteLost
  split
  · next h1 h2 => simp [h, h1] at h2
  · rfl

/-- Serving the learned data changes the estimator and the phases alone. -/
theorem recallLearned_frame (all : Bool) (s : State) :
    recallLearned all s = { s with est := (recallLearned all s).est, pwr := (recallLearned all s).pwr } ∧
      (recallLearned all s).est.caddy = s.est.caddy ∧
      (recallLearned all s).est.ocv.served = (s.store.nvm.learned.head?.map (·.2)).bind (·.ocv) ∧
      (recallLearned all s).est.cap.served = (s.store.nvm.learned.head?.map (·.2)).bind (·.cap) ∧
      (recallLearned all s).est.rs.served = (s.store.nvm.learned.head?.map (·.2)).bind (·.rs) := by
  unfold recallLearned
  dsimp only
  split
  · next h => simp only [h]; exact ⟨rfl, rfl, rfl, rfl, rfl⟩
  · next v h =>
    simp only [h]
    cases all <;> exact ⟨rfl, rfl, rfl, rfl, rfl⟩


/-- With no bad page the recall starts from the state as it is. -/
theorem noteLost_foldS_nil (s : State) : noteLost s (foldS badPage [] s) = s := noteLost_same rfl

/-- Outside a start, the recall serves the learned tables and changes no more than BOOT_ERR, the estimator and the phases. -/
theorem recallServed_frame {b : Boot} {s : State} (h : b.autoDue = false) :
    ∃ e w, recallServed b s = { s with sys := (noteRecallError s).sys, est := e, pwr := w } ∧ e.caddy = s.est.caddy ∧
      e.ocv.served = (s.store.nvm.learned.head?.map (·.2)).bind (·.ocv) ∧
      e.cap.served = (s.store.nvm.learned.head?.map (·.2)).bind (·.cap) ∧
      e.rs.served = (s.store.nvm.learned.head?.map (·.2)).bind (·.rs) := by
  obtain ⟨frame, caddy, tables⟩ := recallLearned_frame false (noteRecallError s)
  have served : recallServed b s = recallLearned false (noteRecallError s) := by
    unfold recallServed
    rw [h]
    rfl
  rw [noteRecallError_frame] at frame caddy tables
  rw [served, noteRecallError_frame]
  exact ⟨_, _, frame, caddy, tables⟩

/-- With no bad page and no start due, the learned tables are served. -/
theorem answers_nvmRecall_tables {s : State}
    (hdue : s.sys.boot.sysLocked = true ∧ s.sys.boot.recallDone = false ∧ s.sys.boot.autoDue = false)
    (hfree : s.sys.porActive = false ∧ s.sys.resetHeld = false ∧ s.sys.digestHold = none) :
    Answers (.nvmRecall []) s (fun t => t.sys.boot.recallDone = true ∧ t.store = s.store ∧ t.chg = s.chg ∧ t.path = s.path ∧
      t.sys.bootErr = (if s.store.nvm.params = [] ∧ s.sys.bootErr = 0 then 4 else if newestKettle s = none ∧
        s.store.nvm.faultSets ≠ [] ∧ s.sys.bootErr = 0 then 4 else s.sys.bootErr) ∧
      t.est.ocv.served = (s.store.nvm.learned.head?.map (·.2)).bind (·.ocv) ∧
      t.est.cap.served = (s.store.nvm.learned.head?.map (·.2)).bind (·.cap) ∧
      t.est.rs.served = (s.store.nvm.learned.head?.map (·.2)).bind (·.rs) ∧ t.est.caddy = s.est.caddy) := by
  obtain ⟨hlock, hdone, hauto⟩ := hdue
  obtain ⟨e, w, served, caddy, ocv, cap, rs⟩ := recallServed_frame (s := s) hauto
  obtain ⟨v, ended, -⟩ := recallEnd_frame s.sys.boot (recallServed s.sys.boot s)
  refine ⟨_, exec_nvmRecall hlock hdone hfree, ?_⟩
  rw [noteLost_foldS_nil, ended, served]
  exact ⟨rfl, rfl, rfl, rfl, bootErr_noteRecallError s, ocv, cap, rs, caddy⟩

/-- A bad identification page is flagged with NVM_ID_BAD. -/
theorem answers_nvmRecall_badId {page : Nat} {s : State}
    (hdue : s.sys.boot.sysLocked = true ∧ s.sys.boot.recallDone = false ∧ s.sys.boot.autoDue = false ∧
      s.sys.boot.startEntryDue = false)
    (hfree : s.sys.porActive = false ∧ s.sys.resetHeld = false ∧ s.sys.digestHold = none) (hpage : areaPage page s = 0) :
    Answers (.nvmRecall [page]) s (fun t => t.store.nvm.idBad = true ∧ Picked 0x200 0x14 page s t) := by
  obtain ⟨hlock, hdone, hauto, hentry⟩ := hdue
  let s1 := recallPick 0x14 page (s.onNvm (fun n => { n with idBad := true }))
  have flagged : noteLost s (foldS badPage [page] s) = s1 := by
    have bad : foldS badPage [page] s = s1 := by
      show badPage page s = s1
      unfold badPage
      exact if_pos hpage
    rw [bad]
    exact noteLost_same rfl
  obtain ⟨e, w, served, -⟩ := recallServed_frame (s := s1) hauto
  obtain ⟨v, ended, quiet⟩ := recallEnd_frame s.sys.boot (recallServed s.sys.boot s1)
  refine ⟨_, exec_nvmRecall hlock hdone hfree, ?_⟩
  rw [flagged, ended, quiet hentry, served]
  exact ⟨rfl, rfl⟩

/-! ### The kettle set given back (R238, R413) -/

/-- What a start after POR gives back of a kettle set, and the sets and the run count it is read from. -/
structure GivenBack where
  caddy : Caddy
  socQ : Int
  transfers : Nat
  chgSt : ChgState
  tmrTrk : Nat
  tmrPre : Nat
  tmrCc : Nat
  cycles : Nat
  kettle : List (Nat × KettleSet)
  run : Nat

/-- The part of a state that the recall of a kettle set gives back. -/
def givenBack (s : State) : GivenBack :=
  ⟨s.est.caddy, s.est.socQ, s.path.transfers, s.chg.st, s.chg.tmrTrk, s.chg.tmrPre, s.chg.tmrCc, s.chg.cycles, s.store.nvm.kettle,
    s.store.nvm.run⟩

theorem givenBack_timeoutStatus (s : State) : givenBack (timeoutStatus s) = givenBack s := by
  unfold timeoutStatus
  split <;> rfl

theorem givenBack_chgHalt (s : State) : givenBack (chgHalt s) = givenBack s := by
  simp only [givenBack, chgHalt, State.onChg, Chg.interrupt]
  split <;> rfl

theorem givenBack_interruptedTest (k : KettleSet) (s : State) : givenBack (interruptedTest k s) = givenBack s := by
  unfold interruptedTest interruptTest
  dsimp only
  split <;> rfl

theorem givenBack_recallKettle {k : KettleSet} {s : State} (h : newestKettle s = some k) :
    givenBack (recallKettle true s) = ⟨k.est.caddy, k.est.socQ, max (storedCount 0x1031 s) k.transfers,
      if k.chg.tmoPhase ≠ 0 then .suspended else .off, k.chg.tmrTrk, k.chg.tmrPre, k.chg.tmrCc,
      max (storedCount 0x2044 s) k.chg.cycles, s.store.nvm.kettle, s.store.nvm.run⟩ := by
  unfold recallKettle
  simp only [h, givenBack_timeoutStatus, givenBack_chgHalt, givenBack_interruptedTest]
  rfl

/-- At a start after POR, the newest complete kettle set gives the caddy, the timers and the counters back. -/
theorem answers_nvmRecall_kettle {k : KettleSet} {s : State}
    (hdue : s.sys.boot.sysLocked = true ∧ s.sys.boot.recallDone = false ∧ s.sys.boot.autoDue = true ∧ s.sys.boot.startEntryDue = true)
    (hfree : s.sys.porActive = false ∧ s.sys.resetHeld = false ∧ s.sys.digestHold = none) (hkettle : newestKettle s = some k) :
    Answers (.nvmRecall []) s (fun t => t.sys.boot.recallDone = true ∧ t.est.caddy = k.est.caddy ∧ t.est.socQ = k.est.socQ ∧
      t.path.transfers = max (storedCount 0x1031 s) k.transfers ∧ t.chg.cycles = max (storedCount 0x2044 s) k.chg.cycles ∧
      t.chg.tmrTrk = k.chg.tmrTrk ∧ t.chg.tmrPre = k.chg.tmrPre ∧ t.chg.tmrCc = k.chg.tmrCc ∧
      t.chg.st = (if k.chg.tmoPhase ≠ 0 then .suspended else .off) ∧ t.sys.boot.staleRun = decide (k.run < s.store.nvm.run)) := by
  obtain ⟨hlock, hdone, hauto, hentry⟩ := hdue
  obtain ⟨v, ended, -⟩ := recallEnd_frame s.sys.boot (recallServed s.sys.boot s)
  let s3 := recallLearned true (noteRecallError s)
  have served : recallServed s.sys.boot s = recallKettle true s3 := by
    unfold recallServed
    rw [hauto, hentry]
    rfl
  have store : s3.store = s.store := by
    obtain ⟨frame, -⟩ := recallLearned_frame true (noteRecallError s)
    have kept : (noteRecallError s).store = s.store := by rw [noteRecallError_frame]
    exact (congrArg State.store frame).trans kept
  have newest (t u : State) (h : t.store.nvm.kettle = u.store.nvm.kettle) : newestKettle t = newestKettle u := by
    unfold newestKettle
    rw [h]
  have count (id : Nat) : storedCount id s3 = storedCount id s := by
    unfold storedCount
    rw [store]
  have given := givenBack_recallKettle ((newest s3 s (by rw [store])).trans hkettle)
  simp only [givenBack, GivenBack.mk.injEq, count, store] at given
  obtain ⟨caddy, socQ, transfers, st, trk, pre, cc, cycles, kettle, run⟩ := given
  have stale : staleKettle (recallKettle true s3) = decide (k.run < s.store.nvm.run) := by
    unfold staleKettle
    rw [newest _ s kettle, hkettle, run]
    rfl
  refine ⟨_, exec_nvmRecall hlock hdone hfree, ?_⟩
  rw [noteLost_foldS_nil, ended, served]
  exact ⟨rfl, caddy, socQ, transfers, cycles, trk, pre, cc, st, by simp only [hentry, stale, Bool.true_and]⟩

/-! ### The statement -/

/-- Settles O25: the recall, secure boot, the configuration image, full service and auto-start, each by the lemma about its command. -/
theorem secureBootToFullService : Obligations.SecureBootToFullService := by
  unfold Obligations.SecureBootToFullService
  refine ⟨?tables, ?kettle, ?badId, ?first, ?second, ?none, ?badImage, ?image, ?start, ?safeHold, ?groups, ?noGroup⟩
  case tables => exact fun s hdue hfree => answers_nvmRecall_tables hdue hfree
  case kettle => exact fun k s hdue hfree hkettle => answers_nvmRecall_kettle hdue hfree hkettle
  case badId => exact fun page s hdue hfree hpage => answers_nvmRecall_badId hdue hfree hpage.2
  case first =>
    intro f s a hopen hlc hlast hfree ⟨himg, hroll⟩
    exact answers_secureBoot_first hopen hlc hlast hfree (by simp [bootable, hortoOk, himg, hroll, a])
  case second => exact fun f s hopen hlc hlast hHold hboot => answers_secureBoot_second hopen hlc hlast hHold hboot
  case none =>
    intro f s _ hopen hlc hlast ⟨hB, hA⟩
    exact answers_secureBoot_none hopen hlc hlast (fun b => by cases b <;> assumption)
  case badImage => exact fun serial img s hdue himg => answers_configLoad_bad hdue himg
  case image => exact fun serial img s hdue himg => answers_configLoad_valid hdue himg
  case start => exact fun s hready hfull hstart => answers_fullService_start hready hfull hstart.1
  case safeHold => exact fun s hready hHold => answers_fullService_safeHold hready hHold
  case groups => exact fun g l s hdue hauto hdown _ => answers_autoStart_first hdue hauto hdown
  case noGroup => exact fun s hdue hauto => answers_autoStart_none hdue hauto

end Sys2Proof.Machine
